-- ==== Sys2Proof/Word.lean ====
section
/-! DEFINITION. The words of the KS8 model: bytes, card numbers, station times, and the plainest arithmetic on them
(00_scope.md section 4, Conventions). -/

namespace Sys2Proof

/-- One byte of a frame, of the reader bus or of the card store. -/
abbrev Byte := BitVec 8

/-- A card number, 32-bit unsigned (00_scope.md section 4). -/
abbrev CardNo := BitVec 32

/-- A station time: seconds since 2000-01-01 00:00:00 local, 32-bit unsigned (00_scope.md section 4). -/
abbrev StationTime := BitVec 32

/-- A bucket of the card store, the low 11 bits of a mixed card number (R60). -/
abbrev Bucket := BitVec 11

/-- A record position within a bucket, 0 to 15 (R59). -/
abbrev Position := Fin 16

/-- A container position of the station, 0 to 7. -/
abbrev Slot := Fin 8

/-- The card number that does not denote a card (00_scope.md section 4). -/
def noCard : CardNo := 0xFFFFFFFF

/-- The eight slots in ascending order. -/
def allSlots : List Slot := [0, 1, 2, 3, 4, 5, 6, 7]

/-- "Clamped: brought to the nearest end of its stated range" (00_scope.md section 4). -/
def clamp (lo hi x : Nat) : Nat := max lo (min x hi)

/-- "Saturating: held at the end of its range instead of wrapping" (00_scope.md section 4). -/
def satAdd (top a b : Nat) : Nat := min (a + b) top

end Sys2Proof
end

