-- ==== Sys2Proof/Config.lean ====
section
/-! DEFINITION. What the manual fixes for every KS8 (times, capacities, sizes) and the free values: inputs and bytes
that no rule of spec/ determines, as constants without a body. -/

namespace Sys2Proof

/-- What the pit temperature probe input gives when it is read (R31): a temperature in whole degrees, or a failed
reading (the converter reports the probe open or shorted). -/
inductive ProbeInput where
  | good (celsius : Int)
  | failed
  deriving DecidableEq, Repr, Inhabited

/-- FREE VALUE. The level that the temperature probe input takes next: after each reading of it, and with each idle
millisecond. No command of the table moves that input, so nothing constrains it (log entry 5). -/
opaque Config.probeLevel : Nat → ProbeInput

/-- FREE VALUE. The bytes left in an item whose write was cut off: event number, then byte number (R63 says only that
the check fails; log entry 6). -/
opaque Config.cutOffByte : Nat → Nat → Byte

/-- FREE VALUE. By how much, less one, the check byte of a cut-off item differs from a correct check (R63; log entry 6).
Any value below 255 leaves a failed check and every failed check is reached. -/
opaque Config.cutOffError : Nat → Fin 255

/-- FREE VALUE. What became of a write whose transaction timed out while the block was idle: 0 not written, 1 written,
2 cut off (R66 leaves all three open; log entry 6). -/
opaque Config.timeoutFate : Nat → Fin 3

/-- Flood clear hold, a fixed 10 min, in ms (R29). -/
def Config.floodHoldMs : Nat := 600000
/-- Post-session delay, 10 s, in ms (R33). -/
def Config.postSessionMs : Nat := 10000
/-- Lift overtime, 900 s, in ms (R146). -/
def Config.liftOvertimeMs : Nat := 900000
/-- Spacing of the pings of a burst, in ms (R36). -/
def Config.pingSpacingMs : Nat := 60
/-- A ping without an edge by then is invalid, in ms after its emission (R36). -/
def Config.pingWindowMs : Nat := 25
/-- Ends of the echo time range, in microseconds: the blanking and the window (R36). -/
def Config.echoMinUs : Nat := 900
def Config.echoMaxUs : Nat := 25000
/-- A poll without an answer ends then, in ms (R96). -/
def Config.pollMs : Nat := 20
/-- A SIGNAL frame occupies the bus for at most this time, in ms (R96). -/
def Config.signalMs : Nat := 5
/-- A LOST reader is due this long after its last poll began, in ms (R96). -/
def Config.lostPollMs : Nat := 1000
/-- A store transaction without a complete answer ends then, in ms (R64). -/
def Config.storeMs : Nat := 5
/-- A captured tip of at least this many tenths of a second qualifies (R30, R147). -/
def Config.qualifyingTenths : Nat := 20

/-- Capacities of a port's queues, in frames (R177). -/
def Config.requestRoom : Nat := 4
def Config.responseRoom : Nat := 8
def Config.noticeRoom : Nat := 16
/-- Places of the Station Log and its reserve (R171, R172). -/
def Config.logPlaces : Nat := 256
def Config.logReserve : Nat := 8
/-- Records held at which LOG_LEVEL is posted, and below which its state is armed again (R176). -/
def Config.logLevelHigh : Nat := 192
def Config.logLevelLow : Nat := 128
/-- Room for records in a LOG_FETCH response, in bytes (R191). -/
def Config.fetchRoom : Nat := 50
/-- Waiting charges at which a charged card is denied CHARGE_BACKLOG (R106). -/
def Config.chargeBacklog : Nat := 8
/-- Geometry of the store (R59, R62): buckets, positions per bucket. -/
def Config.bucketCount : Nat := 2048
def Config.positionCount : Nat := 16
/-- Writes of a format: cleared header, 2048 directory entries, valid header (R74). -/
def Config.formatWrites : Nat := 2050

end Sys2Proof
end

