-- ==== Sys2Proof/Syntax.lean ====
section
/-! DEFINITION. The commands of the KS8, one constructor for each row of spec/opcode_table.json.
A request row is the taking of the oldest frame of a port's request queue (R179): its operands stand in that frame, and
the constructor names the port. An event row names the line, slot or answer that the event is about (log entry 1). -/

namespace Sys2Proof

/-- The three message ports (00_scope.md section 1.2). -/
inductive Port where
  | office | crew | service
  deriving DecidableEq, Repr, Inhabited

/-- The five filtered input lines of a slot (R18). -/
inductive Line where
  | drumHome | drumOpen | platform | tilt | water
  deriving DecidableEq, Repr, Inhabited

/-- What became of the item of a write that did not complete DONE (R66: it "may or may not have reached the memory",
and if it was cut off part-way the item reads as damaged). -/
inductive WriteFate where
  | unwritten | written | cutOff
  deriving DecidableEq, Repr, Inhabited

/-- How the memory answers a store transaction (R64). `held`: it carries the transaction out with what it holds.
`bytes`: a read is answered with these bytes, which the memory holds from then on (it was altered or exchanged from
outside, R71); an answer of another length than the item is malformed. `busError`: an error status or a malformed
answer, with the fate of a write. -/
inductive StoreAnswer where
  | held
  | bytes (item : List Byte)
  | busError (fate : WriteFate)
  deriving DecidableEq, Repr, Inhabited

/-- One constructor for each row of spec/opcode_table.json, in the table's order. -/
inductive Instr where
  -- requests taken from a port queue
  | stationStatus (p : Port)
  | slotQuery (p : Port)
  | stationConfig (p : Port)
  | slotConfig (p : Port)
  | slotRemove (p : Port)
  | profileWrite (p : Port)
  | hoursWrite (p : Port)
  | toneWrite (p : Port)
  | timeSet (p : Port)
  | timeQuery (p : Port)
  | fillSet (p : Port)
  | rangeNow (p : Port)
  | demandAdd (p : Port)
  | demandCancel (p : Port)
  | demandList (p : Port)
  | logFetch (p : Port)
  | logRelease (p : Port)
  | batchBegin (p : Port)
  | batchData (p : Port)
  | batchEnd (p : Port)
  | batchAbort (p : Port)
  | cardQuery (p : Port)
  | cacheNormal (p : Port)
  | cacheFrozen (p : Port)
  | cacheFlush (p : Port)
  | storeAttach (p : Port)
  | storeFormat (p : Port)
  | restart (p : Port)
  | crewOpen (p : Port)
  | crewClose (p : Port)
  | custody (p : Port)
  | custodyRelease (p : Port)
  | present (p : Port)
  | serviceHold (p : Port)
  | serviceRelease (p : Port)
  | outputTestDrumRelease (p : Port)
  | outputTestHatchRelease (p : Port)
  | outputTestTone (p : Port)
  | unknownRequest (p : Port)
  -- the partner's side of a port: bytes written in one select period; bytes clocked out in one select period
  | frameWrite (p : Port) (frame : List Byte)
  | frameRead (p : Port) (clocked : Nat)
  -- pit lines: the new raw level, and the ms of elapsed time that passed before it
  | rawLevelChange (k : Slot) (l : Line) (level : Bool) (afterMs : Nat)
  | filterTimeElapsed (k : Slot) (l : Line)
  | drumJam (k : Slot)
  | floodOff (k : Slot)
  | dueTimePassed (k : Slot)
  | postSessionDelayEnd (k : Slot)
  -- the burst in flight: an echo edge at slot k, t microseconds after the emission of the ping
  | pingEmit
  | echoEdge (k : Slot) (t : Nat)
  | pingTimeout
  -- reader bus
  | readerDue (k : Slot)
  | readerAnswer (frame : List Byte)
  | pollTimeout
  | signalSent
  -- timers of intakes, custody, crew session, output tests
  | idleTimeout (k : Slot)
  | custodyWaitExpiry
  | raiseTimeout
  | liftOvertime
  | linkLoss
  | outputTestEnd (k : Slot)
  -- store bus
  | transactionComplete (a : StoreAnswer)
  | transactionTimeout (fate : WriteFate)
  | headerReadComplete (a : StoreAnswer)
  -- station clock
  | hourEvent
  | dayEvent
  | clockWrap
  -- supply and reset
  | powerOn (backupLost : Bool)
  | resetLine
  | mainSupplyLoss
  deriving DecidableEq, Repr

end Sys2Proof
end

