-- ==== Sys2Proof/WellFormed.lean ====
section
/-! DEFINITION. Which commands are well formed: the operands that an outside partner can produce on the wires. Slots,
ports and lines are well formed by their types. -/

namespace Sys2Proof

/-- An answer carries at most the bytes of the largest store item, a record of 16 bytes (R189). -/
def StoreAnswer.wellFormed : StoreAnswer → Bool
  | .bytes item => item.length ≤ 16
  | .held => true
  | .busError _ => true

/-- The operand checks: an echo edge belongs to a ping at most 25 ms old (R36); a reader's answer is at least one byte
(an absent answer is POLL_TIMEOUT, R97); a store answer fits an item (R189). Every other operand is free. -/
def Instr.wellFormed : Instr → Bool
  | .echoEdge _ t => t ≤ Config.echoMaxUs
  | .readerAnswer frame => !frame.isEmpty
  | .transactionComplete a => a.wellFormed
  | .headerReadComplete a => a.wellFormed
  | .stationStatus _ | .slotQuery _ | .stationConfig _ | .slotConfig _ | .slotRemove _ | .profileWrite _
  | .hoursWrite _ | .toneWrite _ | .timeSet _ | .timeQuery _ | .fillSet _ | .rangeNow _ | .demandAdd _
  | .demandCancel _ | .demandList _ | .logFetch _ | .logRelease _ | .batchBegin _ | .batchData _ | .batchEnd _
  | .batchAbort _ | .cardQuery _ | .cacheNormal _ | .cacheFrozen _ | .cacheFlush _ | .storeAttach _
  | .storeFormat _ | .restart _ | .crewOpen _ | .crewClose _ | .custody _ | .custodyRelease _ | .present _
  | .serviceHold _ | .serviceRelease _ | .outputTestDrumRelease _ | .outputTestHatchRelease _
  | .outputTestTone _ | .unknownRequest _ => true
  | .frameWrite _ _ | .frameRead _ _ => true
  | .rawLevelChange _ _ _ _ | .filterTimeElapsed _ _ | .drumJam _ | .floodOff _ | .dueTimePassed _
  | .postSessionDelayEnd _ | .pingEmit | .pingTimeout => true
  | .readerDue _ | .pollTimeout | .signalSent => true
  | .idleTimeout _ | .custodyWaitExpiry | .raiseTimeout | .liftOvertime | .linkLoss | .outputTestEnd _ => true
  | .transactionTimeout _ => true
  | .hourEvent | .dayEvent | .clockWrap => true
  | .powerOn _ | .resetLine | .mainSupplyLoss => true

end Sys2Proof
end

