-- ==== Sys2Proof/Decode.lean ====
section
/-! DEFINITION. The word a row of spec/opcode_table.json spells. The table gives no row of the KS8 any bits (every
"fields" list is empty and no row has "fixed"), so no word spells a command. -/

namespace Sys2Proof

/-- The command that a word spells by the table's bits: none, since no row gives bits. -/
def decodeTableWord (_nbits _w : Nat) : Option Instr := none

end Sys2Proof
end

