-- ==== Sys2Proof/Machine/State.lean ====
section
/-! DEFINITION. Everything the KS8 holds, as plain data, and the machine right after reset (R185).
Times named "at" or "since" or "deadline" are elapsed milliseconds since the last reset (R126). -/

namespace Sys2Proof.Machine

/-! ## Container Table (chapter 1) -/

/-- Waste fractions, in code order (R1, R187). -/
inductive Fraction where
  | residual | paper | glass | packaging | organic | textile
  deriving DecidableEq, Repr, Inhabited

/-- The eight bars, in code order (R12, R187). -/
inductive Bar where
  | full | unmeasured | lift | service | flood | drum | out | log
  deriving DecidableEq, Repr, Inhabited

/-- The bar set of a slot: at most one of each bar (R12). -/
structure BarSet where
  full : Bool := false
  unmeasured : Bool := false
  lift : Bool := false
  service : Bool := false
  flood : Bool := false
  drum : Bool := false
  out : Bool := false
  log : Bool := false
  deriving DecidableEq, Repr, Inhabited

/-- The six filter codes (R1). -/
inductive FilterCode where
  | ms5 | ms10 | ms20 | ms40 | ms80 | ms160
  deriving DecidableEq, Repr, Inhabited

/-- A slot record; the defaults are the reset values (R1). -/
structure SlotRecord where
  fraction : Fraction := .residual
  cls : Nat := 0
  charged : Bool := false
  vNom : Nat := 500
  hS : Nat := 800
  hU : Nat := 300
  drumVolume : Nat := 10
  packing : Nat := 500
  weight : Nat := 8
  tFull : Nat := 900
  tReopen : Nat := 600
  tDem : Nat := 800
  readerEnable : Bool := false
  drumFilter : FilterCode := .ms20
  platformFilter : FilterCode := .ms80
  tiltFilter : FilterCode := .ms40
  waterFilter : FilterCode := .ms160
  deriving DecidableEq, Repr, Inhabited

/-- Period kinds (R8). -/
inductive PeriodKind where
  | month
  | days (n : Nat)
  deriving DecidableEq, Repr, Inhabited

/-- Offline policies, in code order (R8). -/
inductive OfflinePolicy where
  | refuse | cachedOnly | admitAny
  deriving DecidableEq, Repr, Inhabited

/-- The station configuration; the defaults are the reset values (R8). Times in seconds, the interval in minutes. -/
structure StationConfig where
  idleTimeout : Nat := 15
  jamTime : Nat := 30
  custodyWait : Nat := 30
  raiseTimeout : Nat := 180
  linkTimeout : Nat := 120
  rangingInterval : Nat := 60
  periodKind : PeriodKind := .month
  policies : Vector OfflinePolicy 6 := Vector.replicate 6 .refuse
  offlineLimit : Nat := 1
  deriving DecidableEq, Repr

/-- Kinds of a rights profile (R9). -/
inductive ProfileKind where
  | resident | crew
  deriving DecidableEq, Repr, Inhabited

/-- A rights profile; `marks` holds one mark per class position, true for PERMIT, and its length is the map length (R9). -/
structure Profile where
  kind : ProfileKind := .resident
  marks : List Bool := []
  sessionLimit : Nat := 1
  quota : Nat := 0
  deriving DecidableEq, Repr, Inhabited

/-- The hours of one fraction; bit w of `restDays` is weekday w (R10, R119). -/
structure FractionHours where
  openMinute : Nat := 0
  closeMinute : Nat := 1440
  restDays : BitVec 7 := 0
  deriving DecidableEq, Repr, Inhabited

/-- Tone patterns, in code order (R11). -/
inductive TonePattern where
  | grant | deny | full | fault
  deriving DecidableEq, Repr, Inhabited

/-- One tone table entry: step, duration in 10 ms, repeats (R11). -/
structure ToneEntry where
  step : Nat
  duration : Nat
  repeats : Nat
  deriving DecidableEq, Repr, Inhabited

/-- The tone table; the defaults are the reset values (R11). -/
structure ToneTable where
  grant : ToneEntry := ⟨40, 20, 1⟩
  deny : ToneEntry := ⟨16, 40, 2⟩
  full : ToneEntry := ⟨24, 30, 3⟩
  fault : ToneEntry := ⟨12, 60, 1⟩
  deriving DecidableEq, Repr, Inhabited

/-! ## Pit lines and their tracking (chapter 2) -/

/-- A pending change of a filtered input: the moment the raw input left the accepted level, and the filter time it is
timed with (R20, R21). Its level is the opposite of the accepted one. -/
structure Pending where
  since : Nat
  filterMs : Nat
  deriving DecidableEq, Repr, Inhabited

/-- One filtered input: the raw level at the pin, the accepted level, the pending change (R20). -/
structure Filter where
  raw : Bool := false
  accepted : Bool := false
  pending : Option Pending := none
  deriving DecidableEq, Repr, Inhabited

/-- The five filtered inputs of a slot (R18). -/
structure Lines where
  drumHome : Filter := {}
  drumOpen : Filter := {}
  platform : Filter := {}
  tilt : Filter := {}
  water : Filter := {}
  deriving DecidableEq, Repr, Inhabited

/-- States of drum turn tracking (R22). -/
inductive DrumState where
  | atHome | turning | reachedOpen
  deriving DecidableEq, Repr, Inhabited

/-- Pit line tracking of a slot: the drum turn with its start and jam timer (R22, R24), the moment FLOOD was set and
the flood clear hold (R28, R29), and the tip capture, `some` start time while TIMING (R30). -/
structure Tracking where
  drum : DrumState := .atHome
  turnStart : Nat := 0
  jamDeadline : Option Nat := none
  floodSince : Nat := 0
  floodHold : Option Nat := none
  tipStart : Option Nat := none
  deriving DecidableEq, Repr, Inhabited

/-- The kind of a running output test that releases a lock (R184). -/
inductive ReleaseTest where
  | drum | hatch
  deriving DecidableEq, Repr, Inhabited

/-- The lock outputs of a slot, engaged unless released (R19), and the output test that runs on it (R184). -/
structure Locks where
  drumReleased : Bool := false
  hatchReleased : Bool := false
  test : Option (ReleaseTest × Nat) := none
  deriving DecidableEq, Repr, Inhabited

/-- Ranging causes, in code order, the highest class first (R32, R187). -/
inductive RangeCause where
  | lift | office | session | periodic
  deriving DecidableEq, Repr, Inhabited

/-- What the Ranging Unit holds for one slot: the due time (R33), the time of its last completed burst or else of its
configuration (R8), the post-session delay (R33) and the RANGE_NOW waiters (R34). -/
structure RangeSlot where
  due : Option Nat := none
  lastBurst : Nat := 0
  delay : Option Nat := none
  waitOffice : Bool := false
  waitService : Bool := false
  deriving DecidableEq, Repr, Inhabited

/-- One fill record; the defaults are the reset values (R39). -/
structure FillRecord where
  e : Nat := 0
  f : Nat := 0
  h : Nat := 0
  fr : Nat := 0
  a : Nat := 0
  hf : Nat := 255
  measured : Bool := false
  silent : Nat := 0
  deriving DecidableEq, Repr, Inhabited

/-! ## Intakes and readers (chapter 6) -/

/-- Admission kinds, in code order (R187). -/
inductive Admission where
  | normal | offlineCached | offlineAny
  deriving DecidableEq, Repr, Inhabited

/-- End reasons of a session, in code order (R115, R187). -/
inductive EndReason where
  | limit | idle | full | preempted | cardWithdrawn | drumFault | barred
  deriving DecidableEq, Repr, Inhabited

/-- The session context (R108). `turnBelongs`: a turn is in progress that began while the intake was OPEN (R110). -/
structure Session where
  card : CardNo
  admission : Admission
  charged : Bool
  limit : Nat
  deposits : Nat := 0
  chargedCount : Nat := 0
  aborted : Nat := 0
  startTime : Option StationTime := none
  notUpdated : Bool := false
  withdrawal : Bool := false
  turnBelongs : Bool := false
  deriving DecidableEq, Repr, Inhabited

/-- The five states of an Intake Controller (R100). -/
inductive IntakeState where
  | idle
  | barred
  | verifying (card : CardNo)
  | opened (c : Session)
  | closing (c : Session) (reason : EndReason)
  deriving DecidableEq, Repr, Inhabited

/-- An Intake Controller: its state and its idle timer (R100, R112). -/
structure Intake where
  state : IntakeState := .idle
  idleDeadline : Option Nat := none
  deriving DecidableEq, Repr, Inhabited

/-- What the Reader Bus Controller holds for one reader: LOST or ONLINE, the unanswered count, the pending SIGNAL
(R97, R99), when its last poll began (R96) and since when it is LOST (R97). -/
structure Reader where
  lost : Bool := false
  unanswered : Nat := 0
  signal : Option TonePattern := none
  lastPoll : Option Nat := none
  lostSince : Nat := 0
  deriving DecidableEq, Repr, Inhabited

/-- All that the part holds for one slot, gathered from the blocks that own it. -/
structure SlotUnit where
  configured : Bool := false
  record : SlotRecord := {}
  bars : BarSet := {}
  lines : Lines := {}
  track : Tracking := {}
  locks : Locks := {}
  range : RangeSlot := {}
  fill : FillRecord := {}
  intake : Intake := {}
  reader : Reader := {}
  deriving DecidableEq, Repr, Inhabited

/-- The reader bus: waiting for a reader to become due, polling a slot, or sending a SIGNAL to it (R96). -/
inductive BusState where
  | waiting
  | polling (k : Slot) (began : Nat)
  | signalling (k : Slot) (began : Nat)
  deriving DecidableEq, Repr, Inhabited

/-- The Reader Bus Controller: the bus, the slot that had the last turn, and the frame last driven on the wire. -/
structure ReaderBus where
  bus : BusState := .waiting
  lastTurn : Slot := 7
  lastFrame : List Byte := []
  deriving DecidableEq, Repr, Inhabited

/-! ## Ranging Unit (chapter 2) -/

/-- One entry of the ranging queue (R32). -/
structure RangeEntry where
  slot : Slot
  cause : RangeCause
  deriving DecidableEq, Repr, Inhabited

/-- The burst in flight: slot, cause, start, temperature used, the results of the pings that have ended (`none` is the
mark invalid), and whether a ping has been emitted that has not ended (R36). -/
structure Burst where
  slot : Slot
  cause : RangeCause
  start : Nat
  temp : Int
  pings : List (Option Nat) := []
  awaiting : Bool := true
  deriving DecidableEq, Repr, Inhabited

/-- The Ranging Unit: queue, burst in flight, last good temperature, failure episode (R31, R32, R35). -/
structure Ranging where
  queue : List RangeEntry := []
  burst : Option Burst := none
  lastGood : Option Int := none
  episode : Bool := false
  deriving DecidableEq, Repr, Inhabited

/-! ## Demand Queue (chapter 8) -/

/-- Demand causes, in code and rank order (R128, R187). -/
inductive DemandCause where
  | threshold | full | order
  deriving DecidableEq, Repr, Inhabited

/-- A demand entry (R128). -/
structure DemandEntry where
  slot : Slot
  cause : DemandCause
  raised : Option StationTime
  hf : Nat
  announced : Bool
  deriving DecidableEq, Repr, Inhabited

/-! ## Card store, Store Arbiter and Card Resolver (chapters 4 and 5) -/

/-- Status of a card (R61). -/
inductive CardStatus where
  | active | suspended
  deriving DecidableEq, Repr, Inhabited

/-- A card record without its check, which is computed at every write (R61, R63). -/
structure CardRecord where
  card : CardNo
  status : CardStatus
  profile : Fin 16
  usage : Nat
  stamp : Nat
  expiry : Option Nat
  override : Option Nat
  deriving DecidableEq, Repr, Inhabited

/-- Store states, in code order (R68, R187). -/
inductive StoreState where
  | absent | unformatted | formatting | online | faulted
  deriving DecidableEq, Repr, Inhabited

/-- The header copy (R62, R68). -/
structure Header where
  marker : BitVec 32
  buckets : Nat
  positions : Nat
  check : Byte
  deriving DecidableEq, Repr, Inhabited

/-- Why a direct header read is in flight (R68, R72). -/
inductive HeaderPurpose where
  | startUp | attach
  deriving DecidableEq, Repr, Inhabited

/-- Contents of the attached memory: the bytes that differ from 0, in rising address order. -/
abbrev Memory := List Host.Cell

/-- The Card Store Interface: store state, header copy, the direct header read in flight with its start, the number of
format writes completed while FORMATTING (R68, R74), and the contents of the attached memory (R59). -/
structure Store where
  state : StoreState := .absent
  header : Option Header := none
  headerRead : Option (HeaderPurpose × Nat) := none
  format : Option Nat := none
  mem : Memory := []
  deriving DecidableEq, Repr

/-- Requesters of the Store Arbiter, in code and priority order (R75, R76, R187). -/
inductive Requester where
  | refill | charge | batch
  deriving DecidableEq, Repr, Inhabited

/-- What a REC_WRITE writes; it is turned into a record when the Arbiter grants it (R91, R164). -/
inductive RecordSource where
  | asGiven (r : CardRecord)
  | charged (r : CardRecord) (count : Nat)
  | newCard (r : CardRecord)
  deriving DecidableEq, Repr, Inhabited

/-- Store transactions (R64). A header write is a DIR_WRITE, with the marker valid or cleared (R74). -/
inductive StoreOp where
  | headerWrite (valid : Bool)
  | dirRead (b : Bucket)
  | dirWrite (b : Bucket) (occupancy : Nat)
  | recRead (b : Bucket) (p : Position)
  | recWrite (b : Bucket) (p : Position) (what : RecordSource)
  deriving DecidableEq, Repr, Inhabited

/-- A request waiting at the Arbiter; `begins` says whether it begins a new piece of work (R75). -/
structure StoreRequest where
  op : StoreOp
  begins : Bool
  deriving DecidableEq, Repr, Inhabited

/-- The transaction in flight (R64, R75); `written` is the record of a REC_WRITE as formed at the grant. -/
structure Transaction where
  requester : Requester
  op : StoreOp
  written : Option CardRecord
  start : Nat
  deriving DecidableEq, Repr, Inhabited

/-- What the Arbiter holds for one requester: its waiting request and the bucket of its present work (R75). -/
structure ArbiterSide where
  waiting : Option StoreRequest := none
  held : Option Bucket := none
  deriving DecidableEq, Repr, Inhabited

/-- The Store Arbiter (R75). -/
structure Arbiter where
  inFlight : Option Transaction := none
  refill : ArbiterSide := {}
  charge : ArbiterSide := {}
  batch : ArbiterSide := {}
  starvation : Nat := 0
  deriving DecidableEq, Repr, Inhabited

/-- A valid cache entry: record and store location (R78). -/
structure CacheEntry where
  record : CardRecord
  bucket : Bucket
  position : Position
  deriving DecidableEq, Repr, Inhabited

/-- A cache set: four ways, `none` where invalid, and the three age marks (R78, R79). `pairHigh`: the pair mark points
at pair 2-3. `lowOne`: the inner mark of pair 0-1 points at way 1. `highThree`: that of pair 2-3 points at way 3. -/
structure CacheSet where
  ways : Vector (Option CacheEntry) 4 := Vector.replicate 4 none
  pairHigh : Bool := false
  lowOne : Bool := false
  highThree : Bool := false
  deriving DecidableEq, Repr

/-- The ten requesters of lookups (R80). -/
inductive LookupRequester where
  | intake (k : Slot)
  | crewOpen
  | cardQuery
  deriving DecidableEq, Repr, Inhabited

/-- A lookup in the lookup queue (R80). -/
structure Lookup where
  requester : LookupRequester
  card : CardNo
  deriving DecidableEq, Repr, Inhabited

/-- A bucket search in progress (R67): the card, the occupancy once the directory entry has been read, whether that
entry was damaged, the next position to read, and the lowest damaged record read. -/
structure Search where
  card : CardNo
  occupancy : Option Nat := none
  dirDamaged : Bool := false
  next : Nat := 0
  firstDamaged : Option Position := none
  deriving DecidableEq, Repr, Inhabited

/-- The refill in flight; its requester is `none` once the lookup has been withdrawn (R82). -/
structure Refill where
  requester : Option LookupRequester
  search : Search
  deriving DecidableEq, Repr, Inhabited

/-- A waiting charge (R89). -/
structure Charge where
  card : CardNo
  count : Nat
  deriving DecidableEq, Repr, Inhabited

/-- How far the charge job has come (R90, R91). `readFreed`: the cached location waits to be read, but a REVOKE has taken the
card from it (log entry 32). -/
inductive ChargePhase where
  | readCached (b : Bucket) (p : Position)
  | readFreed
  | searching (q : Search)
  | writing
  deriving DecidableEq, Repr, Inhabited

/-- The charge in progress (R89, R90). -/
structure ChargeJob where
  charge : Charge
  phase : ChargePhase
  deriving DecidableEq, Repr, Inhabited

/-- The Card Resolver (R78 to R90). `queryPort`: the port whose CARD_QUERY awaits its outcome (R86). -/
structure Resolver where
  frozen : Bool := false
  sets : Vector CacheSet 32 := Vector.replicate 32 {}
  lookups : List Lookup := []
  refill : Option Refill := none
  charges : List Charge := []
  job : Option ChargeJob := none
  queryPort : Option Port := none
  deriving DecidableEq, Repr

/-! ## Station Clock (chapter 7) -/

/-- The backup domain (R118): station time, valid flag, current period, second phase. `hoursOwed` and `daysOwed` are
the model's own: hour and day boundaries the running time has reached whose events have not been taken yet. -/
structure Clock where
  time : StationTime := 0
  valid : Bool := false
  period : Nat := 0
  phaseMs : Nat := 0
  hoursOwed : Nat := 0
  daysOwed : Nat := 0
  deriving DecidableEq, Repr, Inhabited

/-! ## Lift Controller (chapter 9) -/

/-- The crew session record while OPEN, but for the lifted list, which stands in the visit in preparation (R138). -/
structure CrewSession where
  truck : Nat
  card : CardNo
  fraction : Fraction
  openTime : Option StationTime
  closePending : Bool := false
  deriving DecidableEq, Repr, Inhabited

/-- The opening in progress (R138). -/
structure Opening where
  truck : Nat
  card : CardNo
  fraction : Fraction
  deriving DecidableEq, Repr, Inhabited

/-- The visit in preparation with its lifted list (R138); `linkLost` once its session has been lost (R152). -/
structure Visit where
  truck : Nat
  card : CardNo
  openTime : Option StationTime
  lifted : List Slot := []
  linkLost : Bool := false
  deriving DecidableEq, Repr, Inhabited

/-- Custody states, in code order (R142, R187). -/
inductive CustodyState where
  | none | waiting | granted | raised | returned | closing
  deriving DecidableEq, Repr, Inhabited

/-- The custody record (R142). One timer serves the custody wait, the raise timeout and the lift overtime, since each
runs in its own state. `recorded`: the lift record has been appended, so it no longer counts in P (R172). -/
structure Custody where
  state : CustodyState := .none
  slot : Slot := 0
  orphaned : Bool := false
  truck : Nat := 0
  card : CardNo := 0
  preFill : Nat := 0
  grantTime : Option StationTime := Option.none
  tips : Nat := 0
  tipTime : Nat := 0
  qualifying : Bool := false
  overtime : Bool := false
  recorded : Bool := false
  deadline : Option Nat := Option.none
  deriving DecidableEq, Repr, Inhabited

/-- The Lift Controller (R138, R142). -/
structure Lift where
  session : Option CrewSession := none
  opening : Option Opening := none
  visit : Option Visit := none
  linkDeadline : Option Nat := none
  custody : Custody := {}
  deriving DecidableEq, Repr, Inhabited

/-! ## Batch Engine (chapter 10) -/

/-- Batch states, in code order (R157, R187). -/
inductive BatchState where
  | none | opened | ending
  deriving DecidableEq, Repr, Inhabited

/-- Reasons for which an entry is rejected, in code order (R187). -/
inductive Rejection where
  | malformed | bucketFull | notFound | store
  deriving DecidableEq, Repr, Inhabited

/-- The abort mark when present (R157). -/
inductive AbortMark where
  | request | store
  deriving DecidableEq, Repr, Inhabited

/-- The Assembler: empty, building an entry (its bytes, at most 24, and the oversize mark), or holding a closed entry
that waits for the Commit slot, with its index (R159, R160, R162). -/
inductive Assembler where
  | empty
  | building (bytes : List Byte) (oversize : Bool)
  | waiting (bytes : List Byte) (oversize : Bool) (index : Nat)
  deriving DecidableEq, Repr, Inhabited

/-- A well-formed entry (R163). -/
inductive Entry where
  | add (card : CardNo) (status : CardStatus) (profile : Fin 16) (expiry override : Option Nat)
  | revoke (card : CardNo)
  | suspend (card : CardNo)
  | resume (card : CardNo)
  | setUsage (card : CardNo) (usage stamp : Nat)
  deriving DecidableEq, Repr, Inhabited

/-- How far the commit work of an entry has come (R164 to R166). `writing`: a REC_WRITE that ends the work, or that a
DIR_WRITE of the given occupancy follows. `writingDir`: the DIR_WRITE that ends an ADD. `scanning`: REVOKE reads
position q downward. `shrinking`: the DIR_WRITE of a REVOKE, with the record to move, if any. `moving`: its REC_WRITE. -/
inductive CommitPhase where
  | searching (q : Search)
  | writing (p : Position) (thenOccupancy : Option Nat)
  | writingDir (p : Position)
  | scanning (p q : Position)
  | shrinking (p : Position) (move : Option CardRecord)
  | moving (p : Position) (r : CardRecord)
  deriving DecidableEq, Repr, Inhabited

/-- The entry in the Commit slot, with the record last written for it. -/
structure Commit where
  entry : Entry
  index : Nat
  phase : CommitPhase
  written : Option CardRecord := none
  deriving DecidableEq, Repr, Inhabited

/-- The batch record and the three staging places (R157, R159). The Inbox is full while it holds bytes. -/
structure Batch where
  state : BatchState := .none
  id : Nat := 0
  declared : Nat := 0
  packed : Bool := false
  closed : Nat := 0
  applied : Nat := 0
  rejected : Nat := 0
  first : Option (Nat × Rejection) := Option.none
  long : Bool := false
  leading : Bool := false
  abort : Option AbortMark := Option.none
  sepSeen : Bool := false
  started : Bool := false
  inbox : List Byte := []
  assembler : Assembler := .empty
  commit : Option Commit := Option.none
  deriving DecidableEq, Repr, Inhabited

/-! ## Station Log (chapter 11) -/

/-- Store item kinds, in code order (R65, R187). -/
inductive ItemKind where
  | directory | record
  deriving DecidableEq, Repr, Inhabited

/-- Failures of a transaction, in code order (R66, R187). -/
inductive Failure where
  | timeout | busError
  deriving DecidableEq, Repr, Inhabited

/-- Transaction kinds, in code order (R64, R187). -/
inductive TransKind where
  | dirRead | dirWrite | recRead | recWrite
  deriving DecidableEq, Repr, Inhabited

/-- Alerts with their fields, in code order (R171, R187). A header write has no bucket; its alert carries 0. -/
inductive Alert where
  | drumJam (k : Slot) (reachedOpen : Bool)
  | drumRecovered (k : Slot) (counted : Bool) (awayS : Nat)
  | floodOn (k : Slot)
  | floodOff (k : Slot) (minutes : Nat)
  | outUnexpected (k : Slot) (custody : CustodyState)
  | seated (k : Slot)
  | sensorSilent (k : Slot) (e : Nat)
  | readerLost (k : Slot)
  | readerBack (k : Slot) (lostS : Nat)
  | storeFault (f : Failure) (t : TransKind) (r : Requester) (bucket position : Nat)
  | storeBack (previous : StoreState)
  | damagedRecord (i : ItemKind) (bucket position : Nat) (r : Requester)
  | chargesDropped (storeLoss : Bool) (pairs : List Charge)
  | liftOvertime (k : Slot) (truck : Nat) (orphaned : Bool)
  | tempProbeFail (used : Int)
  deriving DecidableEq, Repr, Inhabited

/-- The body of a log record, of one of four kinds (R171). -/
inductive LogBody where
  | session (k : Slot) (fraction : Fraction) (c : Session) (endTime : Option StationTime) (reason : EndReason)
  | lift (k : Slot) (fraction : Fraction) (custody : Custody) (postFill : Option Nat)
  | visit (v : Visit) (closeTime : Option StationTime)
  | alert (time : Option StationTime) (a : Alert)
  deriving DecidableEq, Repr, Inhabited

/-- A log record with its sequence number (R171). -/
structure LogRecord where
  seq : Nat
  body : LogBody
  deriving DecidableEq, Repr, Inhabited

/-- The Station Log; `spent` is the level notice state SPENT (R171, R176). -/
structure StationLog where
  records : List LogRecord := []
  seq : Nat := 0
  incomplete : Bool := false
  spent : Bool := false
  deriving DecidableEq, Repr, Inhabited

/-! ## Message ports (chapter 12) -/

/-- A frame that waits to be read: a response (kind, tag, status, flags, payload) or a notice (kind, flags, payload)
(R188). -/
inductive OutFrame where
  | response (kind tag : Byte) (status : Nat) (overrun : Bool) (payload : List Byte)
  | notice (code : Nat) (lost : Bool) (payload : List Byte)
  deriving DecidableEq, Repr, Inhabited

/-- A Message Port Unit (R177). The response queue and the notice queue are read together in the order of placement,
so they are held as one list in that order. `inProgress`: kind and tag of a request that has no response yet.
`clockedOut`: the bytes the last read clocked out, the model's record of the data-out line. -/
structure PortState where
  requests : List (List Byte) := []
  outbox : List OutFrame := []
  overrun : Bool := false
  noticesLost : Bool := false
  inProgress : Option (Byte × Byte) := none
  clockedOut : List Byte := []
  deriving DecidableEq, Repr, Inhabited

/-- The three ports. -/
structure Ports where
  office : PortState := {}
  crew : PortState := {}
  service : PortState := {}
  deriving DecidableEq, Repr, Inhabited

/-- Reset kinds, in code order (R185, R187). -/
inductive ResetKind where
  | powerOn | resetLine | restart
  deriving DecidableEq, Repr, Inhabited

/-- Whether the part runs: no main supply, out of reset with the header read in flight, or after START (R185). -/
inductive RunState where
  | off | starting | running
  deriving DecidableEq, Repr, Inhabited

/-! ## The state -/

/-- Everything the KS8 holds, the attached memory, the input levels at its pins, and the commands that wait.
`now` is the elapsed time in ms since the last reset (R126). `probe` is the level at the temperature probe input.
`freeIndex` counts the free values taken (log entries 5 and 6). -/
structure State where
  run : RunState
  resetKind : ResetKind
  now : Nat
  ports : Ports
  config : StationConfig
  profiles : Vector Profile 16
  hours : Vector FractionHours 6
  tones : ToneTable
  slots : Vector SlotUnit 8
  readerBus : ReaderBus
  ranging : Ranging
  demand : List DemandEntry
  store : Store
  arbiter : Arbiter
  resolver : Resolver
  clock : Clock
  lift : Lift
  batch : Batch
  log : StationLog
  probe : ProbeInput
  freeIndex : Nat
  pending : List Instr
  deriving DecidableEq, Repr

/-- Why the machine stops with a fault. No constructor: the manual names nothing that stops the KS8 (it "refuses what it
cannot do with a stated reason", 00_scope.md section 1.1, and a refused request is answered), and every address of the
card store that the model forms lies inside the store by its type. -/
inductive Fault where
  deriving DecidableEq, Repr

/-- Why a command is refused. -/
inductive Refusal where
  /-- Raised by `exec` for a row without a meaning in this model; safe, since the run stops. No arm raises it. -/
  | notModelled (mnemonic : String)
  deriving DecidableEq, Repr

/-- The five inputs of a pit at rest (log entry 4): drum at home, platform seated, chamber not turned, no tilt, dry.
At the end of a reset each filter takes its raw level as its accepted level (R21). -/
def restLines : Lines :=
  { drumHome := { raw := true, accepted := true }, platform := { raw := true, accepted := true } }

/-- The machine right after a POWER_ON reset that found the backup domain lost (R185, R118): the header read of start-up
is in flight (R68), so START has not been posted. Values that spec/ does not give: log entries 3, 4 and 5. -/
def State.reset : State where
  run := .starting
  resetKind := .powerOn
  now := 0
  ports := {}
  config := {}
  profiles := Vector.replicate 16 {}
  hours := Vector.replicate 6 {}
  tones := {}
  slots := Vector.replicate 8 { lines := restLines }
  readerBus := {}
  ranging := {}
  demand := []
  store := { headerRead := some (.startUp, 0) }
  arbiter := {}
  resolver := {}
  clock := {}
  lift := {}
  batch := {}
  log := {}
  probe := .failed
  freeIndex := 0
  pending := []

end Sys2Proof.Machine
end

