-- ==== Sys2Proof/Machine/Ops.lean ====
section
/-! DEFINITION. The named operations over the state: the slots, the message ports, elapsed and station time, the
attached memory. -/

namespace Sys2Proof.Machine

/-! ## Slots -/

/-- What the part holds for slot k. -/
def State.slot (s : State) (k : Slot) : SlotUnit := s.slots[k]

/-- Replace what the part holds for slot k. -/
def State.setSlot (k : Slot) (u : SlotUnit) (s : State) : State := { s with slots := s.slots.set k u }

/-- Change what the part holds for slot k. -/
def State.modSlot (k : Slot) (f : SlotUnit → SlotUnit) (s : State) : State := s.setSlot k (f (s.slot k))

/-- Apply a change for each slot in turn, in ascending order. -/
def State.eachSlot (f : Slot → State → State) (s : State) : State := allSlots.foldl (fun t k => f k t) s

/-- One filtered input of a slot (R18). -/
def Lines.get (x : Lines) : Line → Filter
  | .drumHome => x.drumHome
  | .drumOpen => x.drumOpen
  | .platform => x.platform
  | .tilt => x.tilt
  | .water => x.water

def Lines.set (x : Lines) (f : Filter) : Line → Lines
  | .drumHome => { x with drumHome := f }
  | .drumOpen => { x with drumOpen := f }
  | .platform => { x with platform := f }
  | .tilt => { x with tilt := f }
  | .water => { x with water := f }

/-- The accepted level of a line (R20). -/
def SlotUnit.accepted (u : SlotUnit) (l : Line) : Bool := (u.lines.get l).accepted

/-- Drum home: tracking is in AT_HOME (R22). -/
def SlotUnit.drumHome (u : SlotUnit) : Bool := u.track.drum == .atHome

/-- The filter time of a code, in ms (R1). -/
def FilterCode.ms : FilterCode → Nat
  | .ms5 => 5 | .ms10 => 10 | .ms20 => 20 | .ms40 => 40 | .ms80 => 80 | .ms160 => 160

/-- The filter time now in force for a line (R18). -/
def SlotRecord.filterMs (r : SlotRecord) : Line → Nat
  | .drumHome | .drumOpen => r.drumFilter.ms
  | .platform => r.platformFilter.ms
  | .tilt => r.tiltFilter.ms
  | .water => r.waterFilter.ms

/-! ## Ports -/

def Ports.get (x : Ports) : Port → PortState
  | .office => x.office
  | .crew => x.crew
  | .service => x.service

def Ports.set (x : Ports) (q : PortState) : Port → Ports
  | .office => { x with office := q }
  | .crew => { x with crew := q }
  | .service => { x with service := q }

/-- One Message Port Unit. -/
def State.port (s : State) (p : Port) : PortState := s.ports.get p

def State.setPort (p : Port) (q : PortState) (s : State) : State := { s with ports := s.ports.set q p }

def OutFrame.isNotice : OutFrame → Bool
  | .response .. => false
  | .notice .. => true

/-- The frames of the notice queue, and those of the response queue, in placement order (R177). -/
def PortState.notices (q : PortState) : List OutFrame := q.outbox.filter OutFrame.isNotice
def PortState.responses (q : PortState) : List OutFrame := q.outbox.filter (fun f => !f.isNotice)

/-- READY: at least one frame waits to be read (R177). -/
def PortState.ready (q : PortState) : Bool := !q.outbox.isEmpty

/-- The notice queue has room for one frame (R180). -/
def PortState.noticeRoom (q : PortState) : Bool := q.notices.length < Config.noticeRoom

/-- The response queue has room for one frame (R179). -/
def PortState.responseRoom (q : PortState) : Bool := q.responses.length < Config.responseRoom

/-- A notice reaches a port: placed at the end with the notices-lost flag, or dropped with that flag set (R180).
Before START the ports hold no frames (R185), so nothing is placed. -/
def State.notify (p : Port) (code : Nat) (payload : List Byte) (s : State) : State :=
  if s.run ≠ .running then s else
  let q := s.port p
  if q.noticeRoom then
    s.setPort p { q with outbox := q.outbox ++ [.notice code q.noticesLost payload], noticesLost := false }
  else
    s.setPort p { q with noticesLost := true }

/-- Whether a notice posted now at this port is placed (R180). -/
def State.noticePlaced (p : Port) (s : State) : Bool := s.run == .running && (s.port p).noticeRoom

/-- A request that has been taken: its port, kind byte, tag and payload (R179). -/
structure Taken where
  port : Port
  kind : Byte
  tag : Byte
  payload : List Byte
  deriving DecidableEq, Repr, Inhabited

/-- A response is placed with the overrun flag, which is then clear; the request in progress ends (R178, R179). -/
def State.respond (t : Taken) (status : Nat) (payload : List Byte) (s : State) : State :=
  let q := s.port t.port
  s.setPort t.port
    { q with outbox := q.outbox ++ [.response t.kind t.tag status q.overrun payload], overrun := false, inProgress := none }

/-! ## Time -/

/-- The number of multiples of `period` seconds among the times 0 to t of the running clock, where the time wraps at
2^32 and each wrap reaches 0 again (R118, R124). -/
def boundaries (period t : Nat) : Nat :=
  (t / 4294967296) * (4294967295 / period + 1) + (t % 4294967296) / period + 1

/-- The Station Clock runs for some ms: one second each second, through a wrap that clears the valid flag (R118). The
hour and day boundaries it reaches are owed their events (R124). -/
def Clock.advance (ms : Nat) (c : Clock) : Clock :=
  let total := c.phaseMs + ms
  let t0 := c.time.toNat
  let t1 := t0 + total / 1000
  { c with
    time := BitVec.ofNat 32 t1
    valid := c.valid && decide (t1 < 4294967296)
    phaseMs := total % 1000
    hoursOwed := c.hoursOwed + (boundaries 3600 t1 - boundaries 3600 t0)
    daysOwed := c.daysOwed + (boundaries 86400 t1 - boundaries 86400 t0) }

/-- Elapsed time passes, and with it the running station time (R118, R126). -/
def State.elapse (ms : Nat) (s : State) : State := { s with now := s.now + ms, clock := s.clock.advance ms }

/-- Elapsed time reaches a deadline, if it has not passed it already. -/
def State.elapseTo (deadline : Nat) (s : State) : State := s.elapse (deadline - s.now)

/-- The station time that records and entries carry: absent while the clock is invalid (R125). -/
def State.stamp (s : State) : Option StationTime := if s.clock.valid then some s.clock.time else none

/-! ## The attached memory (R59, R189) -/

/-- What an address reads as that nothing has written (log entry 3). -/
def memoryDefault : Byte := 0

/-- Addresses rise strictly from one entry to the next and above `low`, and no entry equals the default. -/
def memoryWfFrom : Option Nat → Memory → Bool
  | _, [] => true
  | none, (a, b) :: m => b != memoryDefault && memoryWfFrom (some a) m
  | some low, (a, b) :: m => decide (low < a) && b != memoryDefault && memoryWfFrom (some a) m

/-- The one canonical form of a memory. -/
def Memory.wf (m : Memory) : Bool := memoryWfFrom none m

/-- The byte at an address. -/
def Memory.read (a : Nat) : Memory → Byte
  | [] => memoryDefault
  | (x, b) :: m => if x = a then b else if a < x then memoryDefault else Memory.read a m

/-- Write one byte, keeping the canonical form. -/
def Memory.write (a : Nat) (v : Byte) : Memory → Memory
  | [] => if v = memoryDefault then [] else [(a, v)]
  | (x, b) :: m =>
    if a < x then (if v = memoryDefault then (x, b) :: m else (a, v) :: (x, b) :: m)
    else if a = x then (if v = memoryDefault then m else (a, v) :: m)
    else (x, b) :: Memory.write a v m

/-- Write bytes at rising addresses. -/
def Memory.writeBytes (a : Nat) : List Byte → Memory → Memory
  | [], m => m
  | b :: bs, m => Memory.writeBytes (a + 1) bs (Memory.write a b m)

/-- Read n bytes at rising addresses. -/
def Memory.readBytes (a : Nat) : Nat → Memory → List Byte
  | 0, _ => []
  | n + 1, m => Memory.read a m :: Memory.readBytes (a + 1) n m

end Sys2Proof.Machine
end

