-- ==== Sys2Proof/Machine/Flags.lean ====
section
/-! DEFINITION. The conditions that the rules test: bar sets, fraction hours, the log reserve, custody, the poll
rotation. -/

namespace Sys2Proof.Machine

/-! ## Bar sets (R12, R15) -/

def BarSet.has (x : BarSet) : Bar → Bool
  | .full => x.full
  | .unmeasured => x.unmeasured
  | .lift => x.lift
  | .service => x.service
  | .flood => x.flood
  | .drum => x.drum
  | .out => x.out
  | .log => x.log

/-- The bar set with one bar put in (true) or taken out (false). -/
def BarSet.put (x : BarSet) (v : Bool) : Bar → BarSet
  | .full => { x with full := v }
  | .unmeasured => { x with unmeasured := v }
  | .lift => { x with lift := v }
  | .service => { x with service := v }
  | .flood => { x with flood := v }
  | .drum => { x with drum := v }
  | .out => { x with out := v }
  | .log => { x with log := v }

def BarSet.isEmpty (x : BarSet) : Bool :=
  !(x.full || x.unmeasured || x.lift || x.service || x.flood || x.drum || x.out || x.log)

/-- The order in which a deny names the first bar (R15). -/
def denyOrder : List Bar := [.full, .lift, .service, .flood, .drum, .out, .log, .unmeasured]

/-- The first bar of the set in the deny order (R15). -/
def BarSet.first (x : BarSet) : Option Bar := denyOrder.find? x.has

/-- The tone pattern of a deny BARRED, by its first bar (R15). -/
def Bar.tone : Bar → TonePattern
  | .full => .full
  | .lift | .service | .log => .deny
  | .flood | .drum | .out | .unmeasured => .fault

/-! ## Intake (R100, R101) -/

/-- The intake is in VERIFYING, OPEN or CLOSING (R4, R13). -/
def IntakeState.busy : IntakeState → Bool
  | .idle | .barred => false
  | .verifying _ | .opened _ | .closing _ _ => true

/-- The card the intake holds in the open-session set (R101). -/
def IntakeState.card : IntakeState → Option CardNo
  | .idle | .barred => none
  | .verifying c => some c
  | .opened x | .closing x _ => some x.card

/-- The intake holds a charged session, in OPEN or CLOSING (R101). -/
def IntakeState.chargedSession : IntakeState → Bool
  | .idle | .barred | .verifying _ => false
  | .opened x | .closing x _ => x.charged

/-- The state of an intake without a session, by its bar set (R13). -/
def restState (b : BarSet) : IntakeState := if b.isEmpty then .idle else .barred

/-! ## Custody (R142) -/

/-- The custody state on a slot (R142). -/
def State.custodyOn (s : State) (k : Slot) : CustodyState :=
  if s.lift.custody.slot = k then s.lift.custody.state else .none

/-! ## The log reserve (R172) -/

/-- Free places of the log (R172). -/
def State.logFree (s : State) : Nat := Config.logPlaces - s.log.records.length

/-- C: the charged sessions in OPEN or CLOSING (R101, R172). -/
def State.chargedSessions (s : State) : Nat := (allSlots.filter fun k => (s.slot k).intake.state.chargedSession).length

/-- P: the records in preparation (R155, R172). -/
def State.inPreparation (s : State) : Nat :=
  (if s.lift.visit.isSome then 1 else 0)
    + (if s.lift.custody.state ≠ .none ∧ s.lift.custody.recorded = false then 1 else 0)

/-- The reserve holds: free − 8 > C + P (R172). -/
def State.reserveHolds (s : State) : Bool :=
  s.chargedSessions + s.inPreparation + Config.logReserve < s.logFree

/-- One more record in preparation may be added: free − C − P ≥ 1 (R172). -/
def State.admitsPreparation (s : State) : Bool := s.chargedSessions + s.inPreparation + 1 ≤ s.logFree

/-! ## Fraction hours (R10) -/

/-- A moment is within hours: minute of day m, weekday d (R10). -/
def FractionHours.within (h : FractionHours) (m d : Nat) : Bool :=
  !h.restDays.getLsbD d &&
    (if h.openMinute < h.closeMinute then decide (h.openMinute ≤ m) && decide (m < h.closeMinute)
     else if h.closeMinute < h.openMinute then decide (h.openMinute ≤ m) || decide (m < h.closeMinute)
     else true)

/-! ## Enumerations as numbers, in the order of R187 -/

def Fraction.code : Fraction → Nat
  | .residual => 0 | .paper => 1 | .glass => 2 | .packaging => 3 | .organic => 4 | .textile => 5

def Fraction.ofCode : Nat → Option Fraction
  | 0 => some .residual | 1 => some .paper | 2 => some .glass | 3 => some .packaging | 4 => some .organic
  | 5 => some .textile | _ => none

def Fraction.index : Fraction → Fin 6
  | .residual => 0 | .paper => 1 | .glass => 2 | .packaging => 3 | .organic => 4 | .textile => 5

/-- The offline policy and the hours of a fraction (R8, R10). -/
def StationConfig.policy (c : StationConfig) (f : Fraction) : OfflinePolicy := c.policies[f.index]
def State.hoursOf (s : State) (f : Fraction) : FractionHours := s.hours[f.index]

def ToneTable.get (t : ToneTable) : TonePattern → ToneEntry
  | .grant => t.grant | .deny => t.deny | .full => t.full | .fault => t.fault

def ToneTable.set (t : ToneTable) (e : ToneEntry) : TonePattern → ToneTable
  | .grant => { t with grant := e }
  | .deny => { t with deny := e }
  | .full => { t with full := e }
  | .fault => { t with fault := e }

/-! ## Reader rotation (R96) -/

/-- The rotation holds every slot that is CONFIGURED and has reader enable set (R96). -/
def SlotUnit.inRotation (u : SlotUnit) : Bool := u.configured && u.record.readerEnable

/-- A reader is due: ONLINE, or LOST and at least 1 s past the start of its last poll (R96). -/
def Reader.isDue (r : Reader) (now : Nat) : Bool :=
  !r.lost || (match r.lastPoll with | none => true | some t => decide (t + Config.lostPollMs ≤ now))

end Sys2Proof.Machine
end

