-- ==== Sys2Proof/Machine/Calendar.lean ====
section
/-! DEFINITION. The calendar of the Station Clock and the quota periods (R119, R122). -/

namespace Sys2Proof.Machine

/-- Day number of a station time (R119). -/
def dayNumber (t : Nat) : Nat := t / 86400
/-- Second of day (R119). -/
def secondOfDay (t : Nat) : Nat := t % 86400
/-- Minute of day, 0 to 1439 (R119). -/
def minuteOfDay (t : Nat) : Nat := secondOfDay t / 60
/-- Weekday, Monday 0 to Sunday 6 (R119). -/
def weekday (t : Nat) : Nat := (dayNumber t + 5) % 7

/-- The leap-year rule of the Gregorian calendar (R119). -/
def isLeap (y : Nat) : Bool := y % 4 == 0 && (y % 100 != 0 || y % 400 == 0)

def yearLength (y : Nat) : Nat := if isLeap y then 366 else 365

/-- Lengths of the months January to December (R119). -/
def monthLengths (y : Nat) : List Nat := [31, if isLeap y then 29 else 28, 31, 30, 31, 30, 31, 31, 30, 31, 30, 31]

/-- Count years on from y while the day lies beyond it: the year and the day within it (R119). -/
def yearFrom : Nat → Nat → Nat → Nat × Nat
  | 0, y, d => (y, d)
  | fuel + 1, y, d => if d < yearLength y then (y, d) else yearFrom fuel (y + 1) (d - yearLength y)

/-- Count months on from m while the day lies beyond them: the month and the day of month from 0 (R119). -/
def monthFrom : List Nat → Nat → Nat → Nat × Nat
  | [], m, d => (m, d)
  | n :: ns, m, d => if d < n then (m, d) else monthFrom ns (m + 1) (d - n)

/-- A calendar moment: the six fields of TIME_SET and TIME_QUERY (R120, R121). -/
structure Calendar where
  year : Nat
  month : Nat
  day : Nat
  hour : Nat
  minute : Nat
  second : Nat
  deriving DecidableEq, Repr, Inhabited

/-- The calendar reading of a station time. The 32-bit range spans the years 2000 to 2136 (R118, R119). -/
def calendarOf (t : Nat) : Calendar :=
  let yd := yearFrom 137 2000 (dayNumber t)
  let md := monthFrom (monthLengths yd.1) 1 yd.2
  { year := yd.1, month := md.1, day := md.2 + 1,
    hour := secondOfDay t / 3600, minute := minuteOfDay t % 60, second := t % 60 }

/-- Days of the n years that follow year y, y included. -/
def daysOfYears : Nat → Nat → Nat
  | 0, _ => 0
  | n + 1, y => yearLength y + daysOfYears n (y + 1)

/-- Every field lies within its range (R120). -/
def Calendar.wellFormed (c : Calendar) : Bool :=
  decide (2000 ≤ c.year) && decide (c.year ≤ 2135) && decide (1 ≤ c.month) && decide (c.month ≤ 12) && decide (1 ≤ c.day)
    && decide (c.day ≤ (monthLengths c.year).getD (c.month - 1) 0)
    && decide (c.hour ≤ 23) && decide (c.minute ≤ 59) && decide (c.second ≤ 59)

/-- The station time that the fields name (R119, R120). -/
def Calendar.time (c : Calendar) : Nat :=
  (daysOfYears (c.year - 2000) 2000 + ((monthLengths c.year).take (c.month - 1)).sum + (c.day - 1)) * 86400
    + c.hour * 3600 + c.minute * 60 + c.second

/-- The period number of a station time under a period kind (R122). -/
def periodOf (kind : PeriodKind) (t : Nat) : Nat :=
  match kind with
  | .month => ((calendarOf t).year - 2000) * 12 + ((calendarOf t).month - 1)
  | .days n => dayNumber t / n

end Sys2Proof.Machine
end

