-- ==== Sys2Proof/Machine/Operands.lean ====
section
/-! DEFINITION. The operand forms: how fields stand in the payloads of requests, responses and notices (R187), the
request kinds with their codes, permissions and payload lengths (R181, R187), and the frame checks (R179). -/

namespace Sys2Proof.Machine

/-! ## Fields (R187): most significant byte first -/

def u8 (n : Nat) : List Byte := [BitVec.ofNat 8 n]
def u16 (n : Nat) : List Byte := [BitVec.ofNat 8 (n / 256), BitVec.ofNat 8 n]
def u32 (n : Nat) : List Byte :=
  [BitVec.ofNat 8 (n / 16777216), BitVec.ofNat 8 (n / 65536), BitVec.ofNat 8 (n / 256), BitVec.ofNat 8 n]
/-- A two-valued field: 1 for set and 0 for clear. -/
def flag (b : Bool) : List Byte := u8 (if b then 1 else 0)
/-- An optional field: a presence byte, then the field when present. -/
def optional (enc : Nat → List Byte) : Option Nat → List Byte
  | none => u8 0
  | some n => u8 1 ++ enc n
/-- A signed byte, in two's complement. -/
def i8 (z : Int) : List Byte := [BitVec.ofInt 8 z]
def encSlot (k : Slot) : List Byte := u8 k.val
def encTime (t : Option StationTime) : List Byte := optional u32 (t.map BitVec.toNat)

/-- Fields of a payload, by byte offset; a byte beyond the payload reads as 0 (the lengths are checked first, R179). -/
def byteAt (bs : List Byte) (i : Nat) : Nat := (bs.getD i 0).toNat
def u16At (bs : List Byte) (i : Nat) : Nat := byteAt bs i * 256 + byteAt bs (i + 1)
def u32At (bs : List Byte) (i : Nat) : Nat := u16At bs i * 65536 + u16At bs (i + 2)
/-- A two-valued field of a request: any value but 0 counts as set (log entry 12). -/
def flagAt (bs : List Byte) (i : Nat) : Bool := byteAt bs i != 0
/-- A slot number; none above 7. -/
def slotAt (bs : List Byte) (i : Nat) : Option Slot := if h : byteAt bs i < 8 then some ⟨byteAt bs i, h⟩ else none

/-! ## Enumerations (R187) -/

def Bar.code : Bar → Nat
  | .full => 0 | .unmeasured => 1 | .lift => 2 | .service => 3 | .flood => 4 | .drum => 5 | .out => 6 | .log => 7
/-- A bar set as one byte, the bar codes as bit numbers. -/
def encBars (x : BarSet) : List Byte :=
  u8 (([Bar.full, .unmeasured, .lift, .service, .flood, .drum, .out, .log].map
    fun b => if x.has b then 2 ^ b.code else 0).sum)
def IntakeState.code : IntakeState → Nat
  | .idle => 0 | .barred => 1 | .verifying _ => 2 | .opened _ => 3 | .closing _ _ => 4
def CustodyState.code : CustodyState → Nat
  | .none => 0 | .waiting => 1 | .granted => 2 | .raised => 3 | .returned => 4 | .closing => 5
def StoreState.code : StoreState → Nat
  | .absent => 0 | .unformatted => 1 | .formatting => 2 | .online => 3 | .faulted => 4
def Admission.code : Admission → Nat
  | .normal => 0 | .offlineCached => 1 | .offlineAny => 2
def EndReason.code : EndReason → Nat
  | .limit => 0 | .idle => 1 | .full => 2 | .preempted => 3 | .cardWithdrawn => 4 | .drumFault => 5 | .barred => 6
def ResetKind.code : ResetKind → Nat
  | .powerOn => 0 | .resetLine => 1 | .restart => 2
def BatchState.code : BatchState → Nat
  | .none => 0 | .opened => 1 | .ending => 2
def RangeCause.code : RangeCause → Nat
  | .lift => 0 | .office => 1 | .session => 2 | .periodic => 3
def DemandCause.code : DemandCause → Nat
  | .threshold => 0 | .full => 1 | .order => 2
def CardStatus.code : CardStatus → Nat
  | .active => 0 | .suspended => 1
def Requester.code : Requester → Nat
  | .refill => 0 | .charge => 1 | .batch => 2
def TransKind.code : TransKind → Nat
  | .dirRead => 0 | .dirWrite => 1 | .recRead => 2 | .recWrite => 3
def Failure.code : Failure → Nat
  | .timeout => 0 | .busError => 1
def ItemKind.code : ItemKind → Nat
  | .directory => 0 | .record => 1
def Rejection.code : Rejection → Nat
  | .malformed => 0 | .bucketFull => 1 | .notFound => 2 | .store => 3
def AbortMark.code : AbortMark → Nat
  | .request => 0 | .store => 1
def OfflinePolicy.code : OfflinePolicy → Nat
  | .refuse => 0 | .cachedOnly => 1 | .admitAny => 2
def OfflinePolicy.ofCode : Nat → Option OfflinePolicy
  | 0 => some .refuse | 1 => some .cachedOnly | 2 => some .admitAny | _ => none
def ProfileKind.code : ProfileKind → Nat
  | .resident => 0 | .crew => 1
def ProfileKind.ofCode : Nat → Option ProfileKind
  | 0 => some .resident | 1 => some .crew | _ => none
def TonePattern.ofCode : Nat → Option TonePattern
  | 0 => some .grant | 1 => some .deny | 2 => some .full | 3 => some .fault | _ => none

/-- Status codes (R187). -/
inductive Status where
  | ok | accepted | unknownKind | notPermitted | badLength | badField | busy | wrongState | noSession | storeOffline
  | logFull | wrongFraction | alreadyLifted | serviceHold | containerOut
  deriving DecidableEq, Repr, Inhabited

def Status.code : Status → Nat
  | .ok => 0 | .accepted => 1 | .unknownKind => 2 | .notPermitted => 3 | .badLength => 4 | .badField => 5 | .busy => 6
  | .wrongState => 7 | .noSession => 8 | .storeOffline => 9 | .logFull => 10 | .wrongFraction => 11
  | .alreadyLifted => 12 | .serviceHold => 13 | .containerOut => 14

/-- Notice kinds (R182). -/
inductive NoticeKind where
  | start | barChange | storeState | periodChange | rangeResult | cardResult | demandRaised | demandCleared | crewReady
  | custodyState | liftDone | batchReport | logLevel
  deriving DecidableEq, Repr, Inhabited

def NoticeKind.code : NoticeKind → Nat
  | .start => 0xC0 | .barChange => 0xC1 | .storeState => 0xC2 | .periodChange => 0xC3 | .rangeResult => 0xC4
  | .cardResult => 0xC5 | .demandRaised => 0xC6 | .demandCleared => 0xC7 | .crewReady => 0xC8 | .custodyState => 0xC9
  | .liftDone => 0xCA | .batchReport => 0xCB | .logLevel => 0xCC

/-- A notice of a kind, posted to one port. -/
def State.post (p : Port) (n : NoticeKind) (payload : List Byte) (s : State) : State := s.notify p n.code payload

/-- A request is answered with a status and a payload. -/
def State.answer (t : Taken) (st : Status) (payload : List Byte) (s : State) : State := s.respond t st.code payload

/-- A refused request is answered with no payload (R188). -/
def State.refuse (t : Taken) (st : Status) (s : State) : State := s.respond t st.code []

/-! ## Records of the Container Table as fields -/

/-- The nearest of the six codes; midway takes the longer (R2). -/
def FilterCode.ofMs (ms : Nat) : FilterCode :=
  if ms ≤ 7 then .ms5 else if ms ≤ 14 then .ms10 else if ms ≤ 29 then .ms20 else if ms ≤ 59 then .ms40
  else if ms ≤ 119 then .ms80 else .ms160

/-- Each numeric field brought into range, in the order of the table in R1 (R2). -/
def SlotRecord.clamped (r : SlotRecord) : SlotRecord :=
  let hS := clamp 800 3500 r.hS
  let tFull := clamp 500 990 r.tFull
  { r with
    cls := clamp 0 63 r.cls
    vNom := clamp 500 5000 r.vNom
    hS := hS
    hU := clamp 300 (hS - 150) r.hU
    drumVolume := clamp 10 120 r.drumVolume
    packing := clamp 50 1000 r.packing
    weight := clamp 4 16 r.weight
    tFull := tFull
    tReopen := clamp 300 (tFull - 50) r.tReopen
    tDem := clamp 300 tFull r.tDem }

/-- A slot record in 28 bytes (R1, R187). -/
def encSlotRecord (r : SlotRecord) : List Byte :=
  u8 r.fraction.code ++ u8 r.cls ++ flag r.charged ++ u16 r.vNom ++ u16 r.hS ++ u16 r.hU ++ u8 r.drumVolume
    ++ u16 r.packing ++ u8 r.weight ++ u16 r.tFull ++ u16 r.tReopen ++ u16 r.tDem ++ flag r.readerEnable
    ++ u16 r.drumFilter.ms ++ u16 r.platformFilter.ms ++ u16 r.tiltFilter.ms ++ u16 r.waterFilter.ms

/-- The slot record of a SLOT_CONFIG payload, from byte i on; none for a fraction code above 5 (R2, R187). -/
def slotRecordAt (bs : List Byte) (i : Nat) : Option SlotRecord :=
  (Fraction.ofCode (byteAt bs i)).map fun f =>
    { fraction := f, cls := byteAt bs (i + 1), charged := flagAt bs (i + 2), vNom := u16At bs (i + 3)
      hS := u16At bs (i + 5), hU := u16At bs (i + 7), drumVolume := byteAt bs (i + 9), packing := u16At bs (i + 10)
      weight := byteAt bs (i + 12), tFull := u16At bs (i + 13), tReopen := u16At bs (i + 15), tDem := u16At bs (i + 17)
      readerEnable := flagAt bs (i + 19), drumFilter := .ofMs (u16At bs (i + 20))
      platformFilter := .ofMs (u16At bs (i + 22)), tiltFilter := .ofMs (u16At bs (i + 24))
      waterFilter := .ofMs (u16At bs (i + 26)) }

def encPeriodKind : PeriodKind → List Byte
  | .month => u8 0 ++ u8 0
  | .days n => u8 1 ++ u8 n

/-- The station configuration in 18 bytes; the policies are a list with its count (R8, R187). -/
def encConfig (c : StationConfig) : List Byte :=
  u8 c.idleTimeout ++ u8 c.jamTime ++ u8 c.custodyWait ++ u16 c.raiseTimeout ++ u16 c.linkTimeout ++ u8 c.rangingInterval
    ++ encPeriodKind c.periodKind ++ u8 6 ++ (c.policies.toList.map OfflinePolicy.code).flatMap u8 ++ u8 c.offlineLimit

/-- A period kind field, n clamped to 7..92; none for an unknown code (R8). The byte behind the code MONTH is not looked at
(DESIGN CHOICE, log entry 39). -/
def periodKindAt (bs : List Byte) (i : Nat) : Option PeriodKind :=
  match byteAt bs i with
  | 0 => some .month
  | 1 => some (.days (clamp 7 92 (byteAt bs (i + 1))))
  | _ => none

/-- The six policies of a STATION_CONFIG payload; none for an unknown code (R8). -/
def policiesAt (bs : List Byte) (i : Nat) : Option (Vector OfflinePolicy 6) :=
  match OfflinePolicy.ofCode (byteAt bs i), OfflinePolicy.ofCode (byteAt bs (i + 1)), OfflinePolicy.ofCode (byteAt bs (i + 2)),
    OfflinePolicy.ofCode (byteAt bs (i + 3)), OfflinePolicy.ofCode (byteAt bs (i + 4)), OfflinePolicy.ofCode (byteAt bs (i + 5)) with
  | some a, some b, some c, some d, some e, some f => some #v[a, b, c, d, e, f]
  | _, _, _, _, _, _ => none

/-- The configuration a STATION_CONFIG payload asks for, clamped; none for a structural error (R8): an unknown code, or
a policy list that is not exactly six entries by its count and its length (log entry 13). -/
def configAt (bs : List Byte) : Option StationConfig :=
  if byteAt bs 10 = 6 ∧ bs.length = 18 then
    match periodKindAt bs 8, policiesAt bs 11 with
    | some k, some ps =>
      some { idleTimeout := clamp 5 60 (byteAt bs 0), jamTime := clamp 10 120 (byteAt bs 1)
             custodyWait := clamp 5 120 (byteAt bs 2), raiseTimeout := clamp 60 600 (u16At bs 3)
             linkTimeout := clamp 30 300 (u16At bs 5), rangingInterval := clamp 5 240 (byteAt bs 7)
             periodKind := k, policies := ps, offlineLimit := clamp 1 8 (byteAt bs 17) }
    | _, _ => none
  else none

/-- Bit i of a map sent one bit per position, position 0 in bit 0 of the first byte (R187). -/
def markAt (bs : List Byte) (i : Nat) (pos : Nat) : Bool := (bs.getD (i + pos / 8) 0).getLsbD (pos % 8)

/-- Eight or fewer marks as one byte. -/
def encMarkByte (ms : List Bool) : Byte := BitVec.ofNat 8 (ms.foldr (fun m n => (if m then 1 else 0) + 2 * n) 0)

/-- A rights map in as many bytes as its length needs; `fuel` bytes at most (R187). -/
def encMarks : Nat → List Bool → List Byte
  | 0, _ => []
  | _ + 1, [] => []
  | fuel + 1, m :: ms => encMarkByte ((m :: ms).take 8) :: encMarks fuel ((m :: ms).drop 8)

/-- A stored profile: kind, map length, session limit, quota, then the marks (R9, log entry 14). -/
def encProfile (p : Profile) : List Byte :=
  u8 p.kind.code ++ u8 p.marks.length ++ u8 p.sessionLimit ++ u16 p.quota ++ encMarks 8 p.marks

def encHours (h : FractionHours) : List Byte := u16 h.openMinute ++ u16 h.closeMinute ++ u8 h.restDays.toNat

def encTone (e : ToneEntry) : List Byte := u8 e.step ++ u8 e.duration ++ u8 e.repeats

def encCalendar (c : Calendar) : List Byte :=
  u16 c.year ++ u8 c.month ++ u8 c.day ++ u8 c.hour ++ u8 c.minute ++ u8 c.second

/-! ## Request kinds (R181) -/

inductive RequestKind where
  | stationStatus | slotQuery | stationConfig | slotConfig | slotRemove | profileWrite | hoursWrite | toneWrite | timeSet
  | timeQuery | fillSet | rangeNow | demandAdd | demandCancel | demandList | logFetch | logRelease | batchBegin | batchData
  | batchEnd | batchAbort | cardQuery | cacheControl | storeAttach | storeFormat | restart | crewOpen | crewClose | custody
  | custodyRelease | present | serviceHold | serviceRelease | outputTest
  deriving DecidableEq, Repr, Inhabited

/-- The kind of a code; every other code is an unknown kind (R181). -/
def RequestKind.ofCode : Nat → Option RequestKind
  | 0x01 => some .stationStatus | 0x02 => some .slotQuery | 0x03 => some .stationConfig | 0x04 => some .slotConfig
  | 0x05 => some .slotRemove | 0x06 => some .profileWrite | 0x07 => some .hoursWrite | 0x08 => some .toneWrite
  | 0x09 => some .timeSet | 0x0A => some .timeQuery | 0x0B => some .fillSet | 0x0C => some .rangeNow
  | 0x0D => some .demandAdd | 0x0E => some .demandCancel | 0x0F => some .demandList | 0x10 => some .logFetch
  | 0x11 => some .logRelease | 0x12 => some .batchBegin | 0x13 => some .batchData | 0x14 => some .batchEnd
  | 0x15 => some .batchAbort | 0x16 => some .cardQuery | 0x17 => some .cacheControl | 0x18 => some .storeAttach
  | 0x19 => some .storeFormat | 0x1A => some .restart | 0x20 => some .crewOpen | 0x21 => some .crewClose
  | 0x22 => some .custody | 0x23 => some .custodyRelease | 0x24 => some .present | 0x28 => some .serviceHold
  | 0x29 => some .serviceRelease | 0x2A => some .outputTest | _ => none

/-- The ports at which a kind is permitted (R181). -/
def RequestKind.permitted : RequestKind → Port → Bool
  | .stationStatus, _ | .slotQuery, _ => true
  | .timeQuery, p | .rangeNow, p | .logFetch, p | .cardQuery, p => p != .crew
  | .crewOpen, p | .crewClose, p | .custody, p | .custodyRelease, p | .present, p => p == .crew
  | .serviceHold, p | .serviceRelease, p | .outputTest, p => p == .service
  | .stationConfig, p | .slotConfig, p | .slotRemove, p | .profileWrite, p | .hoursWrite, p | .toneWrite, p
  | .timeSet, p | .fillSet, p | .demandAdd, p | .demandCancel, p | .demandList, p | .logRelease, p | .batchBegin, p
  | .batchData, p | .batchEnd, p | .batchAbort, p | .cacheControl, p | .storeAttach, p | .storeFormat, p
  | .restart, p => p == .office

/-- The payload lengths a kind admits: the length of its fields, or any that holds its fixed fields (R187). -/
def RequestKind.admits : RequestKind → Nat → Bool
  | .stationConfig, n => 12 ≤ n
  | .profileWrite, n => 6 ≤ n
  | .batchData, _ => true
  | .slotConfig, n => n == 29
  | .timeSet, n | .crewOpen, n => n == 7
  | .hoursWrite, n => n == 6
  | .fillSet, n | .batchBegin, n => n == 5
  | .toneWrite, n | .cardQuery, n => n == 4
  | .outputTest, n => n == 3
  | .logFetch, n | .logRelease, n => n == 2
  | .slotQuery, n | .slotRemove, n | .rangeNow, n | .demandAdd, n | .demandCancel, n | .cacheControl, n | .custody, n
  | .custodyRelease, n | .serviceHold, n | .serviceRelease, n => n == 1
  | .stationStatus, n | .timeQuery, n | .demandList, n | .batchEnd, n | .batchAbort, n | .storeAttach, n
  | .storeFormat, n | .restart, n | .crewClose, n | .present, n => n == 0

/-- The request rows of the table. CACHE_CONTROL and OUTPUT_TEST have three rows each, by action and test kind. -/
inductive RequestRow where
  | kind (k : RequestKind)
  | cacheNormal | cacheFrozen | cacheFlush
  | testDrum | testHatch | testTone
  | unknown
  deriving DecidableEq, Repr, Inhabited

/-- The length byte lies within 3 to 64 and equals the number of bytes written (R179, check 1). -/
def lengthGood (frame : List Byte) : Bool :=
  decide (3 ≤ byteAt frame 0) && decide (byteAt frame 0 ≤ 64) && byteAt frame 0 == frame.length

/-- The row that the taking of a frame is. A frame that fails check 1 or 2 of R179 is UNKNOWN_REQUEST. A CACHE_CONTROL
whose action is none of the three, and an OUTPUT_TEST whose kind is none, belong to the first row of their kind (log
entry 9). -/
def rowOf (frame : List Byte) : RequestRow :=
  if !lengthGood frame then .unknown else
  match RequestKind.ofCode (byteAt frame 1) with
  | none => .unknown
  | some .cacheControl =>
    match byteAt frame 3 with
    | 1 => .cacheFrozen
    | 2 => .cacheFlush
    | _ => .cacheNormal
  | some .outputTest =>
    match byteAt frame 4 with
    | 1 => .testHatch
    | 2 => .testTone
    | _ => .testDrum
  | some k => .kind k

end Sys2Proof.Machine
end

