-- ==== Sys2Proof/Machine/StoreItems.lean ====
section
/-! DEFINITION. The items of the card store: bucket index, addresses, byte layouts, checks (R59 to R63, R189). -/

namespace Sys2Proof.Machine

/-- The bucket index of a card number: n XOR n>>11 XOR n>>22, low 11 bits (R60). -/
def bucketOf (n : CardNo) : Bucket := (n ^^^ (n >>> 11) ^^^ (n >>> 22)).setWidth 11

/-- The cache set of a card: bucket index modulo 32 (R60, R78). -/
def setOf (n : CardNo) : Fin 32 := ⟨(bucketOf n).toNat % 32, Nat.mod_lt _ (by decide)⟩

/-- The bytes of an item sum to this with its check (R189). -/
def byteSum (bs : List Byte) : Byte := bs.foldl (· + ·) 0

/-- The check byte of the other bytes of an item or reader frame: all sum to 0xFF modulo 256 (R189, R190). -/
def checkByte (bs : List Byte) : Byte := 0xFF - byteSum bs

/-- An item with its check at the end (R63). -/
def withCheck (bs : List Byte) : List Byte := bs ++ [checkByte bs]

/-- The check of an item read is correct (R63). -/
def checkGood (bs : List Byte) : Bool := byteSum bs == 0xFF

/-! ## Addresses (R189) -/

def headerAddress : Nat := 0
def dirAddress (b : Bucket) : Nat := 16 + 2 * b.toNat
def recordAddress (b : Bucket) (p : Position) : Nat := 4112 + 256 * b.toNat + 16 * p.val

/-! ## Header (R62, R74, R189) -/

/-- The header as it is written: with its marker, or with its first marker byte cleared (R74, R189). -/
def encHeader (valid : Bool) : List Byte :=
  withCheck ((if valid then [0x4B] else [0x00]) ++ [0x53, 0x38, 0x01] ++ u16 Config.bucketCount ++ u8 Config.positionCount)

/-- The header that eight bytes hold. -/
def headerAt (bs : List Byte) : Header :=
  { marker := BitVec.ofNat 32 (u32At bs 0), buckets := u16At bs 4, positions := byteAt bs 6, check := bs.getD 7 0 }

/-- A header is valid: marker, bucket count, positions, check (R62). -/
def headerValid (bs : List Byte) : Bool :=
  checkGood bs && (headerAt bs).marker == 0x4B533801 && (headerAt bs).buckets == Config.bucketCount
    && (headerAt bs).positions == Config.positionCount

/-- The header copy as a field: its items as stored, 0 where there is none (R72, R187). -/
def encHeaderCopy : Option Header → List Byte
  | some h => u32 h.marker.toNat ++ u16 h.buckets ++ u8 h.positions ++ [h.check]
  | none => u32 0 ++ u16 0 ++ u8 0 ++ u8 0

/-! ## Directory entries (R62) -/

def encDir (occupancy : Nat) : List Byte := withCheck (u8 occupancy)

/-- The occupancy of a directory entry; none for a damaged one (R62). -/
def dirAt (bs : List Byte) : Option Nat :=
  if checkGood bs && byteAt bs 0 ≤ Config.positionCount then some (byteAt bs 0) else none

/-! ## Card records (R61, R189) -/

/-- A card record in 16 bytes with a fresh check, an absent part written as 0 (R63, R189). -/
def encRecord (r : CardRecord) : List Byte :=
  withCheck (u32 r.card.toNat ++ u8 r.status.code ++ u8 r.profile.val ++ u16 r.usage ++ u16 r.stamp
    ++ u8 ((if r.expiry.isSome then 1 else 0) + (if r.override.isSome then 2 else 0))
    ++ u16 (r.expiry.getD 0) ++ u16 (r.override.getD 0))

/-- The optional parts that presence marks name, with the values that stand at bytes i and i + 2. -/
def partIf (marks bit : Nat) (v : Nat) : Option Nat := if marks.testBit bit then some v else none

/-- The fields of a record's 16 bytes when they are ones a card may have: status, profile, presence marks and card
number (R61). -/
def recordFields (bs : List Byte) : Option CardRecord :=
  let card : CardNo := BitVec.ofNat 32 (u32At bs 0)
  let marks := byteAt bs 10
  if h : byteAt bs 5 < 16 then
    if byteAt bs 4 ≤ 1 ∧ marks < 4 ∧ card ≠ noCard then
      some { card := card, status := if byteAt bs 4 = 0 then .active else .suspended, profile := ⟨byteAt bs 5, h⟩
             usage := u16At bs 6, stamp := u16At bs 8
             expiry := partIf marks 0 (u16At bs 11), override := partIf marks 1 (u16At bs 13) }
    else none
  else none

/-- The record that 16 bytes of bucket b hold; none for a damaged one (R61). -/
def recordAt (b : Bucket) (bs : List Byte) : Option CardRecord :=
  if checkGood bs then
    match recordFields bs with
    | some r => if bucketOf r.card = b then some r else none
    | none => none
  else none

/-! ## Transactions on the memory (R64) -/

/-- The address and the length of the item of a transaction (R189). -/
def StoreOp.address : StoreOp → Nat
  | .headerWrite _ => headerAddress
  | .dirRead b | .dirWrite b _ => dirAddress b
  | .recRead b p | .recWrite b p _ => recordAddress b p

def StoreOp.size : StoreOp → Nat
  | .headerWrite _ => 8
  | .dirRead _ | .dirWrite _ _ => 2
  | .recRead _ _ | .recWrite _ _ _ => 16

def StoreOp.isWrite : StoreOp → Bool
  | .headerWrite _ | .dirWrite _ _ | .recWrite _ _ _ => true
  | .dirRead _ | .recRead _ _ => false

/-- The kind of a transaction (R64). -/
def StoreOp.kind : StoreOp → TransKind
  | .headerWrite _ | .dirWrite _ _ => .dirWrite
  | .dirRead _ => .dirRead
  | .recRead _ _ => .recRead
  | .recWrite _ _ _ => .recWrite

/-- The bucket a transaction addresses; the header has none. -/
def StoreOp.bucket : StoreOp → Option Bucket
  | .headerWrite _ => none
  | .dirRead b | .dirWrite b _ | .recRead b _ | .recWrite b _ _ => some b

/-- The position a transaction addresses, for a record. -/
def StoreOp.position : StoreOp → Nat
  | .recRead _ p | .recWrite _ p _ => p.val
  | .headerWrite _ | .dirRead _ | .dirWrite _ _ => 0

/-- The bytes that a write puts down, with a fresh check (R63). -/
def Transaction.bytes (t : Transaction) : List Byte :=
  match t.op with
  | .headerWrite v => encHeader v
  | .dirWrite _ n => encDir n
  | .recWrite _ _ _ => match t.written with | some r => encRecord r | none => []
  | .dirRead _ | .recRead _ _ => []

/-- FREE VALUE. The bytes of a cut-off item: nothing is said of them but that the check fails (R63, log entry 6). -/
def cutOffBytes (event size : Nat) : List Byte :=
  let body := (List.range (size - 1)).map (Config.cutOffByte event)
  body ++ [checkByte body + 1 + BitVec.ofNat 8 (Config.cutOffError event).val]

/-- A write that is cut off leaves its item with a failed check (R63). -/
def State.cutOffItem (t : Transaction) (s : State) : State :=
  if t.op.isWrite then
    { s with
      store := { s.store with mem := Memory.writeBytes t.op.address (cutOffBytes s.freeIndex t.op.size) s.store.mem }
      freeIndex := s.freeIndex + 1 }
  else s

/-- A write puts its item down whole (R63, R64). -/
def State.putItem (t : Transaction) (s : State) : State :=
  if t.op.isWrite then
    { s with store := { s.store with mem := Memory.writeBytes t.op.address t.bytes s.store.mem } }
  else s

/-- What became of a write that did not complete DONE (R66). -/
def State.applyFate (fate : WriteFate) (t : Transaction) (s : State) : State :=
  match fate with
  | .unwritten => s
  | .written => s.putItem t
  | .cutOff => s.cutOffItem t

end Sys2Proof.Machine
end

