-- ==== Sys2Proof/Machine/Bars.lean ====
section
/-! DEFINITION. Changes of a slot's bar set, with their notices and their effect on an intake without a session
(R12, R13, R14). The effect on an open session stands in Sessions.lean. -/

namespace Sys2Proof.Machine

/-- The payload of BAR_CHANGE: slot, bar, set or cleared, bar set after the change (R14). -/
def barChangePayload (k : Slot) (b : Bar) (v : Bool) (after : BarSet) : List Byte :=
  encSlot k ++ u8 b.code ++ flag v ++ encBars after

/-- BAR_CHANGE goes to OFFICE, and to CREW while a crew session is OPEN (R14). -/
def State.postBarChange (k : Slot) (b : Bar) (v : Bool) (s : State) : State :=
  let p := barChangePayload k b v (s.slot k).bars
  let s := s.post .office .barChange p
  if s.lift.session.isSome then s.post .crew .barChange p else s

/-- An intake without a session follows the bar set between IDLE and BARRED (R13). -/
def IntakeState.follow (b : BarSet) : IntakeState → IntakeState
  | .idle | .barred => restState b
  | x => x

/-- Put a bar in the set of a configured slot, or take it out. Not a change: nothing happens (R12). -/
def State.changeBar (k : Slot) (b : Bar) (v : Bool) (s : State) : State :=
  if (s.slot k).configured && (s.slot k).bars.has b != v then
    (s.modSlot k fun u =>
      let bars := u.bars.put v b
      { u with bars := bars, intake := { u.intake with state := u.intake.state.follow bars } }).postBarChange k b v
  else s

end Sys2Proof.Machine
end

