-- ==== Sys2Proof/Machine/Log.lean ====
section
/-! DEFINITION. The Station Log: appending, the reserve, the LOG bar, the level notice, and the layout of records for
LOG_FETCH (chapter 11, R191). -/

namespace Sys2Proof.Machine

/-! ## The LOG bar (R173) -/

/-- The LOG bar of one slot, by the reserve test: set on a configured charged slot in a shortfall, cleared where the
reserve holds or the charged flag is clear (R173). -/
def State.evaluateLogAt (short : Bool) (k : Slot) (s : State) : State :=
  if short && (s.slot k).record.charged then s.changeBar k .log true else s.changeBar k .log false

/-- The Station Log evaluates the LOG bar, over the slots in ascending order (R173). -/
def State.evaluateLog (s : State) : State :=
  let short := !s.reserveHolds
  s.eachSlot (State.evaluateLogAt short)

/-- LOG stands on some slot (R176). -/
def State.logBarStands (s : State) : Bool := allSlots.any fun k => (s.slot k).bars.log

/-! ## Appending (R171, R172, R176) -/

/-- The payload of LOG_LEVEL: records held, free places, C + P, whether the LOG bar stands (R176). -/
def logLevelPayload (s : State) : List Byte :=
  u16 s.log.records.length ++ u16 s.logFree ++ u8 (s.chargedSessions + s.inPreparation) ++ flag s.logBarStands

/-- An append that reaches 192 records while ARMED posts LOG_LEVEL and spends the state, placed or dropped (R176). -/
def State.logLevel (s : State) : State :=
  if Config.logLevelHigh ≤ s.log.records.length ∧ s.log.spent = false then
    let s' := s.post .office .logLevel (logLevelPayload s)
    { s' with log := { s'.log with spent := true } }
  else s

/-- Append a record: it takes the sequence number, the counter moves on modulo 65536, the LOG bar is evaluated and the
level notice is made (R171, R173, R176). -/
def State.logAppend (b : LogBody) (s : State) : State :=
  let l := s.log
  ({ s with log := { l with records := l.records ++ [LogRecord.mk l.seq b], seq := (l.seq + 1) % 65536 } }).evaluateLog.logLevel

/-- Hand over a record that may be discarded: appended if the reserve holds, else the incomplete mark is set (R172). -/
def State.logOffer (b : LogBody) (s : State) : State :=
  if s.reserveHolds then s.logAppend b else { s with log := { s.log with incomplete := true } }

/-- Hand over an alert, with the station time when the clock is valid (R171). -/
def State.alert (a : Alert) (s : State) : State := s.logOffer (.alert s.stamp a)

/-! ## Layout of records (R191) -/

def Alert.code : Alert → Nat
  | .drumJam .. => 0 | .drumRecovered .. => 1 | .floodOn .. => 2 | .floodOff .. => 3 | .outUnexpected .. => 4
  | .seated .. => 5 | .sensorSilent .. => 6 | .readerLost .. => 7 | .readerBack .. => 8 | .storeFault .. => 9
  | .storeBack .. => 10 | .damagedRecord .. => 11 | .chargesDropped .. => 12 | .liftOvertime .. => 13 | .tempProbeFail .. => 14

def encPairs (ps : List Charge) : List Byte := u8 ps.length ++ ps.flatMap fun c => u32 c.card.toNat ++ u16 c.count

/-- The fields of an alert in the order of R171. -/
def Alert.fields : Alert → List Byte
  | .drumJam k o => encSlot k ++ flag o
  | .drumRecovered k c t => encSlot k ++ flag c ++ u16 t
  | .floodOn k => encSlot k
  | .floodOff k t => encSlot k ++ u16 t
  | .outUnexpected k c => encSlot k ++ u8 c.code
  | .seated k => encSlot k
  | .sensorSilent k e => encSlot k ++ u16 e
  | .readerLost k => encSlot k
  | .readerBack k t => encSlot k ++ u16 t
  | .storeFault f t r b p => u8 f.code ++ u8 t.code ++ u8 r.code ++ u16 b ++ u8 p
  | .storeBack st => u8 st.code
  | .damagedRecord i b p r => u8 i.code ++ u16 b ++ u8 p ++ u8 r.code
  | .chargesDropped loss ps => flag loss ++ encPairs ps
  | .liftOvertime k t o => encSlot k ++ u16 t ++ flag o
  | .tempProbeFail t => i8 t

/-- A field that stands in a body only when its presence mark is set (R187, R191): a time, a fill. -/
def encTail (t : Option StationTime) : List Byte := match t with | some x => u32 x.toNat | none => []
def encTail16 (f : Option Nat) : List Byte := match f with | some x => u16 x | none => []

/-- Marks as one byte, bit 0 first. -/
def encBits (bs : List Bool) : List Byte := [encMarkByte bs]

/-- The body of a log record (R191). -/
def LogBody.bytes : LogBody → List Byte
  | .session k f c endTime reason =>
    u32 c.card.toNat ++ encSlot k ++ u8 f.code ++ encBits [c.charged, c.notUpdated, c.startTime.isSome, endTime.isSome]
      ++ u8 c.admission.code ++ u16 c.deposits ++ u16 c.chargedCount ++ u16 c.aborted ++ u8 reason.code
      ++ encTail c.startTime ++ encTail endTime
  | .lift k f c post =>
    encSlot k ++ u8 f.code ++ u16 c.truck ++ u32 c.card.toNat
      ++ encBits [c.qualifying, c.orphaned, c.grantTime.isSome, post.isSome, c.overtime] ++ u8 c.tips ++ u16 c.tipTime
      ++ u16 c.preFill ++ encTail16 post ++ encTail c.grantTime
  | .visit v closeTime =>
    u16 v.truck ++ u32 v.card.toNat ++ encBits [v.linkLost, v.openTime.isSome, closeTime.isSome] ++ u8 v.lifted.length
      ++ v.lifted.flatMap encSlot ++ encTail v.openTime ++ encTail closeTime
  | .alert time a => u8 a.code ++ encBits [time.isSome] ++ encTail time ++ a.fields

/-- The record kind code (R191). -/
def LogBody.kind : LogBody → Nat
  | .session .. => 1 | .lift .. => 2 | .visit .. => 3 | .alert .. => 4

/-- A record as LOG_FETCH returns it: sequence number, kind, body length, body (R191). -/
def LogRecord.bytes (r : LogRecord) : List Byte :=
  u16 r.seq ++ u8 r.body.kind ++ u8 r.body.bytes.length ++ r.body.bytes

/-- The list of an alert that has one: only CHARGES_DROPPED can be oversize (R174, R191). -/
def LogBody.pairs : LogBody → List Charge
  | .alert _ (.chargesDropped _ ps) => ps
  | _ => []

/-- The record with its list replaced, everything before the list repeated (R191). -/
def LogBody.withPairs (ps : List Charge) : LogBody → LogBody
  | .alert t (.chargesDropped loss _) => .alert t (.chargesDropped loss ps)
  | b => b

/-- A record is oversize: too long for one response (R174, R191). -/
def LogRecord.oversize (r : LogRecord) : Bool := Config.fetchRoom < r.bytes.length

/-- The pairs that fit one part of an oversize record (R191). -/
def LogRecord.pairsPerPart (r : LogRecord) : Nat :=
  (Config.fetchRoom - (LogRecord.bytes { r with body := r.body.withPairs [] }).length) / 6

/-- The number of parts of an oversize record (R174). -/
def LogRecord.parts (r : LogRecord) : Nat := (r.body.pairs.length + r.pairsPerPart - 1) / r.pairsPerPart

/-- One part of an oversize record: a record with the pairs of that part (R191, log entry 15). -/
def LogRecord.part (r : LogRecord) (n : Nat) : LogRecord :=
  { r with body := r.body.withPairs ((r.body.pairs.drop (n * r.pairsPerPart)).take r.pairsPerPart) }

/-- As many records as fit whole, from the first on (R174). -/
def fittingRecords : Nat → List LogRecord → List LogRecord
  | _, [] => []
  | room, r :: rs => if r.bytes.length ≤ room then r :: fittingRecords (room - r.bytes.length) rs else []

end Sys2Proof.Machine
end

