-- ==== Sys2Proof/Machine/Demand.lean ====
section
/-! DEFINITION. The Demand Queue: urgency order, raising, removal, notices, the manifest (chapter 8). -/

namespace Sys2Proof.Machine

/-- Urgency order of two entries (R129). -/
def DemandEntry.before (x y : DemandEntry) : Bool :=
  if x.hf ≠ y.hf then decide (x.hf < y.hf)
  else match x.raised, y.raised with
    | some a, some b => if a ≠ b then decide (a.toNat < b.toNat) else decide (x.slot < y.slot)
    | some _, none => true
    | none, some _ => false
    | none, none => decide (x.slot < y.slot)

/-- An entry takes its place in the queue (R129). -/
def demandInsert (e : DemandEntry) : List DemandEntry → List DemandEntry
  | [] => [e]
  | x :: q => if e.before x then e :: x :: q else x :: demandInsert e q

/-- The entries of other slots; the entries behind close up (R129). -/
def demandRemove (k : Slot) (q : List DemandEntry) : List DemandEntry := q.filter fun e => e.slot != k

/-- The entry of a slot (R128). -/
def State.demandOf (s : State) (k : Slot) : Option DemandEntry := s.demand.find? fun e => e.slot == k

/-- The position of a slot's entry, counted from 1 (R131, R134). -/
def State.demandPosition (s : State) (k : Slot) : Nat := s.demand.findIdx (fun e => e.slot == k) + 1

/-- Change the entry of a slot where it stands; the order does not use the changed field (R129). -/
def State.modDemand (k : Slot) (f : DemandEntry → DemandEntry) (s : State) : State :=
  { s with demand := s.demand.map fun e => if e.slot == k then f e else e }

/-- DEMAND_RAISED kinds (R134). -/
inductive RaiseKind where
  | new | cause | again
  deriving DecidableEq, Repr, Inhabited

def RaiseKind.code : RaiseKind → Nat
  | .new => 0 | .cause => 1 | .again => 2

/-- DEMAND_CLEARED reasons (R135). -/
inductive ClearReason where
  | lift | cancel | removed
  deriving DecidableEq, Repr, Inhabited

def ClearReason.code : ClearReason → Nat
  | .lift => 0 | .cancel => 1 | .removed => 2

/-- The payload of DEMAND_RAISED (R134). -/
def raisedPayload (s : State) (e : DemandEntry) (n : RaiseKind) : List Byte :=
  encSlot e.slot ++ u8 n.code ++ u8 e.cause.code ++ encTime e.raised ++ u8 e.hf ++ u16 (s.slot e.slot).fill.f
    ++ u8 (s.demandPosition e.slot) ++ u8 s.demand.length

/-- DEMAND_RAISED for a slot's entry goes to OFFICE; when it is placed the entry's announced flag is set (R134). -/
def State.announceDemand (k : Slot) (n : RaiseKind) (s : State) : State :=
  match s.demandOf k with
  | none => s
  | some e =>
    let s' := s.post .office .demandRaised (raisedPayload s e n)
    if s.noticePlaced .office then s'.modDemand k (fun x => { x with announced := true }) else s'

/-- A demand is handed over: a new entry, or nothing where the slot has one (R130, R131). -/
def State.raiseDemand (k : Slot) (c : DemandCause) (hf : Nat) (s : State) : State :=
  if (s.demandOf k).isSome then s
  else ({ s with demand := demandInsert ⟨k, c, s.stamp, hf, false⟩ s.demand }).announceDemand k .new

/-- The cause of a slot's entry changes upward; it keeps its raise time, HF and place (R130, R131). -/
def State.raiseCause (k : Slot) (c : DemandCause) (s : State) : State :=
  (s.modDemand k fun e => { e with cause := c, announced := false }).announceDemand k .cause

/-- The Fill Estimator hands over a new HF; the entry moves to its place (R55, R129). -/
def State.demandHf (k : Slot) (hf : Nat) (s : State) : State :=
  match s.demandOf k with
  | none => s
  | some e => { s with demand := demandInsert { e with hf := hf } (demandRemove k s.demand) }

/-- The payload of DEMAND_CLEARED (R135). -/
def clearedPayload (e : DemandEntry) (r : ClearReason) (left : Nat) : List Byte :=
  encSlot e.slot ++ u8 r.code ++ u8 e.cause.code ++ encTime e.raised ++ flag e.announced ++ u8 left

/-- A slot's entry is removed and DEMAND_CLEARED posted; nothing where the slot has none (R132, R133, R135). -/
def State.clearDemand (k : Slot) (r : ClearReason) (s : State) : State :=
  match s.demandOf k with
  | none => s
  | some e =>
    let q := demandRemove k s.demand
    ({ s with demand := q }).post .office .demandCleared (clearedPayload e r q.length)

/-- At an hour event one REPEAT for each entry whose flag is clear, in queue order (R134). -/
def State.repeatDemand (s : State) : State :=
  (s.demand.filter fun e => !e.announced).foldl (fun t e => t.announceDemand e.slot .again) s

/-- The slots of the manifest, with their in-demand marks: the entries of the truck's fraction in queue order, then the
other configured slots of that fraction in ascending number (R137). -/
def State.manifestSlots (s : State) (f : Fraction) : List (Slot × Bool) :=
  ((s.demand.filter fun e => (s.slot e.slot).record.fraction == f).map fun e => (e.slot, true))
    ++ ((allSlots.filter fun k =>
        (s.slot k).configured && (s.slot k).record.fraction == f && (s.demandOf k).isNone).map fun k => (k, false))

/-- One element of the manifest: slot, F, HF, bar set, in-demand mark (R137). -/
def manifestElement (s : State) (x : Slot × Bool) : List Byte :=
  encSlot x.1 ++ u16 (s.slot x.1).fill.f ++ u8 (s.slot x.1).fill.hf ++ encBars (s.slot x.1).bars ++ flag x.2

/-- The manifest as a list with its count (R137, R187). -/
def State.manifest (s : State) (f : Fraction) : List Byte :=
  u8 (s.manifestSlots f).length ++ (s.manifestSlots f).flatMap (manifestElement s)

end Sys2Proof.Machine
end

