-- ==== Sys2Proof/Machine/Custody.lean ====
section
/-! DEFINITION. Custody and the crew session: the operations that other blocks reach (R142, R144, R145, R155, R156).
The release of custody and the end of CLOSING stand in Ranging.lean. -/

namespace Sys2Proof.Machine

def State.modLift (f : Lift → Lift) (s : State) : State := { s with lift := f s.lift }
def State.modCustody (f : Custody → Custody) (s : State) : State := s.modLift fun x => { x with custody := f x.custody }

/-- Command HATCH_LOCK of a slot (R19). -/
def State.setHatch (k : Slot) (released : Bool) (s : State) : State :=
  s.modSlot k fun u => { u with locks := { u.locks with hatchReleased := released } }

/-- Command DRUM_LOCK of a slot (R19). -/
def State.setDrumLock (k : Slot) (released : Bool) (s : State) : State :=
  s.modSlot k fun u => { u with locks := { u.locks with drumReleased := released } }

/-- Tip capture of a slot goes to IDLE; a tip in progress is discarded (R30). -/
def State.dropTip (k : Slot) (s : State) : State :=
  s.modSlot k fun u => { u with track := { u.track with tipStart := none } }

/-- Custody reasons (R156). -/
inductive CustodyReason where
  | lapsed | cancelled | drumBusy | containerOut
  deriving DecidableEq, Repr, Inhabited

def CustodyReason.code : CustodyReason → Nat
  | .lapsed => 0 | .cancelled => 1 | .drumBusy => 2 | .containerOut => 3

/-- CUSTODY_STATE to CREW while the crew session is OPEN (R156): slot, new state, reason (0 unless NONE). -/
def State.postCustody (k : Slot) (st : CustodyState) (r : Option CustodyReason) (s : State) : State :=
  if s.lift.session.isSome then
    s.post .crew .custodyState (encSlot k ++ u8 st.code ++ u8 ((r.map CustodyReason.code).getD 0))
  else s

/-- Custody enters a state, with its timer; the Station Log evaluates the LOG bar (R142, R173). -/
def State.enterCustody (st : CustodyState) (deadline : Option Nat) (s : State) : State :=
  (s.modCustody fun c => { c with state := st, deadline := deadline }).evaluateLog

/-- Custody on slot k goes to NONE: LIFT is cleared, the record is cleared, tip capture is IDLE (R30, R142). -/
def State.clearCustody (k : Slot) (s : State) : State :=
  (((s.changeBar k .lift false).modCustody fun _ => {}).dropTip k).evaluateLog

/-- Custody that ends other than from CLOSING: HATCH_LOCK is engaged, LIFT cleared, custody NONE (R144 to R146, R149),
and CUSTODY_STATE carries the reason, where one is given and the custody is not ORPHANED (R156). -/
def State.endCustody (k : Slot) (r : Option CustodyReason) (s : State) : State :=
  let orphaned := s.lift.custody.orphaned
  let s := (s.setHatch k false).clearCustody k
  match r with
  | some x => if orphaned then s else s.postCustody k .none (some x)
  | none => s

/-- The Intake Controller reports slot k quiet (R114, R144): custody WAITING on it is granted, or refused
CONTAINER_OUT. Any other custody is not affected. -/
def State.slotQuiet (k : Slot) (s : State) : State :=
  if s.custodyOn k = .waiting then
    if (s.slot k).bars.out then s.endCustody k (some .containerOut)
    else
      let s := s.modCustody fun c => { c with preFill := (s.slot k).fill.f, grantTime := s.stamp }
      let s := s.setHatch k true
      (s.enterCustody .granted (some (s.now + 1000 * s.config.raiseTimeout))).postCustody k .granted none
  else s

/-- The visit is completed (R155): its record leaves P as it is appended, and the crew session goes NONE. -/
def State.completeVisit (s : State) : State :=
  match s.lift.visit with
  | none => s
  | some v =>
    ((s.modLift fun x => { x with visit := none }).logAppend (.visit v s.stamp)).modLift fun x =>
      { x with session := none, linkDeadline := none }

end Sys2Proof.Machine
end

