-- ==== Sys2Proof/Machine/Arbiter.lean ====
section
/-! DEFINITION. The Store Arbiter: requests, eligibility, the grant, the end of a piece of work (R75 to R77), and what
a granted transaction writes (R91, R164). -/

namespace Sys2Proof.Machine

def Arbiter.side (a : Arbiter) : Requester → ArbiterSide
  | .refill => a.refill
  | .charge => a.charge
  | .batch => a.batch

def Arbiter.setSide (a : Arbiter) (x : ArbiterSide) : Requester → Arbiter
  | .refill => { a with refill := x }
  | .charge => { a with charge := x }
  | .batch => { a with batch := x }

/-- The store state admits a requester's work (R69): refills, charges and commit work ONLINE, format writes FORMATTING. -/
def StoreState.admits : StoreState → Requester → Bool
  | .online, _ => true
  | .formatting, .batch => true
  | .formatting, .refill | .formatting, .charge => false
  | .absent, _ | .unformatted, _ | .faulted, _ => false

/-- The bucket is in use by another requester's work (R75, R77). -/
def Arbiter.inUse (a : Arbiter) (r : Requester) (b : Option Bucket) : Bool :=
  match b with
  | none => false
  | some b => [Requester.refill, .charge, .batch].any fun q => q != r && (a.side q).held == some b

/-- A requester's waiting request is eligible (R75). -/
def State.eligible (s : State) (r : Requester) : Bool :=
  match (s.arbiter.side r).waiting with
  | none => false
  | some q => s.store.state.admits r && (!q.begins || !s.arbiter.inUse r q.op.bucket)

/-- The requester that the grant goes to (R76). -/
def State.chooseGrant (s : State) : Option Requester :=
  if s.arbiter.starvation = 4 ∧ s.eligible .batch = true then some .batch
  else [Requester.refill, .charge, .batch].find? s.eligible

/-- The current-period rule when `count` deposits are added to a usage (R83, R91, R123): usage and stamp. -/
def addUsage (period count : Nat) (r : CardRecord) : CardRecord :=
  { r with usage := if r.stamp = period then satAdd 65535 r.usage count else min count 65535, stamp := period }

/-- The record that a REC_WRITE writes, formed at the grant with the period current then (R91, R164). -/
def RecordSource.form (period : Nat) : RecordSource → CardRecord
  | .asGiven r => r
  | .charged r count => addUsage period count r
  | .newCard r => { r with usage := 0, stamp := period }

def StoreOp.formed (period : Nat) : StoreOp → Option CardRecord
  | .recWrite _ _ w => some (w.form period)
  | .headerWrite _ | .dirRead _ | .dirWrite _ _ | .recRead _ _ => none

/-- The starvation count after a grant to r (R76). -/
def Arbiter.countAfter (a : Arbiter) (r : Requester) : Nat :=
  match r with
  | .batch => 0
  | .refill | .charge => if a.batch.waiting.isSome then min (a.starvation + 1) 4 else a.starvation

/-- Grant r's waiting request: its transaction starts at once. The first transaction of a piece of work takes the bucket
(R75, R77). The header writes and directory writes of a format hold no bucket: no request of a format `begins`. -/
def State.grant (r : Requester) (s : State) : State :=
  match (s.arbiter.side r).waiting with
  | none => s
  | some q =>
    let a := s.arbiter
    let side := a.side r
    let held := if q.begins then q.op.bucket else side.held
    { s with
      arbiter := { a.setSide { waiting := none, held := held } r with
        inFlight := some { requester := r, op := q.op, written := q.op.formed s.clock.period, start := s.now }
        starvation := a.countAfter r } }

/-- A grant is made whenever no transaction is in flight and a waiting request is eligible (R75). -/
def State.tryGrant (s : State) : State :=
  if s.arbiter.inFlight.isSome then s
  else match s.chooseGrant with
    | some r => s.grant r
    | none => s

/-- A requester places a request (R75). -/
def State.placeRequest (r : Requester) (q : StoreRequest) (s : State) : State :=
  ({ s with arbiter := s.arbiter.setSide { s.arbiter.side r with waiting := some q } r }).tryGrant

/-- A requester tells the Arbiter that its work has ended: its bucket is free (R75, R77). -/
def State.endWork (r : Requester) (s : State) : State :=
  ({ s with arbiter := s.arbiter.setSide { s.arbiter.side r with held := none } r }).tryGrant

/-- BATCH_ABORT withdraws the waiting BATCH request; the count becomes 0 (R76, R169). -/
def State.withdrawBatch (s : State) : State :=
  { s with arbiter := { s.arbiter with batch := { s.arbiter.batch with waiting := none }, starvation := 0 } }

/-- A store loss at the Arbiter: every waiting request is withdrawn, every bucket released, the count is 0 (R70, R76,
R77). -/
def State.arbiterLoss (s : State) : State :=
  { s with arbiter := { s.arbiter with refill := {}, charge := {}, batch := {}, starvation := 0 } }

/-- The busy bucket: the one held by the BATCH requester's commit work (R77). -/
def State.busyBucket (s : State) : Option Bucket := s.arbiter.batch.held

end Sys2Proof.Machine
end

