-- ==== Sys2Proof/Machine/Estimate.lean ====
section
/-! DEFINITION. The arithmetic of fill estimation (R40 to R45, R48, R50, R54, R55): whole numbers, exact products, each
division rounded as its rule states. -/

namespace Sys2Proof.Machine

/-- V_cap in dL (R1). -/
def SlotRecord.vCap (r : SlotRecord) : Nat := 10 * r.vNom

/-- V_full = floor(V_cap × T_full / 1000) (R40). -/
def SlotRecord.vFull (r : SlotRecord) : Nat := r.vCap * r.tFull / 1000

/-- F = floor(1000 × E / V_cap) (R40). -/
def SlotRecord.fillOf (r : SlotRecord) (e : Nat) : Nat := 1000 * e / r.vCap

/-- H = V_full − E if that is positive, and 0 otherwise (R40). -/
def SlotRecord.headroom (r : SlotRecord) (e : Nat) : Nat := r.vFull - e

/-- ΔE = floor((D × k + 500) / 1000), D the drum volume in dL (R48). -/
def SlotRecord.increment (r : SlotRecord) : Nat := (10 * r.drumVolume * r.packing + 500) / 1000

/-- Ceiling of a division. -/
def ceilDiv (a b : Nat) : Nat := (a + b - 1) / b

/-- The allowance n_cap of a grant (R50). -/
def SlotUnit.allowance (u : SlotUnit) : Nat := max 1 (ceilDiv (u.record.headroom u.fill.e) u.record.increment)

/-- The speed of sound in m/s, 331 + floor(3 × T / 5) (R41). Int division by a positive number is the floor. -/
def speedOfSound (temp : Int) : Nat := (331 + 3 * temp / 5).toNat

/-- d = floor(t × c / 2000) mm (R42). -/
def echoDistance (c t : Nat) : Nat := t * c / 2000

/-- A burst's reading (R43). -/
structure Reading where
  distance : Nat
  spread : Bool
  deriving DecidableEq, Repr, Inhabited

/-- The reading of the distances of the valid pings; none is the outcome NO_ECHO (R43). -/
def readingOf : List Nat → Option Reading
  | [a, b, c] =>
    let hi := max a (max b c)
    let lo := min a (min b c)
    some ⟨a + b + c - hi - lo, decide (lo + 50 < hi)⟩
  | [a, b] => some ⟨(a + b) / 2, false⟩
  | _ => none

/-- The reading of a burst: speed, distances of the valid pings, reading (R41 to R43). -/
def Burst.reading (b : Burst) : Option Reading :=
  readingOf ((b.pings.filterMap id).map (echoDistance (speedOfSound b.temp)))

/-- L = h_s − d_r, clamped to 0..h_u mm (R44). -/
def SlotRecord.level (r : SlotRecord) (d : Nat) : Nat := min (r.hS - d) r.hU

/-- M = floor(V_cap × L / h_u) dL (R44). -/
def SlotRecord.measuredVolume (r : SlotRecord) (d : Nat) : Nat := r.vCap * r.level d / r.hU

/-- The effective weight w_eff out of 16 (R45). -/
def blendWeight (u : SlotUnit) (cause : RangeCause) (spread : Bool) : Nat :=
  if !u.fill.measured || cause == .lift then 16
  else if spread then u.record.weight / 2
  else u.record.weight

/-- E + Δ with Δ = (M − E) × w_eff / 16 truncated, clamped to 0..V_cap (R45). -/
def blendEstimate (vCap e m w : Nat) : Nat :=
  let z := (e : Int) + Int.tdiv (((m : Int) - e) * w) 16
  min z.toNat vCap

/-- HF (R55). -/
def hoursToFull (h fr : Nat) : Nat := if fr = 0 then 255 else min (h / fr) 255

/-- FR + (A − FR) / 4, the division truncated (R54). -/
def nextRate (fr a : Nat) : Nat := ((fr : Int) + Int.tdiv ((a : Int) - fr) 4).toNat

end Sys2Proof.Machine
end

