-- ==== Sys2Proof/Machine/Charges.lean ====
section
/-! DEFINITION. The card cache (R78, R79), the bucket search (R67), and the charges of counted deposits (R88 to R94). -/

namespace Sys2Proof.Machine

/-! ## The card cache (R78, R79) -/

def allWays : List (Fin 4) := [0, 1, 2, 3]

/-- The way of a set that holds a card (R78). -/
def CacheSet.find (x : CacheSet) (n : CardNo) : Option (Fin 4) :=
  allWays.find? fun w => match x.ways[w] with | some e => e.record.card == n | none => false

/-- A hit on way w, or a fill into it, points the pair mark at its pair and that pair's inner mark at it (R79). -/
def CacheSet.touch (w : Fin 4) (x : CacheSet) : CacheSet :=
  match w with
  | 0 => { x with pairHigh := false, lowOne := false }
  | 1 => { x with pairHigh := false, lowOne := true }
  | 2 => { x with pairHigh := true, highThree := false }
  | 3 => { x with pairHigh := true, highThree := true }

/-- The victim of a fill: the lowest invalid way, or else the way not pointed at within the pair not pointed at (R79). -/
def CacheSet.victim (x : CacheSet) : Fin 4 :=
  match allWays.find? fun w => x.ways[w].isNone with
  | some w => w
  | none => if x.pairHigh then (if x.lowOne then 0 else 1) else (if x.highThree then 2 else 3)

/-- The cache set of a card. -/
def State.cacheSet (s : State) (n : CardNo) : CacheSet := s.resolver.sets[setOf n]

def State.modResolver (f : Resolver → Resolver) (s : State) : State := { s with resolver := f s.resolver }

def State.setCacheSet (n : CardNo) (x : CacheSet) (s : State) : State :=
  s.modResolver fun r => { r with sets := r.sets.set (setOf n) x }

/-- The valid entry of a card, if the card is cached. -/
def State.cached (s : State) (n : CardNo) : Option CacheEntry :=
  match (s.cacheSet n).find n with
  | some w => (s.cacheSet n).ways[w]
  | none => none

/-- A hit moves the age marks (R79). -/
def State.touchCache (n : CardNo) (s : State) : State :=
  match (s.cacheSet n).find n with
  | some w => s.setCacheSet n ((s.cacheSet n).touch w)
  | none => s

/-- The set without a card: each way that holds it becomes invalid, the age marks are kept (R95). -/
def CacheSet.without (n : CardNo) (x : CacheSet) : CacheSet :=
  { x with ways := x.ways.map fun w => w.filter fun e => e.record.card != n }

/-- A card leaves the cache (R95). -/
def State.dropCached (n : CardNo) (s : State) : State := s.setCacheSet n ((s.cacheSet n).without n)

/-- Change the entry of a card, the age marks kept; an uncached card is left uncached (R88, R92, R95). -/
def State.modCached (n : CardNo) (f : CacheEntry → CacheEntry) (s : State) : State :=
  match (s.cacheSet n).find n, s.cached n with
  | some w, some e => s.setCacheSet n { s.cacheSet n with ways := (s.cacheSet n).ways.set w (some (f e)) }
  | _, _ => s

/-- A fill: the victim takes the entry and the age marks point at it (R79, R83). -/
def State.fillCache (e : CacheEntry) (s : State) : State :=
  let x := s.cacheSet e.record.card
  s.setCacheSet e.record.card ({ x with ways := x.ways.set x.victim (some e) }.touch x.victim)

/-- A flush: every entry invalid, the age marks at their reset positions (R71, R73, R78, R79, R87). -/
def State.flushCache (s : State) : State := s.modResolver fun r => { r with sets := Vector.replicate 32 {} }

/-! ## What a completed transaction hands to its requester (R64, R65) -/

/-- An occupancy (`none`: a damaged entry), the record at a position (`none`: damaged), or the end of a write. -/
inductive Handed where
  | directory (occupancy : Option Nat)
  | record (p : Position) (r : Option CardRecord)
  | written
  deriving DecidableEq, Repr, Inhabited

/-! ## The bucket search (R67) -/

/-- How a search ends. A DAMAGED end names the lowest damaged record read, none for a damaged directory entry. -/
inductive SearchEnd where
  | found (r : CardRecord) (p : Position) (occupancy : Nat)
  | absent (occupancy : Nat)
  | damaged (occupancy : Nat) (first : Option Position)
  deriving DecidableEq, Repr, Inhabited

/-- A search reads another position or has ended. -/
inductive SearchStep where
  | read (q : Search) (p : Position)
  | ended (e : SearchEnd)
  deriving DecidableEq, Repr, Inhabited

/-- The next position below the occupancy is read; when none is left the search ends (R67). -/
def Search.next? (q : Search) : SearchStep :=
  let c := q.occupancy.getD 0
  if h : q.next < 16 then
    if q.next < c then .read q ⟨q.next, h⟩
    else if q.dirDamaged || q.firstDamaged.isSome then .ended (.damaged c q.firstDamaged) else .ended (.absent c)
  else if q.dirDamaged || q.firstDamaged.isSome then .ended (.damaged c q.firstDamaged) else .ended (.absent c)

/-- A search goes on with what its last read returned (R65, R67). -/
def Search.step (q : Search) : Handed → SearchStep
  | .directory (some c) => Search.next? { q with occupancy := some c, next := 0 }
  | .directory none => Search.next? { q with occupancy := some 0, dirDamaged := true, next := 0 }
  | .record p (some r) =>
    if r.card = q.card then .ended (.found r p (q.occupancy.getD 0)) else Search.next? { q with next := q.next + 1 }
  | .record p none => Search.next? { q with next := q.next + 1, firstDamaged := q.firstDamaged.orElse fun _ => some p }
  | .written => .read q 0

/-- The first request of a search: the directory entry of the card's bucket (R67). -/
def searchRequest (n : CardNo) (begins : Bool) : StoreRequest := ⟨.dirRead (bucketOf n), begins⟩

/-! ## Charges (R88 to R94) -/

/-- The count of the waiting charge of a card (R89). -/
def Resolver.waitingCount (r : Resolver) (n : CardNo) : Nat := ((r.charges.filter fun c => c.card == n).map Charge.count).sum

/-- The count of the charge in progress, if it is for the card (R90). -/
def Resolver.progressCount (r : Resolver) (n : CardNo) : Nat :=
  match r.job with
  | some j => if j.charge.card = n then j.charge.count else 0
  | none => 0

/-- A record with the charges still on their way to the store added (R83). -/
def State.adjusted (s : State) (r : CardRecord) : CardRecord :=
  let c := s.resolver.waitingCount r.card + s.resolver.progressCount r.card
  if c = 0 then r else addUsage s.clock.period c r

/-- A deposit joins the waiting entry of its card or makes a new entry at the end (R89). -/
def enterCharge (n : CardNo) : List Charge → List Charge
  | [] => [⟨n, 1⟩]
  | c :: cs => if c.card = n then { c with count := satAdd 65535 c.count 1 } :: cs else c :: enterCharge n cs

/-- The charge job takes the head entry when no charge is in progress, and places its first request (R90). -/
def State.takeCharge (s : State) : State :=
  match s.resolver.job, s.resolver.charges with
  | none, c :: cs =>
    match s.cached c.card with
    | some e =>
      (s.modResolver fun r => { r with charges := cs, job := some ⟨c, .readCached e.bucket e.position⟩ }).placeRequest
        .charge ⟨.recRead e.bucket e.position, true⟩
    | none =>
      (s.modResolver fun r => { r with charges := cs, job := some ⟨c, .searching { card := c.card }⟩ }).placeRequest
        .charge (searchRequest c.card true)
  | _, _ => s

/-- Write-through of a charged deposit into the cached entry of its card (R88, step 1; R123). -/
def State.chargeCache (n : CardNo) (s : State) : State :=
  s.modCached n fun e => { e with record := addUsage s.clock.period 1 e.record }

/-- A charged deposit reaches the Card Resolver: cache, then queue (R88). -/
def State.charge (n : CardNo) (s : State) : State :=
  let s := s.chargeCache n
  if s.store.state = .online then
    (s.modResolver fun r => { r with charges := enterCharge n r.charges }).takeCharge
  else s

/-- The answer to a charge: QUEUED (true) or CACHE_ONLY (R88, step 3). -/
def State.chargeQueued (s : State) : Bool := s.store.state == .online

/-- The charge in progress goes on in a new phase. -/
def State.setChargePhase (ph : ChargePhase) (s : State) : State :=
  s.modResolver fun r => { r with job := r.job.map fun j => { j with phase := ph } }

/-- DEDUCED (log entry 32). A REVOKE has taken a card from its position: a charge of the card that waits to read it there will
not take what the position still holds for the record (R95, R167). -/
def State.freeLocation (n : CardNo) (s : State) : State :=
  s.modResolver fun r => { r with job := r.job.map fun j =>
    match j.phase with
    | .readCached _ _ => if j.charge.card = n then { j with phase := .readFreed } else j
    | .readFreed | .searching _ | .writing => j }

/-- The charge in progress is removed and the next head is taken (R92, R93). -/
def State.nextCharge (s : State) : State := (s.modResolver fun r => { r with job := none }).takeCharge

/-- The record to be written has been read: REC_WRITE of the same position (R91). -/
def State.writeCharge (j : ChargeJob) (b : Bucket) (p : Position) (r : CardRecord) (s : State) : State :=
  (s.setChargePhase .writing).placeRequest .charge ⟨.recWrite b p (.charged r j.charge.count), false⟩

/-- A charge whose card is not in the store in readable form is dropped (R93). -/
def State.dropCharge (c : Charge) (s : State) : State :=
  ((s.endWork .charge).alert (.chargesDropped false [c])).nextCharge

/-- A search step of the charge job (R90, R91, R93). -/
def State.chargeSearch (j : ChargeJob) (st : SearchStep) (s : State) : State :=
  match st with
  | .read q p =>
    (s.setChargePhase (.searching q)).placeRequest .charge ⟨.recRead (bucketOf j.charge.card) p, false⟩
  | .ended (.found r p _) => s.writeCharge j (bucketOf j.charge.card) p r
  | .ended (.absent _) => s.dropCharge j.charge
  | .ended (.damaged _ _) => s.dropCharge j.charge

/-- The refresh of the cached entry by a charge write (R92, step 1). -/
def State.refreshCached (n : CardNo) (w : CardRecord) (s : State) : State :=
  if s.resolver.charges.any fun c => c.card == n then s
  else s.modCached n fun e => { e with record := { e.record with usage := w.usage, stamp := w.stamp } }

/-- A completed transaction of the charge job (R90 to R93). What a position holds that a REVOKE has freed is not the record to
be written, and the search goes on as after another card's record (DEDUCED, log entry 32). -/
def State.chargeHanded (t : Transaction) (o : Handed) (s : State) : State :=
  match s.resolver.job with
  | none => s
  | some j =>
    match j.phase, o with
    | .readCached b p, .record _ (some r) =>
      if r.card = j.charge.card then s.writeCharge j b p r
      else (s.setChargePhase (.searching { card := j.charge.card })).placeRequest .charge (searchRequest j.charge.card false)
    | .readCached _ _, _ | .readFreed, _ =>
      (s.setChargePhase (.searching { card := j.charge.card })).placeRequest .charge (searchRequest j.charge.card false)
    | .searching q, o => s.chargeSearch j (q.step o)
    | .writing, .written =>
      match t.written with
      | some w => ((s.refreshCached j.charge.card w).endWork .charge).nextCharge
      | none => (s.endWork .charge).nextCharge
    | .writing, _ => s

/-- The store leaves ONLINE: every charge is discarded into one alert (R94). -/
def State.chargesLoss (s : State) : State :=
  match (s.resolver.job.map ChargeJob.charge).toList ++ s.resolver.charges with
  | [] => s
  | p :: ps => (s.modResolver fun r => { r with charges := [], job := none }).alert (.chargesDropped true (p :: ps))

end Sys2Proof.Machine
end

