-- ==== Sys2Proof/Machine/ReaderBus.lean ====
section
/-! DEFINITION. The Reader Bus Controller: turns, POLL and SIGNAL frames, tones, the rotation (R96 to R99, R190). -/

namespace Sys2Proof.Machine

def State.modReader (k : Slot) (f : Reader → Reader) (s : State) : State :=
  s.modSlot k fun u => { u with reader := f u.reader }

def State.modBus (f : ReaderBus → ReaderBus) (s : State) : State := { s with readerBus := f s.readerBus }

/-- The POLL frame of a slot (R190). -/
def pollFrame (k : Slot) : List Byte := withCheck (encSlot k ++ [0x50])

/-- The SIGNAL frame of a slot with a tone entry (R99, R190). -/
def signalFrame (k : Slot) (e : ToneEntry) : List Byte := withCheck (encSlot k ++ [0x53] ++ encTone e)

/-- The slots in turn order after slot k, slot k last (R96). -/
def turnOrder (k : Slot) : List Slot := [k + 1, k + 2, k + 3, k + 4, k + 5, k + 6, k + 7, k]

/-- Slot k takes a turn now: it is in the rotation and its reader is due (R96). -/
def State.takesTurn (s : State) (k : Slot) : Bool := (s.slot k).inRotation && (s.slot k).reader.isDue s.now

/-- A due reader is sent one POLL (R96). -/
def State.poll (k : Slot) (s : State) : State :=
  (s.modReader k fun r => { r with lastPoll := some s.now }).modBus fun _ =>
    { bus := .polling k s.now, lastTurn := k, lastFrame := pollFrame k }

/-- The turn passes to the next slot of the rotation whose reader is due; where none is due the controller waits (R96). -/
def State.passTurn (s : State) : State :=
  match (turnOrder s.readerBus.lastTurn).find? s.takesTurn with
  | some k => s.poll k
  | none => s.modBus fun x => { x with bus := .waiting }

/-- A poll has ended: the slot's pending SIGNAL is sent, with the tone entry as it stands now, or the turn passes
(R96, R99). -/
def State.afterPoll (k : Slot) (s : State) : State :=
  match (s.slot k).reader.signal with
  | some pat =>
    (s.modReader k fun r => { r with signal := none }).modBus fun x =>
      { x with bus := .signalling k s.now, lastFrame := signalFrame k (s.tones.get pat) }
  | none => s.passTurn

/-- A slot that joins the rotation ends the wait of a waiting bus (R96). -/
def State.wakeBus (s : State) : State :=
  match s.readerBus.bus with
  | .waiting => s.passTurn
  | .polling _ _ | .signalling _ _ => s

/-- A slot leaves the rotation: its pending SIGNAL is discarded and its count becomes 0 (R96, R97). -/
def State.leaveRotation (k : Slot) (s : State) : State :=
  s.modReader k fun r => { r with signal := none, unanswered := 0 }

/-- A tone is asked for: it replaces a pending SIGNAL, or is discarded for a slot that is not in the rotation (R99). -/
def State.askTone (k : Slot) (pat : TonePattern) (s : State) : State :=
  if (s.slot k).inRotation then s.modReader k fun r => { r with signal := some pat } else s

/-- A poll of slot k is unanswered (R97). -/
def State.unanswered (k : Slot) (s : State) : State :=
  let n := min ((s.slot k).reader.unanswered + 1) 3
  let s1 := s.modReader k fun r => { r with unanswered := n }
  if n = 3 ∧ (s.slot k).reader.lost = false then
    (s1.modReader k fun r => { r with lost := true, lostSince := s.now }).alert (.readerLost k)
  else s1

/-- A poll of slot k is answered (R97). -/
def State.answered (k : Slot) (s : State) : State :=
  let r := (s.slot k).reader
  let s1 := s.modReader k fun r => { r with unanswered := 0, lost := false }
  if r.lost then s1.alert (.readerBack k (min ((s.now - r.lostSince) / 1000) 65535)) else s1

/-- What a reader answers (R98, R190). -/
inductive ReaderFrame where
  | none
  | card (n : CardNo)
  deriving DecidableEq, Repr, Inhabited

/-- The answer that a frame holds for the slot polled; none where it is malformed, fails its check or names another slot
(R97, R190). -/
def readerFrameAt (k : Slot) (bs : List Byte) : Option ReaderFrame :=
  if !checkGood bs || byteAt bs 0 != k.val then Option.none
  else if bs.length = 3 ∧ byteAt bs 1 = 0x4E then some .none
  else if bs.length = 7 ∧ byteAt bs 1 = 0x43 then some (.card (BitVec.ofNat 32 (u32At bs 2)))
  else Option.none

end Sys2Proof.Machine
end

