-- ==== Sys2Proof/Machine/Sessions.lean ====
section
/-! DEFINITION. Intake sessions: the access decision, the grant, the open session, its end, and the effect of a bar on an
open session (R13, R15, R16, R103 to R117). -/

namespace Sys2Proof.Machine

def State.modIntake (k : Slot) (f : Intake → Intake) (s : State) : State :=
  s.modSlot k fun u => { u with intake := f u.intake }

def State.setIntake (k : Slot) (x : IntakeState) (s : State) : State := s.modIntake k fun i => { i with state := x }

/-! ## Ending a session (R111, R115, R117) -/

/-- The drum home tests in their order: the end reason of the first that holds (R111). -/
def homeTest (b : BarSet) (c : Session) : Option EndReason :=
  if b.full then some .full
  else if b.flood || b.service || b.out then some .barred
  else if c.withdrawal then some .cardWithdrawn
  else if c.limit ≤ c.deposits then some .limit
  else none

/-- The session record reaches the Station Log: a charged one is always appended, an uncharged one under the reserve
rule (R117, R172). -/
def State.logSession (k : Slot) (c : Session) (reason : EndReason) (s : State) : State :=
  let body := LogBody.session k (s.slot k).record.fraction c s.stamp reason
  if c.charged then s.logAppend body else s.logOffer body

/-- A session with at least one deposit starts, or starts again, the slot's post-session delay (R33, R117). -/
def State.startDelay (k : Slot) (c : Session) (s : State) : State :=
  if 1 ≤ c.deposits then
    s.modSlot k fun u => { u with range := { u.range with delay := some (s.now + Config.postSessionMs) } }
  else s

/-- A session is closed: it leaves the open-session set, its record is handed over, the LOG bar is evaluated, the
post-session delay is started, and the slot is reported quiet (R115, R117). -/
def State.closeSession (k : Slot) (c : Session) (reason : EndReason) (s : State) : State :=
  ((((s.setIntake k (restState (s.slot k).bars)).logSession k c reason).evaluateLog).startDelay k c).slotQuiet k

/-- An open session ends: DRUM_LOCK engaged, idle timer stopped; closed at once with the drum home, else CLOSING (R115). -/
def State.endSession (k : Slot) (reason : EndReason) (s : State) : State :=
  match (s.slot k).intake.state with
  | .opened c =>
    let s1 := (s.setDrumLock k false).modIntake k fun i => { i with idleDeadline := none }
    if (s.slot k).drumHome then s1.closeSession k c reason else s1.setIntake k (.closing c reason)
  | .idle | .barred | .verifying _ | .closing _ _ => s

/-- The drum home tests of an open session (R111). -/
def State.homeTests (k : Slot) (s : State) : State :=
  match (s.slot k).intake.state with
  | .opened c =>
    match homeTest (s.slot k).bars c with
    | some r => s.endSession k r
    | none => s
  | .idle | .barred | .verifying _ | .closing _ _ => s

/-! ## Bars on an open session (R16) -/

/-- What a bar that has just entered the set does to an open session outside the ending of a turn (R16, R111). -/
def State.barOnSession (k : Slot) (b : Bar) (s : State) : State :=
  match b with
  | .drum => s.endSession k .drumFault
  | .full | .flood | .service | .out => if (s.slot k).drumHome then s.homeTests k else s
  | .lift | .log | .unmeasured => s

/-- An owner sets a bar outside the ending of a turn: the change, then its effect on an open session (R12, R16). -/
def State.setBar (k : Slot) (b : Bar) (s : State) : State :=
  if (s.slot k).configured && !(s.slot k).bars.has b then (s.changeBar k b true).barOnSession k b else s

/-- FULL, set by the estimator: within the ending of a turn its effect waits for the drum home tests (R16, R23). -/
def State.setFull (turnEnding : Bool) (k : Slot) (s : State) : State :=
  if turnEnding then s.changeBar k .full true else s.setBar k .full

/-! ## The access decision (R103 to R106) -/

/-- What a lookup answers (R80, R83, R84). -/
inductive LookupOutcome where
  | found (e : CacheEntry) (fromStore : Bool)
  | absent
  | damaged
  | storeOffline (e : Option CacheEntry)
  deriving DecidableEq, Repr, Inhabited

/-- Deny reasons (chapter 6.3). -/
inductive DenyReason where
  | barred (b : Bar) | duplicate | unknownCard | damaged | storeOffline | suspended | expired | noRight | hours | quota
  | chargeBacklog | logFull
  deriving DecidableEq, Repr, Inhabited

/-- The tone of a deny (R15, R107). -/
def DenyReason.tone : DenyReason → TonePattern
  | .barred b => b.tone
  | .duplicate | .unknownCard | .damaged | .storeOffline | .suspended | .expired | .noRight | .hours | .quota
  | .chargeBacklog | .logFull => .deny

/-- Check 3 passes with an admission and the record, if one is known, or denies (R103, R104). -/
inductive Lookedup where
  | admitted (a : Admission) (r : Option CardRecord)
  | deny (d : DenyReason)
  deriving DecidableEq, Repr, Inhabited

/-- Check 3: the lookup outcome under the offline policy of the slot's fraction (R103, R104). -/
def checkLookup (policy : OfflinePolicy) : LookupOutcome → Lookedup
  | .found e _ => .admitted .normal (some e.record)
  | .absent => .deny .unknownCard
  | .damaged => match policy with
    | .refuse | .cachedOnly => .deny .damaged
    | .admitAny => .admitted .offlineAny none
  | .storeOffline (some e) => match policy with
    | .refuse => .deny .storeOffline
    | .cachedOnly | .admitAny => .admitted .offlineCached (some e.record)
  | .storeOffline none => match policy with
    | .refuse | .cachedOnly => .deny .storeOffline
    | .admitAny => .admitted .offlineAny none

/-- The profile a record names (R9). -/
def State.profileOf (s : State) (r : CardRecord) : Profile := s.profiles[r.profile]

/-- The mark of a profile at a container class; at or beyond the map length it counts as DENY (R9). -/
def Profile.permits (p : Profile) (cls : Nat) : Bool := p.marks.getD cls false

/-- The usage that counts in a period (R123). -/
def CardRecord.usageIn (r : CardRecord) (period : Nat) : Nat := if r.stamp = period then r.usage else 0

/-- The remaining quota: Q − u when u is below Q, and 0 otherwise (R106). -/
def State.remainingQuota (s : State) (r : CardRecord) : Nat :=
  r.override.getD (s.profileOf r).quota - r.usageIn s.clock.period

/-- Today's day number lies beyond the expiry day, the clock being valid (R105, R127). -/
def State.expired (s : State) (r : CardRecord) : Bool :=
  s.clock.valid && (match r.expiry with | some d => decide (d < dayNumber s.clock.time.toNat) | none => false)

/-- Checks 4, 5 and 6 on a record (R105). -/
def State.checkRecord (s : State) (k : Slot) (r : CardRecord) : Option DenyReason :=
  if r.status = .suspended then some .suspended
  else if s.expired r then some .expired
  else if !(s.profileOf r).permits (s.slot k).record.cls then some .noRight
  else none

/-- Check 7: outside the fraction's hours, the clock being valid (R105, R127). -/
def State.checkHours (s : State) (k : Slot) : Option DenyReason :=
  let t := s.clock.time.toNat
  if s.clock.valid && !((s.hoursOf (s.slot k).record.fraction).within (minuteOfDay t) (weekday t)) then some .hours else none

/-- Check 8 on a charged slot: quota, backlog, log. While the store is not ONLINE the charge queue is empty and the
backlog part passes (R106). -/
def State.checkCharged (s : State) (k : Slot) (r : Option CardRecord) : Option DenyReason :=
  if !(s.slot k).record.charged then none
  else if (match r with | some x => s.remainingQuota x == 0 | none => false) then some .quota
  else if s.store.state == .online && decide (Config.chargeBacklog ≤ s.resolver.charges.length) then some .chargeBacklog
  else if !s.reserveHolds then some .logFull
  else none

/-- Checks 4 to 8 of an admission (R105, R106). -/
def State.checkAdmission (s : State) (k : Slot) (r : Option CardRecord) : Option DenyReason :=
  match r.bind (s.checkRecord k) with
  | some d => some d
  | none =>
    match s.checkHours k with
    | some d => some d
    | none => s.checkCharged k r

/-- The deposit bound of a grant: the session limit of the profile, or the offline session limit (R108). -/
def State.depositBound (s : State) (a : Admission) (r : Option CardRecord) : Nat :=
  match a, r with
  | .normal, some x => (s.profileOf x).sessionLimit
  | _, _ => s.config.offlineLimit

/-- The session's limit (R108). -/
def State.grantLimit (s : State) (k : Slot) (a : Admission) (r : Option CardRecord) : Nat :=
  let bound := min (s.depositBound a r) (s.slot k).allowance
  match r with
  | some x => if (s.slot k).record.charged then min bound (s.remainingQuota x) else bound
  | none => bound

/-- A decision. -/
inductive Decision where
  | grant (a : Admission) (limit : Nat)
  | deny (d : DenyReason)
  deriving DecidableEq, Repr, Inhabited

/-- The decision on a lookup outcome: the bar set again, check 3, checks 4 to 8, the limit (R103 to R108). -/
def State.decision (s : State) (k : Slot) (o : LookupOutcome) : Decision :=
  match (s.slot k).bars.first with
  | some b => .deny (.barred b)
  | none =>
    match checkLookup (s.config.policy (s.slot k).record.fraction) o with
    | .deny d => .deny d
    | .admitted a r =>
      match s.checkAdmission k r with
      | some d => .deny d
      | none => .grant a (s.grantLimit k a r)

/-! ## Deny and grant (R107, R108) -/

/-- A deny from VERIFYING: the tone, the intake back by its bar set, the slot quiet (R107). -/
def State.denyVerifying (k : Slot) (d : DenyReason) (s : State) : State :=
  ((s.askTone k d.tone).setIntake k (restState (s.slot k).bars)).slotQuiet k

/-- The idle timer starts with the timeout in force (R112). -/
def State.startIdle (k : Slot) (s : State) : State :=
  s.modIntake k fun i => { i with idleDeadline := some (s.now + 1000 * s.config.idleTimeout) }

/-- The session context of a grant (R108). -/
def State.sessionFor (s : State) (k : Slot) (n : CardNo) (a : Admission) (limit : Nat) : Session :=
  { card := n, admission := a, charged := (s.slot k).record.charged, limit := limit, startTime := s.stamp }

/-- A grant: GRANT tone, DRUM_LOCK released, OPEN, the idle timer with the drum home, the LOG bar (R108, R112, R173). -/
def State.grantSession (k : Slot) (n : CardNo) (a : Admission) (limit : Nat) (s : State) : State :=
  let s1 := ((s.askTone k .grant).setDrumLock k true).setIntake k (.opened (s.sessionFor k n a limit))
  (if (s.slot k).drumHome then s1.startIdle k else s1).evaluateLog

/-- A lookup outcome is handed to the intake in VERIFYING (R103). An intake in any other state has no lookup. -/
def State.decideIntake (k : Slot) (o : LookupOutcome) (s : State) : State :=
  match (s.slot k).intake.state with
  | .verifying n =>
    match s.decision k o with
    | .deny d => s.denyVerifying k d
    | .grant a limit => s.grantSession k n a limit
  | .idle | .barred | .opened _ | .closing _ _ => s

/-! ## The open session (R110, R112, R113, R116) -/

/-- A turn begins: the idle timer of an open session stops, and the turn belongs to the session (R110, R112). -/
def State.intakeTurnBegins (k : Slot) (s : State) : State :=
  match (s.slot k).intake.state with
  | .opened c => s.modIntake k fun _ => { state := .opened { c with turnBelongs := true }, idleDeadline := none }
  | .idle | .barred | .verifying _ | .closing _ _ => s

/-- The session after a turn that belongs to it: counted, and charged when it is to be charged (R110). `queued`: the
Card Resolver's answer to the charge (R88). -/
def Session.afterTurn (c : Session) (counted queued : Bool) : Session :=
  if !c.turnBelongs then c
  else if !counted then { c with aborted := satAdd 65535 c.aborted 1, turnBelongs := false }
  else if c.charged && c.admission != .offlineAny then
    { c with deposits := satAdd 65535 c.deposits 1, chargedCount := satAdd 65535 c.chargedCount 1
             notUpdated := c.notUpdated || !queued, turnBelongs := false }
  else { c with deposits := satAdd 65535 c.deposits 1, turnBelongs := false }

/-- The charge of a turn that belongs to the session, if it is to be charged (R110). -/
def State.chargeTurn (c : Session) (counted : Bool) (s : State) : State :=
  if c.turnBelongs && counted && c.charged && c.admission != .offlineAny then s.charge c.card else s

/-- The intake receives a turn end (R110, R111, R116). -/
def State.intakeTurnEnds (k : Slot) (counted : Bool) (s : State) : State :=
  match (s.slot k).intake.state with
  | .opened c =>
    (((s.chargeTurn c counted).setIntake k (.opened (c.afterTurn counted s.chargeQueued))).startIdle k).homeTests k
  | .closing c r => (s.chargeTurn c counted).closeSession k (c.afterTurn counted s.chargeQueued) r
  | .idle | .barred | .verifying _ => s

/-- A withdrawal notice of the Batch Engine at one intake (R113). -/
def State.withdrawCardAt (n : CardNo) (k : Slot) (s : State) : State :=
  match (s.slot k).intake.state with
  | .opened c =>
    if c.card = n then
      let s1 := s.setIntake k (.opened { c with withdrawal := true })
      if (s.slot k).drumHome then s1.homeTests k else s1
    else s
  | .idle | .barred | .verifying _ | .closing _ _ => s

/-- A withdrawal notice reaches every intake whose session holds the card (R113, R167). -/
def State.withdrawCard (n : CardNo) (s : State) : State := s.eachSlot (State.withdrawCardAt n)

end Sys2Proof.Machine
end

