-- ==== Sys2Proof/Machine/Fill.lean ====
section
/-! DEFINITION. The Fill Estimator's effects: recomputation, thresholds, demand, hours-to-full, deposits, blending, lift
outcome, FILL_SET, the hour event (R40, R46 to R57). -/

namespace Sys2Proof.Machine

def State.modFill (k : Slot) (f : FillRecord → FillRecord) (s : State) : State :=
  s.modSlot k fun u => { u with fill := f u.fill }

/-- F and H are recomputed from the stored values (R40). -/
def State.recompute (k : Slot) (s : State) : State :=
  s.modSlot k fun u => { u with fill := { u.fill with f := u.record.fillOf u.fill.e, h := u.record.headroom u.fill.e } }

/-- E takes a value, and F and H follow (R40). -/
def State.setEstimate (k : Slot) (e : Nat) (s : State) : State := (s.modFill k fun x => { x with e := e }).recompute k

/-- The evaluation of FULL (R51). -/
def State.evaluateFull (turnEnding : Bool) (k : Slot) (s : State) : State :=
  let u := s.slot k
  if u.record.tFull ≤ u.fill.f then s.setFull turnEnding k
  else if u.fill.f < u.record.tReopen then s.changeBar k .full false
  else s

/-- The cause of a demand by the bar set (R53). -/
def demandCauseOf (b : BarSet) : DemandCause := if b.full then .full else .threshold

/-- The evaluation of demand after one of FULL; `newly`: FULL was set in that evaluation (R53). -/
def State.evaluateDemand (newly : Bool) (k : Slot) (s : State) : State :=
  let u := s.slot k
  match s.demandOf k with
  | none => if u.record.tDem ≤ u.fill.f then s.raiseDemand k (demandCauseOf u.bars) u.fill.hf else s
  | some e => if newly && e.cause == .threshold then s.raiseCause k .full else s

/-- FULL and then demand are evaluated (R51, R53). -/
def State.evaluateThresholds (turnEnding : Bool) (k : Slot) (s : State) : State :=
  let s1 := s.evaluateFull turnEnding k
  s1.evaluateDemand (!(s.slot k).bars.full && (s1.slot k).bars.full) k

/-- HF is recomputed, and a changed HF handed to the Demand Queue (R55). -/
def State.recomputeHours (k : Slot) (s : State) : State :=
  let x := (s.slot k).fill
  let n := hoursToFull x.h x.fr
  if n = x.hf then s else (s.modFill k fun y => { y with hf := n }).demandHf k n

/-- A counted deposit, by the steps of R49: a CAUSE notice carries the HF and the position held before the deposit (DEDUCED,
log entry 22). -/
def State.deposit (k : Slot) (s : State) : State :=
  let u := s.slot k
  let d := u.record.increment
  let s1 := s.modFill k fun x => { x with a := satAdd 65535 x.a d }
  ((s1.setEstimate k (min (u.fill.e + d) u.record.vCap)).evaluateThresholds true k).recomputeHours k

/-- A burst with the outcome NO_ECHO (R47). -/
def State.silentBurst (k : Slot) (s : State) : State :=
  let x := (s.slot k).fill
  let s1 := s.modFill k fun y => { y with silent := min (y.silent + 1) 3 }
  if x.silent = 2 then s1.alert (.sensorSilent k x.e) else s1

/-- A burst with a reading: blended, UNMEASURED cleared, thresholds and hours evaluated (R45, R46). -/
def State.blendReading (k : Slot) (cause : RangeCause) (r : Reading) (s : State) : State :=
  let u := s.slot k
  let e := blendEstimate u.record.vCap u.fill.e (u.record.measuredVolume r.distance) (blendWeight u cause r.spread)
  let s1 := s.modFill k fun x => { x with e := e, measured := true, silent := 0 }
  (((s1.changeBar k .unmeasured false).recompute k).evaluateThresholds false k).recomputeHours k

/-- The lift outcome at the Fill Estimator (R56). DEDUCED (log entry 36): without a qualifying tip nothing is evaluated, FULL and
demand neither. -/
def State.liftFill (k : Slot) (tipped : Bool) (s : State) : State :=
  if tipped then ((s.setEstimate k 0).evaluateThresholds false k).recomputeHours k else s

/-- FILL_SET at a configured slot (R57). -/
def State.fillSet (k : Slot) (v : Nat) (s : State) : State :=
  let s1 := s.modFill k fun x => { x with e := min v (s.slot k).record.vCap }
  (((s1.changeBar k .unmeasured false).recompute k).evaluateThresholds false k).recomputeHours k

/-- The hour event at one configured slot (R54). -/
def State.rateUpdate (k : Slot) (s : State) : State :=
  if (s.slot k).configured then
    (s.modFill k fun x => { x with fr := nextRate x.fr x.a, a := 0 }).recomputeHours k
  else s

/-- The hour event: the rates of the slots in ascending order, with the HF that each hands over, and then the repeats of the
Demand Queue, which show that HF (R54, R134). R134 lets the two be taken in either order: DESIGN CHOICE (log entry 33). -/
def State.hourlyUpdate (s : State) : State := (s.eachSlot State.rateUpdate).repeatDemand

end Sys2Proof.Machine
end

