-- ==== Sys2Proof/Machine/Ranging.lean ====
section
/-! DEFINITION. The Ranging Unit: queue, bursts, waiters (R31 to R38), and the part of the Lift Controller that waits for
its reports: the release of custody and the end of CLOSING (R149, R150, R154). -/

namespace Sys2Proof.Machine

def State.modRanging (f : Ranging → Ranging) (s : State) : State := { s with ranging := f s.ranging }

def State.modRange (k : Slot) (f : RangeSlot → RangeSlot) (s : State) : State :=
  s.modSlot k fun u => { u with range := f u.range }

/-- The ranging interval in ms (R8). -/
def StationConfig.intervalMs (c : StationConfig) : Nat := 60000 * c.rangingInterval

/-- Ranging outcomes (R34). -/
inductive RangeOutcome where
  | reading (r : Reading) (e f : Nat)
  | noEcho
  | discarded
  | cancelled
  deriving DecidableEq, Repr, Inhabited

/-- The fields of RANGE_RESULT after the slot (R34, R187). -/
def RangeOutcome.fields : RangeOutcome → List Byte
  | .reading r e f => u8 0 ++ u16 r.distance ++ flag r.spread ++ u16 e ++ u16 f
  | .noEcho => u8 1 ++ u16 0 ++ flag false ++ u16 0 ++ u16 0
  | .discarded => u8 2 ++ u16 0 ++ flag false ++ u16 0 ++ u16 0
  | .cancelled => u8 3 ++ u16 0 ++ flag false ++ u16 0 ++ u16 0

/-- The waiters of a slot are answered, and the waiter set is emptied (R34). -/
def State.answerWaiters (k : Slot) (o : RangeOutcome) (s : State) : State :=
  let w := (s.slot k).range
  let p := encSlot k ++ o.fields
  let s1 := if w.waitOffice then s.post .office .rangeResult p else s
  let s2 := if w.waitService then s1.post .service .rangeResult p else s1
  s2.modRange k fun x => { x with waitOffice := false, waitService := false }

/-! ## The queue (R32) -/

/-- Before the first entry of a lower class: the end of the entry's class (R32). -/
def insertAtEnd (e : RangeEntry) : List RangeEntry → List RangeEntry
  | [] => [e]
  | x :: q => if e.cause.code < x.cause.code then e :: x :: q else x :: insertAtEnd e q

/-- Before the first entry of the same or a lower class: the head of the entry's class (R37). -/
def insertAtHead (e : RangeEntry) : List RangeEntry → List RangeEntry
  | [] => [e]
  | x :: q => if e.cause.code ≤ x.cause.code then e :: x :: q else x :: insertAtHead e q

/-- The queued entry of a slot. -/
def State.rangeEntry (s : State) (k : Slot) : Option RangeEntry := s.ranging.queue.find? fun e => e.slot == k

def removeRange (k : Slot) (q : List RangeEntry) : List RangeEntry := q.filter fun e => e.slot != k

/-- The queue after a request for a slot that may be measured: a new entry, a promoted one, or no change (R32, R37). -/
def queueAfter (atHead : Bool) (k : Slot) (c : RangeCause) (q : List RangeEntry) : List RangeEntry :=
  let put := if atHead then insertAtHead ⟨k, c⟩ else insertAtEnd ⟨k, c⟩
  match q.find? fun e => e.slot == k with
  | none => put q
  | some e => if c.code < e.cause.code then put (removeRange k q) else q

/-! ## The end of a lift (R150, R154, R155) -/

/-- The payload of LIFT_DONE (R156). -/
def liftDonePayload (k : Slot) (c : Custody) (post : Option Nat) : List Byte :=
  encSlot k ++ flag c.qualifying ++ u8 c.tips ++ u16 c.preFill ++ optional u16 post ++ flag c.orphaned

/-- LIFT_DONE goes to OFFICE, and to CREW for a lift of the open session (R156). -/
def State.postLiftDone (k : Slot) (c : Custody) (post : Option Nat) (s : State) : State :=
  let p := liftDonePayload k c post
  let s1 := s.post .office .liftDone p
  if !c.orphaned && s.lift.session.isSome then s1.post .crew .liftDone p else s1

/-- The slot joins the lifted list of the visit of its session (R150, step 2). -/
def State.addLifted (k : Slot) (s : State) : State :=
  s.modLift fun x => { x with visit := x.visit.map fun v => { v with lifted := v.lifted ++ [k] } }

/-- The close pending mark is set, or the session has gone NONE by link loss (R150, step 5). -/
def Lift.visitEnds (x : Lift) : Bool := match x.session with | some c => c.closePending | none => true

/-- Custody CLOSING ends, with the post-lift fill if there is one (R150). -/
def State.closeLift (k : Slot) (post : Option Nat) (s : State) : State :=
  let c := s.lift.custody
  let s1 := (s.modCustody fun x => { x with recorded := true }).logAppend
    (.lift k (s.slot k).record.fraction c post)
  let s2 := if c.orphaned then s1 else s1.addLifted k
  let s3 := (s2.clearCustody k).postLiftDone k c post
  if !c.orphaned && s3.lift.visitEnds then s3.completeVisit else s3

/-- The Ranging Unit reports the LIFT-class burst of a slot to the Lift Controller (R36, R38, R150). -/
def State.liftReport (k : Slot) (post : Option Nat) (s : State) : State :=
  if s.custodyOn k = .closing then s.closeLift k post else s

/-- A LIFT-class burst or entry that is dropped, removed or discarded is reported (R28, R32, R38). -/
def State.reportDiscard (k : Slot) (c : RangeCause) (s : State) : State :=
  if c = .lift then s.liftReport k none else s

/-! ## Requests and bursts (R31, R32, R35) -/

/-- A ranging request reaches the Ranging Unit (R32). -/
def State.queueRange (atHead : Bool) (k : Slot) (c : RangeCause) (s : State) : State :=
  if !(s.slot k).configured then s
  else if (s.slot k).bars.flood then s.reportDiscard k c
  else s.modRanging fun x => { x with queue := queueAfter atHead k c x.queue }

/-- A queued entry is eligible (R35). -/
def State.mayMeasure (s : State) (e : RangeEntry) : Bool :=
  let u := s.slot e.slot
  u.configured && !u.bars.flood && u.accepted .platform && (u.drumHome || e.cause == .lift)

/-- The temperature a burst uses: a good reading clamped, else the last good value, else 10 degrees (R31). -/
def State.burstTemp (s : State) : Int :=
  match s.probe with
  | .good t => max (-30) (min t 60)
  | .failed => s.ranging.lastGood.getD 10

/-- A good reading is stored and closes the episode; a failed one opens an episode, with its alert, unless one is open
(R31). -/
def State.noteProbe (s : State) : State :=
  match s.probe with
  | .good _ => s.modRanging fun x => { x with lastGood := some s.burstTemp, episode := false }
  | .failed =>
    if s.ranging.episode then s
    else (s.modRanging fun x => { x with episode := true }).alert (.tempProbeFail s.burstTemp)

/-- FREE VALUE. The input takes another level, of which nothing is known (log entry 5). -/
def State.sampleProbe (s : State) : State :=
  { s with probe := Config.probeLevel s.freeIndex, freeIndex := s.freeIndex + 1 }

/-- A burst starts at an entry: the entry leaves the queue, the temperature is read, ping 1 is emitted (R35, R36). -/
def State.startBurst (e : RangeEntry) (s : State) : State :=
  ((s.modRanging fun x => { x with queue := removeRange e.slot x.queue }).noteProbe.sampleProbe).modRanging fun x =>
    { x with burst := some { slot := e.slot, cause := e.cause, start := s.now, temp := s.burstTemp } }

/-- The Ranging Unit, when IDLE, starts a burst at the first eligible entry (R35). -/
def State.chooseBurst (s : State) : State :=
  if s.ranging.burst.isSome then s
  else match s.ranging.queue.find? s.mayMeasure with
    | some e => s.startBurst e
    | none => s

/-- A ranging request, and the burst that its arrival may start (R32, R35). -/
def State.requestRange (k : Slot) (c : RangeCause) (s : State) : State := (s.queueRange false k c).chooseBurst

/-- A burst on slot k is in flight. -/
def State.burstOn (s : State) (k : Slot) : Option Burst := s.ranging.burst.filter fun b => b.slot == k

/-- A burst in flight for slot k ends without result and without being returned to the queue (R38). -/
def State.discardBurst (k : Slot) (o : RangeOutcome) (s : State) : State :=
  match s.burstOn k with
  | some b => ((s.modRanging fun x => { x with burst := none }).answerWaiters k o).reportDiscard k b.cause
  | none => s

/-- The queued entry of slot k leaves the queue under FLOOD or SLOT_REMOVE: its waiters are answered, then a LIFT-class entry
is reported (R7, R28, R34). -/
def State.removeEntry (k : Slot) (o : RangeOutcome) (s : State) : State :=
  match s.rangeEntry k with
  | some e =>
    ((s.modRanging fun x => { x with queue := removeRange k x.queue }).answerWaiters k o).reportDiscard k e.cause
  | none => s

/-- A counted deposit returns the burst in flight for its slot to the head of its class (R37). -/
def State.returnBurst (k : Slot) (s : State) : State :=
  match s.burstOn k with
  | some b => (s.modRanging fun x => { x with burst := none }).queueRange true k b.cause
  | none => s

/-- A queued LIFT-class entry of an unseated slot is removed: reported, then the waiters are answered (R38). -/
def State.removeLift (k : Slot) (s : State) : State :=
  if s.rangeEntry k = some ⟨k, .lift⟩ then
    ((s.modRanging fun x => { x with queue := removeRange k x.queue }).liftReport k none).answerWaiters k .discarded
  else s

/-- PLATFORM_SEATED accepted off at the Ranging Unit: the burst is discarded and the next one chosen, and a queued LIFT-class
entry is removed (R38). -/
def State.rangeUnseated (k : Slot) (s : State) : State := ((s.discardBurst k .discarded).chooseBurst).removeLift k

/-- The slot's due time becomes the present time plus the interval (R33). -/
def State.setDue (k : Slot) (s : State) : State :=
  s.modRange k fun x => { x with due := some (s.now + s.config.intervalMs) }

/-- The outcome of a burst at the Fill Estimator, with what it hands back (R46, R47). -/
def State.applyBurst (b : Burst) (s : State) : State × RangeOutcome :=
  match b.reading with
  | some r =>
    let s1 := s.blendReading b.slot b.cause r
    (s1, .reading r (s1.slot b.slot).fill.e (s1.slot b.slot).fill.f)
  | none => (s.silentBurst b.slot, .noEcho)

/-- The post-lift fill an outcome carries to the Lift Controller (R150). -/
def RangeOutcome.postFill : RangeOutcome → Option Nat
  | .reading _ _ f => some f
  | .noEcho | .discarded | .cancelled => none

/-- A burst completes (R36): the estimator, the due time, the Lift Controller, the waiters, the next burst. -/
def State.completeBurst (b : Burst) (s : State) : State :=
  let r := s.applyBurst b
  let s1 := (r.1.setDue b.slot).modRange b.slot fun x => { x with lastBurst := s.now }
  let s2 := if b.cause = .lift then s1.liftReport b.slot r.2.postFill else s1
  ((s2.answerWaiters b.slot r.2).modRanging fun x => { x with burst := none }).chooseBurst

/-- A ping has ended, by an echo time or invalid; the end of ping 3 completes the burst (R36). -/
def State.endPing (b : Burst) (r : Option Nat) (s : State) : State :=
  let b' := { b with pings := b.pings ++ [r], awaiting := false }
  if b'.pings.length < 3 then s.modRanging fun x => { x with burst := some b' } else s.completeBurst b'

/-! ## Release of custody (R149) -/

/-- DEDUCED (log entry 31). A LIFT-class request that is placed while the platform of its slot is accepted off is removed from
the queue again, as an accepted off edge would remove it (R38, R148). -/
def State.requestLift (k : Slot) (s : State) : State :=
  let s1 := s.queueRange false k .lift
  (if (s1.slot k).accepted .platform then s1 else s1.removeLift k).chooseBurst

/-- Custody in RETURNED is released: CLOSING, and a LIFT-class ranging request (R149). -/
def State.releaseCustody (k : Slot) (s : State) : State := (s.enterCustody .closing none).requestLift k

end Sys2Proof.Machine
end

