-- ==== Sys2Proof/Machine/PitEvents.lean ====
section
/-! DEFINITION. What the accepted edges of the pit lines do: drum turns, platform, water, tilt (R22 to R30, R56, R132, R147,
R148, R153). -/

namespace Sys2Proof.Machine

def State.modTrack (k : Slot) (f : Tracking → Tracking) (s : State) : State :=
  s.modSlot k fun u => { u with track := f u.track }

/-! ## Drum turns (R22 to R25) -/

/-- A turn begins, in TURNING or, where it has reached open already, in OPENED; the jam timer starts (R22, R24). -/
def State.startTurn (d : DrumState) (k : Slot) (s : State) : State :=
  s.modTrack k fun x => { x with drum := d, turnStart := s.now, jamDeadline := some (s.now + 1000 * s.config.jamTime) }

/-- DRUM_HOME accepted off (R22). -/
def State.drumLeft (k : Slot) (s : State) : State :=
  match (s.slot k).track.drum with
  | .atHome => (s.startTurn .turning k).intakeTurnBegins k
  | .turning | .reachedOpen => s

/-- DRUM_OPEN accepted on (R22). -/
def State.drumReachedOpen (k : Slot) (s : State) : State :=
  match (s.slot k).track.drum with
  | .turning => s.modTrack k fun x => { x with drum := .reachedOpen }
  | .atHome | .reachedOpen => s

/-- DRUM at a drum home: cleared, with DRUM_RECOVERED (R25). -/
def State.drumRecovered (k : Slot) (counted : Bool) (away : Nat) (s : State) : State :=
  if (s.slot k).bars.drum then
    (s.changeBar k .drum false).alert (.drumRecovered k counted (min (away / 1000) 65535))
  else s

/-- A turn has ended: the Fill Estimator and the Ranging Unit for a counted deposit, then the intake (R23), then DRUM
(R25). The drum home may make a queued entry eligible; its burst is chosen behind the deposit and ahead of the intake (R35;
DESIGN CHOICE, log entry 34). -/
def State.endTurn (k : Slot) (counted : Bool) (away : Nat) (s : State) : State :=
  let s1 := s.modTrack k fun x => { x with drum := .atHome, jamDeadline := none }
  let s2 := if counted then (s1.deposit k).returnBurst k else s1
  (s2.chooseBurst.intakeTurnEnds k counted).drumRecovered k counted away

/-- DRUM_HOME accepted on (R22, R23). -/
def State.drumCameHome (k : Slot) (s : State) : State :=
  let x := (s.slot k).track
  match x.drum with
  | .atHome => s
  | .turning => s.endTurn k false (s.now - x.turnStart)
  | .reachedOpen => s.endTurn k true (s.now - x.turnStart)

/-! ## Output tests (R184) -/

/-- An output test ends and its lock is engaged (R184). -/
def State.endTest (k : Slot) (s : State) : State :=
  match (s.slot k).locks.test with
  | some (.drum, _) => (s.setDrumLock k false).modSlot k fun u => { u with locks := { u.locks with test := none } }
  | some (.hatch, _) => (s.setHatch k false).modSlot k fun u => { u with locks := { u.locks with test := none } }
  | none => s

/-- PLATFORM_SEATED accepted off ends a HATCH_RELEASE test (R184). -/
def State.endHatchTest (k : Slot) (s : State) : State :=
  match (s.slot k).locks.test with
  | some (.hatch, _) => s.endTest k
  | some (.drum, _) | none => s

/-! ## Platform (R26, R27, R146, R148) -/

/-- OUT is set and OUT_UNEXPECTED appended, with the custody state on the slot (R5, R26). -/
def State.containerOut (k : Slot) (s : State) : State :=
  let c := s.custodyOn k
  (s.setBar k .out).alert (.outUnexpected k c)

/-- CUSTODY_STATE for custody that is not ORPHANED (R156). -/
def State.postLiftState (k : Slot) (st : CustodyState) (s : State) : State :=
  if s.lift.custody.orphaned then s else s.postCustody k st none

/-- The lift begins: custody GRANTED goes to RAISED (R146). -/
def State.raise (k : Slot) (s : State) : State :=
  (s.enterCustody .raised (some (s.now + Config.liftOvertimeMs))).postLiftState k .raised

/-- PLATFORM_SEATED accepted off (R26). -/
def State.platformLeft (k : Slot) (s : State) : State :=
  let s1 := match s.custodyOn k with
    | .granted => s.raise k
    | .raised => s
    | .none | .waiting | .returned | .closing => s.containerOut k
  (s1.endHatchTest k).rangeUnseated k

/-- The lift outcome reaches the Demand Queue (R132). -/
def State.liftDemand (k : Slot) (tipped : Bool) (s : State) : State := if tipped then s.clearDemand k .lift else s

/-- The container is back on its seat in RAISED (R148, R153). The Fill Estimator takes the lift outcome first and the Demand
Queue behind it, where R132 and R148 allow either order (DESIGN CHOICE, log entry 37). -/
def State.returned (k : Slot) (s : State) : State :=
  let tipped := s.lift.custody.qualifying
  let s1 := (((s.setHatch k false).enterCustody .returned none).dropTip k)
  let s2 := (s1.liftFill k tipped).liftDemand k tipped
  if s.lift.custody.orphaned then s2.releaseCustody k else s2.postCustody k .returned none

/-- OUT at a seated platform: cleared, with SEATED (R27). -/
def State.seated (k : Slot) (s : State) : State :=
  if (s.slot k).bars.out then (s.changeBar k .out false).alert (.seated k) else s

/-- PLATFORM_SEATED accepted on (R27, R35). -/
def State.platformSeated (k : Slot) (s : State) : State :=
  let s1 := s.seated k
  (if s1.custodyOn k = .raised then s1.returned k else s1).chooseBurst

/-! ## Water (R28, R29) -/

/-- WATER accepted on (R28). -/
def State.waterRose (k : Slot) (s : State) : State :=
  let s1 := s.modTrack k fun x => { x with floodHold := none }
  let s2 := if (s1.slot k).bars.flood then s1
    else ((s1.modTrack k fun x => { x with floodSince := s.now }).setBar k .flood).alert (.floodOn k)
  s2.removeEntry k .cancelled

/-- WATER accepted off (R29). -/
def State.waterFell (k : Slot) (s : State) : State :=
  if (s.slot k).bars.flood then s.modTrack k fun x => { x with floodHold := some (s.now + Config.floodHoldMs) } else s

/-! ## Tilt (R30, R147) -/

/-- A captured tip of some tenths of a second (R147). -/
def State.capturedTip (tenths : Nat) (s : State) : State :=
  s.modCustody fun c =>
    { c with tips := satAdd 255 c.tips 1, tipTime := satAdd 6000 c.tipTime tenths
             qualifying := c.qualifying || decide (Config.qualifyingTenths ≤ tenths) }

/-- TILT accepted on (R30). -/
def State.tiltOn (k : Slot) (s : State) : State :=
  if s.custodyOn k = .raised ∧ (s.slot k).track.tipStart = none then
    s.modTrack k fun x => { x with tipStart := some s.now }
  else s

/-- TILT accepted off (R30). -/
def State.tiltOff (k : Slot) (s : State) : State :=
  match (s.slot k).track.tipStart with
  | some t =>
    if s.custodyOn k = .raised then (s.dropTip k).capturedTip (min ((s.now - t) / 100) 6000) else s
  | none => s

/-! ## Delivery of an accepted edge (R3, R18, R20) -/

/-- An accepted edge reaches the consumers of its line, on a configured slot (R3, R20). -/
def State.deliverEdge (k : Slot) (l : Line) (level : Bool) (s : State) : State :=
  if !(s.slot k).configured then s else
  match l, level with
  | .drumHome, false => s.drumLeft k
  | .drumHome, true => s.drumCameHome k
  | .drumOpen, true => s.drumReachedOpen k
  | .drumOpen, false => s
  | .platform, false => s.platformLeft k
  | .platform, true => s.platformSeated k
  | .water, true => s.waterRose k
  | .water, false => s.waterFell k
  | .tilt, true => s.tiltOn k
  | .tilt, false => s.tiltOff k

/-! ## Filters (R20, R21) -/

/-- The raw level of an input changes (R20). -/
def Filter.rawChange (f : Filter) (level : Bool) (now filterMs : Nat) : Filter :=
  if level = f.raw then f
  else if level = f.accepted then { f with raw := level, pending := none }
  else { f with raw := level, pending := some ⟨now, filterMs⟩ }

/-- A pending change has held: the accepted level takes the new value (R20). -/
def Filter.accept (f : Filter) : Filter := { f with accepted := !f.accepted, pending := none }

/-- At the end of a reset a filter takes the raw level, with no pending change (R21). -/
def Filter.afterReset (f : Filter) : Filter := { raw := f.raw, accepted := f.raw, pending := none }

def Lines.map (g : Filter → Filter) (x : Lines) : Lines :=
  { drumHome := g x.drumHome, drumOpen := g x.drumOpen, platform := g x.platform, tilt := g x.tilt, water := g x.water }

end Sys2Proof.Machine
end

