-- ==== Sys2Proof/Machine/Lookups.lean ====
section
/-! DEFINITION. Lookups and refills of the Card Resolver (R80 to R86), the decision of a crew opening (R137, R140), the
card taken by an intake (R102), and the preemption request (R109, R114, R145). -/

namespace Sys2Proof.Machine

/-! ## Outcomes at their requesters (R86, R103, R140) -/

/-- The record fields of CARD_RESULT with the optional parts, 0 where there is no record (R86, R187). -/
def cardFields : Option CardRecord → List Byte
  | some r => u8 r.status.code ++ u8 r.profile.val ++ u16 r.usage ++ u16 r.stamp ++ optional u16 r.expiry
      ++ optional u16 r.override
  | none => u8 0 ++ u8 0 ++ u16 0 ++ u16 0 ++ u8 0 ++ u8 0

/-- Location, source and usage in the current period (R86). -/
def locationFields (period : Nat) (fromStore : Bool) : Option CacheEntry → List Byte
  | some e => u16 e.bucket.toNat ++ u8 e.position.val ++ u8 (if fromStore then 1 else 0) ++ u16 (e.record.usageIn period)
  | none => u16 0 ++ u8 0 ++ u8 0 ++ u16 0

def LookupOutcome.code : LookupOutcome → Nat
  | .found _ _ => 0 | .absent => 1 | .damaged => 2 | .storeOffline _ => 3

/-- The entry an outcome carries, if any (R80, R84). -/
def LookupOutcome.entry : LookupOutcome → Option CacheEntry
  | .found e _ => some e
  | .absent | .damaged => none
  | .storeOffline e => e

def LookupOutcome.fromStore : LookupOutcome → Bool
  | .found _ b => b
  | .absent | .damaged | .storeOffline _ => false

/-- The payload of CARD_RESULT (R86). -/
def cardResultPayload (period : Nat) (n : CardNo) (o : LookupOutcome) : List Byte :=
  u32 n.toNat ++ u8 o.code ++ cardFields (o.entry.map CacheEntry.record) ++ locationFields period o.fromStore o.entry

/-- CARD_QUERY is answered at the port that sent it (R86). -/
def State.answerQuery (n : CardNo) (o : LookupOutcome) (s : State) : State :=
  match s.resolver.queryPort with
  | some p =>
    (s.modResolver fun r => { r with queryPort := none }).post p .cardResult (cardResultPayload s.clock.period n o)
  | none => s

/-- The record of a crew card is accepted: ACTIVE, with a profile of kind CREW (R140). -/
def State.crewAccepted (s : State) (r : CardRecord) : Bool := r.status == .active && (s.profileOf r).kind == .crew

/-- The decision of an opening on its lookup outcome (R140). -/
def State.crewDecision (s : State) (o : LookupOutcome) : Status :=
  match o with
  | .found e _ | .storeOffline (some e) => if s.crewAccepted e.record then .ok else .notPermitted
  | .storeOffline none => .storeOffline
  | .absent | .damaged => .notPermitted

/-- The payload of CREW_READY: status, truck, and for OK the fraction and the manifest, else 0 in their place (R140,
R156, R187). -/
def crewReadyPayload (st : Status) (x : Opening) (manifest : List Byte) : List Byte :=
  u8 st.code ++ u16 x.truck ++ u8 (if st = .ok then x.fraction.code else 0) ++ (if st = .ok then manifest else u8 0)

/-- The link timer starts afresh (R141). -/
def State.startLink (s : State) : State :=
  s.modLift fun x => { x with linkDeadline := some (s.now + 1000 * s.config.linkTimeout) }

/-- The crew session goes OPEN (R140). -/
def State.openCrew (x : Opening) (s : State) : State :=
  let s1 := ((s.modLift fun l =>
    { l with
      opening := none
      session := some { truck := x.truck, card := x.card, fraction := x.fraction, openTime := s.stamp }
      visit := some { truck := x.truck, card := x.card, openTime := s.stamp } }).startLink).evaluateLog
  s1.post .crew .crewReady (crewReadyPayload .ok x (s1.manifest x.fraction))

/-- The lookup outcome is handed to the Lift Controller (R140). -/
def State.decideCrew (o : LookupOutcome) (s : State) : State :=
  match s.lift.opening with
  | none => s
  | some x =>
    match s.crewDecision o with
    | .ok => s.openCrew x
    | st => (s.modLift fun l => { l with opening := none }).post .crew .crewReady (crewReadyPayload st x [])

/-- The outcome of a lookup reaches its requester (R85). -/
def State.deliver (l : Lookup) (o : LookupOutcome) (s : State) : State :=
  match l.requester with
  | .intake k => s.decideIntake k o
  | .crewOpen => s.decideCrew o
  | .cardQuery => s.answerQuery l.card o

/-! ## Lookups and refills (R80 to R84) -/

/-- The lookup leaves the queue. -/
def State.dropLookup (q : LookupRequester) (s : State) : State :=
  s.modResolver fun r => { r with lookups := r.lookups.filter fun l => l.requester != q }

/-- The outcome STORE_OFFLINE, with the cached record when the card is cached; the age marks then move (R79, R84). -/
def State.offline (l : Lookup) (s : State) : State := (s.touchCache l.card).deliver l (.storeOffline (s.cached l.card))

/-- A refill starts for a lookup (R82). -/
def State.startRefill (l : Lookup) (s : State) : State :=
  (s.modResolver fun r => { r with refill := some ⟨some l.requester, { card := l.card }⟩ }).placeRequest .refill
    (searchRequest l.card true)

/-- The lookup is the one in flight (R81). -/
def State.inRefill (s : State) (l : Lookup) : Bool :=
  match s.resolver.refill with
  | some r => r.requester == some l.requester
  | none => false

/-- One lookup of a service walk: passed over, answered from the cache, or made a refill (R81). -/
def State.walkOne (s : State) (l : Lookup) : State :=
  if s.busyBucket = some (bucketOf l.card) ∨ s.inRefill l = true then s
  else match s.cached l.card with
    | some e => ((s.dropLookup l.requester).touchCache l.card).deliver l (.found e false)
    | none => if s.resolver.refill.isNone then s.startRefill l else s

/-- A service walk over the lookup queue in arrival order (R81). -/
def State.serviceWalk (s : State) : State := s.resolver.lookups.foldl State.walkOne s

/-- A lookup arrives at the Card Resolver (R80, R84). -/
def State.placeLookup (l : Lookup) (s : State) : State :=
  if s.store.state ≠ .online then s.offline l
  else if s.busyBucket = some (bucketOf l.card) then
    (s.modResolver fun r => { r with lookups := r.lookups ++ [l] }).serviceWalk
  else match s.cached l.card with
    | some e => (s.touchCache l.card).deliver l (.found e false)
    | none => (s.modResolver fun r => { r with lookups := r.lookups ++ [l] }).serviceWalk

/-- The outcome of a refill is handed to its requester, unless the lookup has been withdrawn, and a service walk follows
(R82, R83). -/
def State.refillAnswer (r : Refill) (o : LookupOutcome) (s : State) : State :=
  let s1 := s.modResolver fun x => { x with refill := none }
  (match r.requester with
    | some q => (s1.dropLookup q).deliver ⟨q, r.search.card⟩ o
    | none => s1).serviceWalk

/-- A refill ends FOUND: the record with its waiting charges is filled in mode NORMAL and handed over (R83). -/
def State.refillFound (r : Refill) (x : CardRecord) (p : Position) (s : State) : State :=
  let e : CacheEntry := ⟨s.adjusted x, bucketOf r.search.card, p⟩
  (if s.resolver.frozen then s else s.fillCache e).refillAnswer r (.found e true)

/-- A search step of the refill; at its end the Arbiter is told first (R82, R83). -/
def State.refillSearch (r : Refill) (st : SearchStep) (s : State) : State :=
  match st with
  | .read q p =>
    (s.modResolver fun x => { x with refill := some { r with search := q } }).placeRequest .refill
      ⟨.recRead (bucketOf r.search.card) p, false⟩
  | .ended (.found x p _) => (s.endWork .refill).refillFound r x p
  | .ended (.absent _) => (s.endWork .refill).refillAnswer r .absent
  | .ended (.damaged _ _) => (s.endWork .refill).refillAnswer r .damaged

/-- A completed transaction of the refill (R82, R83). -/
def State.refillHanded (o : Handed) (s : State) : State :=
  match s.resolver.refill with
  | some r => s.refillSearch r (r.search.step o)
  | none => s

/-- One lookup left in the queue after a store loss (R84). -/
def State.lossOne (s : State) (l : Lookup) : State := (s.dropLookup l.requester).offline l

/-- The refill in flight ends STORE_OFFLINE, then every lookup left is answered in arrival order (R84). -/
def State.lookupsLoss (s : State) : State :=
  let s1 := match s.resolver.refill with
    | some r =>
      let s0 := s.modResolver fun x => { x with refill := none }
      match r.requester with
      | some q => s0.lossOne ⟨q, r.search.card⟩
      | none => s0
    | none => s
  s1.resolver.lookups.foldl State.lossOne s1

/-- A requester withdraws its lookup: it leaves the queue, a refill of it goes on for no one (R82). -/
def State.withdrawLookup (q : LookupRequester) (s : State) : State :=
  (s.dropLookup q).modResolver fun r =>
    { r with refill := r.refill.map fun x => if x.requester = some q then { x with requester := none } else x }

/-! ## A card at an intake (R98, R102) -/

/-- The card is held in the open-session set by another slot (R101, R102). -/
def State.heldElsewhere (s : State) (k : Slot) (n : CardNo) : Bool :=
  allSlots.any fun j => j != k && (s.slot j).intake.state.card == some n

/-- A card answer at a slot of the rotation (R98, R102). -/
def State.takeCard (k : Slot) (n : CardNo) (s : State) : State :=
  match (s.slot k).intake.state with
  | .barred =>
    match (s.slot k).bars.first with
    | some b => s.askTone k (DenyReason.barred b).tone
    | none => s
  | .idle =>
    if s.heldElsewhere k n then s.askTone k DenyReason.duplicate.tone
    else (s.setIntake k (.verifying n)).placeLookup ⟨.intake k, n⟩
  | .verifying _ | .opened _ | .closing _ _ => s

/-- A well-formed answer of slot k (R97, R98): the poll is answered, then a card is handled. -/
def State.takeAnswer (k : Slot) (x : ReaderFrame) (s : State) : State :=
  let s1 := s.answered k
  match x with
  | .none => s1
  | .card n => if n = noCard ∨ (s1.slot k).inRotation = false then s1 else s1.takeCard k n

/-! ## Preemption (R109, R114, R145) -/

/-- The custody wait has expired: the preemption request and what its answer decides (R114, R145). -/
def State.preempt (k : Slot) (s : State) : State :=
  match (s.slot k).intake.state with
  | .verifying _ => (s.withdrawLookup (.intake k)).denyVerifying k (.barred .lift)
  | .opened _ => if (s.slot k).drumHome then s.endSession k .preempted else s.endCustody k (some .drumBusy)
  | .closing _ _ => s.endCustody k (some .drumBusy)
  | .idle | .barred => s.slotQuiet k

end Sys2Proof.Machine
end

