-- ==== Sys2Proof/Machine/BatchEngine.lean ====
section
/-! DEFINITION. The Batch Engine: parser, entries, commit work, ends of a batch (chapter 10). -/

namespace Sys2Proof.Machine

def State.modBatch (f : Batch → Batch) (s : State) : State := { s with batch := f s.batch }

def State.modResolverCache (n : CardNo) (f : CardRecord → CardRecord) (s : State) : State :=
  s.modCached n fun e => { e with record := f e.record }

/-! ## Entries (R163, R190) -/

/-- The card number of an entry, which must denote a card (R163). -/
def entryCard (bs : List Byte) : Option CardNo :=
  let n : CardNo := BitVec.ofNat 32 (u32At bs 1)
  if n = noCard then none else some n

/-- The length of a kind: of the kind byte, and for an ADD of its presence marks (R163). -/
def entryLength (bs : List Byte) : Option Nat :=
  match byteAt bs 0 with
  | 1 => if bs.length < 8 then some 8
      else some (8 + (if (byteAt bs 7).testBit 0 then 2 else 0) + (if (byteAt bs 7).testBit 1 then 2 else 0))
  | 2 | 3 | 4 => some 5
  | 5 => some 9
  | _ => none

/-- The fields of an ADD: status, profile and presence marks must be ones a card may have (R163). -/
def addEntry (n : CardNo) (bs : List Byte) : Option Entry :=
  let marks := byteAt bs 7
  if h : byteAt bs 6 < 16 then
    if byteAt bs 5 ≤ 1 ∧ marks < 4 then
      some (.add n (if byteAt bs 5 = 0 then .active else .suspended) ⟨byteAt bs 6, h⟩
        (partIf marks 0 (u16At bs 8)) (partIf marks 1 (u16At bs (if marks.testBit 0 then 10 else 8))))
    else none
  else none

/-- The well-formed entry that the bytes spell; none for a MALFORMED one (R163). -/
def entryAt (packed oversize : Bool) (bs : List Byte) : Option Entry :=
  match entryLength bs, entryCard bs with
  | some len, some n =>
    if oversize || (if packed then decide (bs.length < len) else bs.length != len) then none
    else match byteAt bs 0 with
      | 1 => addEntry n bs
      | 2 => some (.revoke n)
      | 3 => some (.suspend n)
      | 4 => some (.resume n)
      | _ => some (.setUsage n (u16At bs 5) (u16At bs 7))
  | _, _ => none

def Entry.card : Entry → CardNo
  | .add n _ _ _ _ | .revoke n | .suspend n | .resume n | .setUsage n _ _ => n

/-! ## The Commit slot (R162, R163, R167) -/

/-- An entry is counted as rejected; the first rejection is recorded (R167, step 4). -/
def Batch.countRejected (b : Batch) (index : Nat) (r : Rejection) : Batch :=
  { b with rejected := b.rejected + 1, first := match b.first with | some x => some x | none => some (index, r) }

/-- An entry enters the empty Commit slot: rejected MALFORMED at once, or its first request is placed (R163, R167). -/
def State.enterCommit (bs : List Byte) (oversize : Bool) (index : Nat) (s : State) : State :=
  match entryAt s.batch.packed oversize bs with
  | none => s.modBatch fun b => b.countRejected index .malformed
  | some e =>
    (s.modBatch fun b => { b with commit := some { entry := e, index := index, phase := .searching { card := e.card } } })
      |>.placeRequest .batch (searchRequest e.card true)

/-- An entry closes: numbered, and moved into an empty Commit slot or left waiting in the Assembler (R162). -/
def State.closeEntry (bs : List Byte) (oversize : Bool) (s : State) : State :=
  let i := s.batch.closed + 1
  if s.batch.commit.isNone then
    (s.modBatch fun b => { b with closed := i, assembler := .empty }).enterCommit bs oversize i
  else s.modBatch fun b => { b with closed := i, assembler := .waiting bs oversize i }

/-- A closed entry waits: the parser pauses (R159). -/
def Assembler.isWaiting : Assembler → Bool
  | .waiting _ _ _ => true
  | .empty | .building _ _ => false

/-! ## The parser (R159 to R162) -/

/-- A byte is appended to the entry in the Assembler; the 25th and later ones mark it oversize (R160). -/
def Assembler.append (b : Byte) : Assembler → Assembler
  | .empty => .building [b] false
  | .building bs o => if bs.length < 24 then .building (bs ++ [b]) o else .building bs true
  | .waiting bs o i => .waiting bs o i

/-- A byte that is not a separator, or a literal 0x7E, in FRAMED mode: appended, or discarded with LEADING_DISCARD where
no entry has been started (R160). -/
def Batch.framedByte (b : Batch) (x : Byte) : Batch :=
  if b.started then { b with assembler := b.assembler.append x, sepSeen := false }
  else { b with leading := true, sepSeen := false }

/-- A new entry starts with its kind byte; after the internal end the byte is discarded instead (R160, R162). -/
def Batch.startEntry (b : Batch) (x : Byte) : Batch :=
  if b.closed = b.declared then { b with long := true, sepSeen := false }
  else { b with assembler := .building [x] false, started := true, sepSeen := false }

/-- The byte after a separator in FRAMED mode that is not 0x7E: the entry closes, and unless it must wait for the Commit
slot the next one starts (R159, R160). -/
def State.framedStart (x : Byte) (s : State) : State :=
  match s.batch.assembler with
  | .building bs o =>
    let s1 := s.closeEntry bs o
    if s1.batch.assembler.isWaiting then s1 else s1.modBatch fun b => b.startEntry x
  | .empty | .waiting _ _ _ => s.modBatch fun b => b.startEntry x

/-- One byte in FRAMED mode (R160). -/
def State.framedParse (x : Byte) (s : State) : State :=
  if s.batch.sepSeen then
    if x = 0x7E then s.modBatch fun b => b.framedByte x else s.framedStart x
  else if x = 0x7E then s.modBatch fun b => { b with sepSeen := true }
  else s.modBatch fun b => b.framedByte x

/-- One byte in PACKED mode: the entry closes at its 20th byte (R161). -/
def State.packedParse (x : Byte) (s : State) : State :=
  let s1 := s.modBatch fun b => { b with assembler := b.assembler.append x, started := true }
  match s1.batch.assembler with
  | .building bs o => if bs.length = 20 then s1.closeEntry bs o else s1
  | .empty | .waiting _ _ _ => s1

/-- One byte of the Inbox; after the internal end every byte is discarded and leaves the separator mark as it is (R162; DESIGN
CHOICE, log entry 35). -/
def State.parseByte (x : Byte) (s : State) : State :=
  if s.batch.closed = s.batch.declared then s.modBatch fun b => { b with long := true }
  else if s.batch.packed then s.packedParse x else s.framedParse x

/-- The bytes left in the Inbox when an entry has just closed and waits: in FRAMED mode the byte that closed it is not
taken (R159). -/
def leftInbox (packed : Bool) (x : Byte) (xs : List Byte) : List Byte := if packed then xs else x :: xs

/-- The parser takes bytes until none is left, or until an entry closes while the Commit slot is full (R159). -/
def State.parse : List Byte → State → State
  | [], s => s.modBatch fun b => { b with inbox := [] }
  | x :: xs, s =>
    let s1 := s.parseByte x
    if s1.batch.assembler.isWaiting then s1.modBatch fun b => { b with inbox := leftInbox b.packed x xs }
    else State.parse xs s1

/-- The parser runs over the Inbox, unless a closed entry waits (R159). -/
def State.runParser (s : State) : State := if s.batch.assembler.isWaiting then s else s.parse s.batch.inbox

/-! ## The end of a batch (R168) -/

def lengthStatus (b : Batch) : Nat :=
  if b.abort.isSome then 3 else if b.long then 2 else if b.closed = b.declared then 0 else 1

/-- The payload of BATCH_REPORT (R168). DEDUCED (log entry 38): the first rejected index and its reason are one optional field
under one presence byte. -/
def batchReportPayload (b : Batch) : List Byte :=
  u16 b.id ++ u16 b.declared ++ u16 b.closed ++ u16 b.applied ++ u16 b.rejected
    ++ (match b.first with | some x => u8 1 ++ u16 x.1 ++ u8 x.2.code | none => u8 0)
    ++ u8 (lengthStatus b) ++ flag b.leading ++ u8 ((b.abort.map AbortMark.code).getD 0)

/-- BATCH_REPORT is posted and the batch state becomes NONE (R168). -/
def State.reportBatch (s : State) : State :=
  (s.post .office .batchReport (batchReportPayload s.batch)).modBatch fun b => { b with state := .none }

/-- A batch in ENDING ends when the Commit slot is empty and no closed entry waits (R168). -/
def State.endIfDone (s : State) : State :=
  if s.batch.state = .ending ∧ s.batch.commit = none ∧ s.batch.assembler.isWaiting = false then s.reportBatch else s

/-- The Commit slot has become empty: a waiting entry moves in, the parser resumes, a batch in ENDING may end (R159,
R167). -/
def State.commitFreed (s : State) : State :=
  match s.batch.assembler with
  | .waiting bs o i => (((s.modBatch fun b => { b with assembler := .empty }).enterCommit bs o i).runParser).endIfDone
  | .empty | .building _ _ => s.runParser.endIfDone

/-! ## The end of an entry's work (R95, R167) -/

/-- The changes an applied entry makes in the cache (R95). `w`: the record written; `moved`: the card moved and its new
position. Of the record that an ADD has written the entry of its card takes all but usage and stamp. -/
def State.batchCache (e : Entry) (w : Option CardRecord) (moved : Option (CardNo × Position)) (s : State) : State :=
  match e, w with
  | .add n _ _ _ _, some r => 
    s.modResolverCache n fun x => { x with
      status := r.status, profile := r.profile, expiry := r.expiry, override := r.override }
  | .suspend n, some r | .resume n, some r => s.modResolverCache n fun x => { x with status := r.status }
  | .setUsage n _ _, some r =>
    s.modResolverCache n fun x => s.adjusted { x with usage := r.usage, stamp := r.stamp }
  | .revoke n, _ =>
    let s1 := (s.dropCached n).freeLocation n
    match moved with
    | some m => (s1.modCached m.1 fun x => { x with position := m.2 }).freeLocation m.1
    | none => s1
  | _, none => s

/-- The withdrawal notices of an applied SUSPEND or REVOKE (R167, step 2). -/
def State.batchWithdraw (e : Entry) (s : State) : State :=
  match e with
  | .suspend n | .revoke n => s.withdrawCard n
  | .add _ _ _ _ _ | .resume _ | .setUsage _ _ _ => s

/-- The work ends: the bucket is free, a service walk follows (R167, step 3). -/
def State.endCommitWork (s : State) : State := (s.endWork .batch).serviceWalk

/-- An applied entry (R167). -/
def State.applyEntry (c : Commit) (moved : Option (CardNo × Position)) (s : State) : State :=
  let s1 := ((s.batchCache c.entry c.written moved).batchWithdraw c.entry).endCommitWork
  (s1.modBatch fun b => { b with applied := b.applied + 1, commit := none }).commitFreed

/-- An entry rejected after its reads (R167). -/
def State.rejectEntry (c : Commit) (r : Rejection) (s : State) : State :=
  (s.endCommitWork.modBatch fun b => { b.countRejected c.index r with commit := none }).commitFreed

/-! ## Commit work (R164 to R166) -/

/-- The commit work goes on in a phase, with a request. -/
def State.commitRequest (c : Commit) (ph : CommitPhase) (op : StoreOp) (s : State) : State :=
  (s.modBatch fun b => { b with commit := some { c with phase := ph } }).placeRequest .batch ⟨op, false⟩

/-- A record write of the commit work, and the occupancy to be written after it, if any. -/
def State.commitWrite (c : Commit) (p : Position) (w : RecordSource) (occ : Option Nat) (s : State) : State :=
  s.commitRequest c (.writing p occ) (.recWrite (bucketOf c.entry.card) p w)

/-- The record that an ADD writes for a new card, its usage and stamp to be formed at the grant (R164). -/
def newRecord (n : CardNo) (st : CardStatus) (pr : Fin 16) (ex ov : Option Nat) : CardRecord :=
  { card := n, status := st, profile := pr, usage := 0, stamp := 0, expiry := ex, override := ov }

/-- An ADD after its search (R164). -/
def State.addSearched (c : Commit) (w : CardRecord) (e : SearchEnd) (s : State) : State :=
  match e with
  | .found r p _ => s.commitWrite c p (.asGiven { w with usage := r.usage, stamp := r.stamp }) none
  | .absent occ =>
    if h : occ < 16 then s.commitWrite c ⟨occ, h⟩ (.newCard w) (some (occ + 1)) else s.rejectEntry c .bucketFull
  | .damaged _ (some p) => s.commitWrite c p (.newCard w) none
  | .damaged _ none => s.commitWrite c 0 (.newCard w) (some 1)

/-- A SUSPEND, RESUME or SET_USAGE after its search (R165). -/
def State.changeSearched (c : Commit) (f : CardRecord → CardRecord) (e : SearchEnd) (s : State) : State :=
  match e with
  | .found r p _ => s.commitWrite c p (.asGiven (f r)) none
  | .absent _ | .damaged _ _ => s.rejectEntry c .notFound

/-- A REVOKE reads position q, downward, for a record to move into p (R166, step 2). -/
def State.scanAt (c : Commit) (p q : Position) (s : State) : State :=
  s.commitRequest c (.scanning p q) (.recRead (bucketOf c.entry.card) q)

/-- A REVOKE writes the directory, and will then move a record into p if there is one (R166). -/
def State.shrink (c : Commit) (p : Position) (occ : Nat) (move : Option CardRecord) (s : State) : State :=
  s.commitRequest c (.shrinking p move) (.dirWrite (bucketOf c.entry.card) occ)

/-- A REVOKE after its search (R166). -/
def State.revokeSearched (c : Commit) (e : SearchEnd) (s : State) : State :=
  match e with
  | .found _ p occ =>
    if h : p.val + 1 < occ ∧ occ ≤ 16 then s.scanAt c p ⟨occ - 1, by omega⟩ else s.shrink c p (occ - 1) none
  | .absent _ | .damaged _ _ => s.rejectEntry c .notFound

/-- The search of an entry has ended (R164 to R166). -/
def State.entrySearched (c : Commit) (e : SearchEnd) (s : State) : State :=
  match c.entry with
  | .add n st pr ex ov => s.addSearched c (newRecord n st pr ex ov) e
  | .revoke _ => s.revokeSearched c e
  | .suspend _ => s.changeSearched c (fun r => { r with status := .suspended }) e
  | .resume _ => s.changeSearched c (fun r => { r with status := .active }) e
  | .setUsage _ u p => s.changeSearched c (fun r => { r with usage := u, stamp := p }) e

/-- A position read while a REVOKE looks for a record above p (R166, step 2). -/
def State.scanned (c : Commit) (p q : Position) (r : Option CardRecord) (s : State) : State :=
  match r with
  | some x => s.shrink c p q.val (some x)
  | none =>
    if h : p.val + 1 < q.val then s.scanAt c p ⟨q.val - 1, by omega⟩ else s.shrink c p p.val none

/-- A completed transaction of the commit work (R164 to R166). -/
def State.commitHanded (t : Transaction) (o : Handed) (s : State) : State :=
  match s.batch.commit with
  | none => s
  | some c =>
    match c.phase, o with
    | .searching q, o =>
      match q.step o with
      | .read q' p => s.commitRequest c (.searching q') (.recRead (bucketOf c.entry.card) p)
      | .ended e => s.entrySearched c e
    | .writing p none, .written => s.applyEntry { c with written := t.written, phase := .writing p none } none
    | .writing p (some n), .written =>
      s.commitRequest { c with written := t.written } (.writingDir p) (.dirWrite (bucketOf c.entry.card) n)
    | .writingDir _, .written => s.applyEntry c none
    | .scanning p q, .record _ r => s.scanned c p q r
    | .shrinking _ none, .written => s.applyEntry c none
    | .shrinking p (some r), .written => s.commitRequest c (.moving p r) (.recWrite (bucketOf c.entry.card) p (.asGiven r))
    | .moving p r, .written => s.applyEntry c (some (r.card, p))
    | _, _ => s

/-! ## Abort and store loss (R169, R170) -/

/-- The Inbox and the Assembler are emptied (R169, R170). -/
def Batch.emptied (b : Batch) : Batch := { b with inbox := [], assembler := .empty }

/-- The Commit slot holds an entry whose first transaction has not been granted (R169). -/
def State.commitUngranted (s : State) : Bool :=
  s.batch.commit.isSome && (match s.arbiter.batch.waiting with | some q => q.begins | none => false)

/-- BATCH_ABORT, after its response (R169). -/
def State.abortBatch (s : State) : State :=
  let s1 := s.modBatch fun b => { b.emptied with abort := some .request, state := .ending }
  (if s1.commitUngranted then s1.withdrawBatch.modBatch fun b => { b with commit := none } else s1).endIfDone

/-- The Batch Engine receives the store loss (R170). -/
def State.batchLoss (s : State) : State :=
  if s.batch.state = .none then s
  else
    (s.modBatch fun b =>
      let b1 := match b.commit with
        | some c => { b.countRejected c.index .store with commit := none }
        | none => b
      { b1.emptied with abort := some (b1.abort.getD .store) }).reportBatch

end Sys2Proof.Machine
end

