-- ==== Sys2Proof/Machine/CardStore.lean ====
section
/-! DEFINITION. The Card Store Interface: completion events, damage, faults, the header read, the format (R64 to R66, R68,
R70 to R74, R185). -/

namespace Sys2Proof.Machine

def State.modStore (f : Store → Store) (s : State) : State := { s with store := f s.store }

/-- STORE_STATE causes (R187). -/
inductive StoreCause where
  | fault | attach | formatBegin | formatDone
  deriving DecidableEq, Repr, Inhabited

def StoreCause.code : StoreCause → Nat
  | .fault => 0 | .attach => 1 | .formatBegin => 2 | .formatDone => 3

/-- STORE_STATE to OFFICE: the new state, the previous state, the cause (R66, R71 to R73). -/
def State.postStoreState (new previous : StoreState) (c : StoreCause) (s : State) : State :=
  s.post .office .storeState (u8 new.code ++ u8 previous.code ++ u8 c.code)

/-- The store becomes ONLINE from another state (R71). -/
def State.storeOnline (h : Header) (previous : StoreState) (c : StoreCause) (s : State) : State :=
  (((s.modStore fun x => { x with state := .online, header := some h, format := none }).flushCache).alert
    (.storeBack previous)).postStoreState .online previous c

/-! ## Faults (R66, R70) -/

/-- One requester receives the store loss (R70). -/
def State.lossFor (r : Requester) (s : State) : State :=
  match r with
  | .refill => s.lookupsLoss
  | .charge => s.chargesLoss
  | .batch => s.batchLoss

/-- The store loss at every neighbour but the requester of a transaction that failed: Arbiter, Card Resolver, Batch
Engine (R70). -/
def State.storeLoss (failed : Option Requester) (s : State) : State :=
  ([Requester.refill, .charge, .batch].filter fun r => failed != some r).foldl (fun t r => t.lossFor r) s.arbiterLoss

/-- A transaction completes TIMEOUT or BUS_ERROR: FAULTED (R66). -/
def State.storeFault (t : Transaction) (f : Failure) (s : State) : State :=
  let previous := s.store.state
  let s1 := (s.modStore fun x => { x with state := .faulted, header := none, format := none }).alert
    (.storeFault f t.op.kind t.requester ((t.op.bucket.map BitVec.toNat).getD 0) t.op.position)
  ((s1.postStoreState .faulted previous .fault).storeLoss (some t.requester)).lossFor t.requester

/-! ## The format (R73, R74) -/

/-- The i-th write of a format: the header cleared, the directory entries of buckets 0 to 2047, the header valid (R74). -/
def formatOp (i : Nat) : StoreOp :=
  if i = 0 then .headerWrite false
  else if i ≤ Config.bucketCount then .dirWrite (BitVec.ofNat 11 (i - 1)) 0
  else .headerWrite true

/-- A write of the format has completed DONE (R74). -/
def State.formatHanded (s : State) : State :=
  match s.store.format with
  | some n =>
    if n + 1 = Config.formatWrites then
      (s.storeOnline (headerAt (encHeader true)) .formatting .formatDone).endWork .batch
    else (s.modStore fun x => { x with format := some (n + 1) }).placeRequest .batch ⟨formatOp (n + 1), false⟩
  | none => s

/-- A format begins (R73, R74). -/
def State.startFormat (s : State) : State :=
  let previous := s.store.state
  let s1 := (s.modStore fun x => { x with state := .formatting, header := none }).flushCache
  let s2 := (s1.postStoreState .formatting previous .formatBegin).storeLoss none
  (s2.modStore fun x => { x with format := some 0 }).placeRequest .batch ⟨formatOp 0, false⟩

/-! ## Completion (R64, R65) -/

/-- What a read's bytes hand to the requester; an item that does not pass is damaged (R61, R62, R65). -/
def StoreOp.handed (op : StoreOp) (bs : List Byte) : Handed :=
  match op with
  | .dirRead _ => .directory (dirAt bs)
  | .recRead b p => .record p (recordAt b bs)
  | .headerWrite _ | .dirWrite _ _ | .recWrite _ _ _ => .written

/-- DAMAGED_RECORD for a read that completes DAMAGED (R65). -/
def State.damageAlert (t : Transaction) (o : Handed) (s : State) : State :=
  let b := (t.op.bucket.map BitVec.toNat).getD 0
  match o with
  | .directory none => s.alert (.damagedRecord .directory b 0 t.requester)
  | .record p none => s.alert (.damagedRecord .record b p.val t.requester)
  | .directory (some _) | .record _ (some _) | .written => s

/-- The outcome goes to the requester that was granted the transaction (R64, R75). -/
def State.handOver (t : Transaction) (o : Handed) (s : State) : State :=
  match t.requester with
  | .refill => s.refillHanded o
  | .charge => s.chargeHanded t o
  | .batch => if s.store.format.isSome then s.formatHanded else s.commitHanded t o

/-- A transaction completes DONE or DAMAGED: the alert of a damaged read, the next grant, the outcome to its requester
(R64, R65, R75). -/
def State.complete (t : Transaction) (bs : List Byte) (s : State) : State :=
  let o := t.op.handed bs
  ((s.putItem t).damageAlert t o).tryGrant.handOver t o

/-- The bytes the memory holds for the item of a transaction. -/
def State.itemOf (s : State) (op : StoreOp) : List Byte := s.store.mem.readBytes op.address op.size

/-- The memory holds other bytes than before at the item of a read (R71, log entry 16). -/
def State.alterItem (op : StoreOp) (bs : List Byte) (s : State) : State :=
  s.modStore fun x => { x with mem := Memory.writeBytes op.address bs x.mem }

/-- The transaction in flight completes with the memory's answer (R64, R66). -/
def State.answerTransaction (a : StoreAnswer) (t : Transaction) (s : State) : State :=
  let s0 := { s with arbiter := { s.arbiter with inFlight := none } }
  match a with
  | .held => s0.complete t (s.itemOf t.op)
  | .busError fate => (if t.op.isWrite then s0.applyFate fate t else s0).storeFault t .busError
  | .bytes bs =>
    if t.op.isWrite then s0.complete t []
    else if bs.length = t.op.size then (s0.alterItem t.op bs).complete t bs
    else s0.storeFault t .busError

/-- No complete answer within 5 ms of the start (R64, R66). -/
def State.timeoutTransaction (fate : WriteFate) (t : Transaction) (s : State) : State :=
  let s0 := { s.elapseTo (t.start + Config.storeMs) with arbiter := { s.arbiter with inFlight := none } }
  (if t.op.isWrite then s0.applyFate fate t else s0).storeFault t .timeout

/-! ## The direct header read (R68, R72, R185) -/

/-- START to all three ports: reset kind, clock-valid flag, store state (R185). -/
def State.postStart (s : State) : State :=
  let p := u8 s.resetKind.code ++ flag s.clock.valid ++ u8 s.store.state.code
  ((s.post .office .start p).post .crew .start p).post .service .start p

/-- The header read of start-up sets the first state, and START is posted (R68, R185). -/
def State.startUp (st : StoreState) (h : Option Header) (s : State) : State :=
  ({ s with run := .running, store := { s.store with state := st, header := h, headerRead := none } }).postStart

/-- The OFFICE request in progress, STORE_ATTACH while its header read runs (R72, R179). -/
def State.attachRequest (s : State) : Taken :=
  let x := (s.port .office).inProgress.getD (0x18, 0)
  { port := .office, kind := x.1, tag := x.2, payload := [] }

/-- The header read of STORE_ATTACH sets the state; the response comes at its completion (R72). -/
def State.attached (st : StoreState) (h : Option Header) (s : State) : State :=
  let previous := s.store.state
  let s0 := s.modStore fun x => { x with headerRead := none }
  let s1 := match h with
    | some x => s0.storeOnline x previous .attach
    | none =>
      let s' := s0.modStore fun x => { x with state := st, header := none }
      if st = previous then s' else s'.postStoreState st previous .attach
  s1.answer s.attachRequest .ok (u8 st.code ++ encHeaderCopy h)

/-- A direct header read ends with a state and, for ONLINE, the header copy (R68, R72). -/
def State.headerOutcome (p : HeaderPurpose) (st : StoreState) (h : Option Header) (s : State) : State :=
  match p with
  | .startUp => s.startUp st h
  | .attach => s.attached st h

/-- The state that eight header bytes give (R68). -/
def State.headerBytes (p : HeaderPurpose) (bs : List Byte) (s : State) : State :=
  if headerValid bs then s.headerOutcome p .online (some (headerAt bs)) else s.headerOutcome p .unformatted none

/-- A direct header read completes with the memory's answer (R68, R72). -/
def State.answerHeader (a : StoreAnswer) (p : HeaderPurpose) (s : State) : State :=
  match a with
  | .held => s.headerBytes p (s.store.mem.readBytes headerAddress 8)
  | .busError _ => s.headerOutcome p .absent none
  | .bytes bs =>
    if bs.length = 8 then
      (s.modStore fun x => { x with mem := Memory.writeBytes headerAddress bs x.mem }).headerBytes p bs
    else s.headerOutcome p .absent none

end Sys2Proof.Machine
end

