-- ==== Sys2Proof/Machine/Reset.lean ====
section
/-! DEFINITION. Taking a reset and losing the main supply (R18, R21, R63, R64, R118, R122, R185, R186). -/

namespace Sys2Proof.Machine

/-- A slot at the end of a reset: every field at its reset value, the filters at their raw levels (R1, R3, R21, R185). -/
def SlotUnit.afterReset (u : SlotUnit) : SlotUnit := { lines := u.lines.map Filter.afterReset }

/-- The period is recomputed at the end of a reset while the valid flag is set, under the kind MONTH; no notice (R122). -/
def Clock.afterReset (c : Clock) : Clock :=
  { c with
    period := if c.valid then periodOf .month c.time.toNat else c.period
    hoursOwed := 0
    daysOwed := 0 }

/-- The clock after a POWER_ON that found both feeds lost starts afresh; otherwise it ran on (R118, R185). -/
def Clock.afterPower (backupLost : Bool) (c : Clock) : Clock := if backupLost then {} else c.afterReset

/-- A reset or a loss of supply cuts off the transaction in flight: a write leaves its item with a failed check (R63,
R64). -/
def State.cutOff (s : State) : State :=
  match s.arbiter.inFlight with
  | some t => s.cutOffItem t
  | none => s

/-- The part with all its volatile state at the reset values: what outlives a reset is the memory, the clock, the levels
at the pins, and the commands that wait (R185). -/
def State.volatileReset (s : State) : State :=
  { State.reset with
    slots := s.slots.map SlotUnit.afterReset
    store := { mem := s.store.mem }
    clock := s.clock
    probe := s.probe
    freeIndex := s.freeIndex
    pending := s.pending }

/-- A reset of a kind: at its end the header read of start-up is in flight (R68, R185). -/
def State.takeReset (kind : ResetKind) (c : Clock → Clock) (s : State) : State :=
  let s1 := s.cutOff.volatileReset
  { s1 with
    run := .starting, resetKind := kind, clock := c s1.clock
    store := { s1.store with headerRead := some (.startUp, 0) } }

/-- The main supply goes away: operation stops, a write in flight is cut off, both locks are engaged (R18, R63, R118). -/
def State.loseSupply (s : State) : State :=
  let s1 := s.cutOff.volatileReset
  { s1 with run := .off, resetKind := s.resetKind }

end Sys2Proof.Machine
end

