-- ==== Sys2Proof/Machine/Requests.lean ====
section
/-! DEFINITION. The taking of a request from a port queue: the row that a frame is, the checks of the Message Port Unit,
the restart of the crew link timer (R141, R179). -/

namespace Sys2Proof.Machine

/-- A meaning of a row of the command table. -/
abbrev Result := Host.Outcome State Fault Refusal

/-- A port may take a request: the part runs, no request is in progress, the response queue has room (R179, R185). -/
def State.mayTake (s : State) (p : Port) : Bool :=
  s.run == .running && (s.port p).inProgress.isNone && (s.port p).responseRoom

/-- A frame as a taken request (R188). -/
def takenOf (p : Port) (frame : List Byte) : Taken :=
  { port := p, kind := frame.getD 1 0, tag := frame.getD 2 0, payload := frame.drop 3 }

/-- A request taken at CREW restarts the link timer of an open session that is not close pending (R141). -/
def State.restartLink (p : Port) (s : State) : State :=
  match p, s.lift.session with
  | .crew, some c => if c.closePending then s else s.startLink
  | _, _ => s

/-- The oldest frame leaves the request queue and becomes the request in progress (R179). -/
def State.popRequest (p : Port) (frame : List Byte) (s : State) : State :=
  let q := s.port p
  (s.setPort p { q with requests := q.requests.drop 1, inProgress := some (frame.getD 1 0, frame.getD 2 0) }).restartLink p

/-- Checks 3 and 4 of R179 for a kind: permitted at this port, payload length admitted; then the owner's rule. -/
def State.checkKind (k : RequestKind) (h : Taken → State → State) (t : Taken) (s : State) : State :=
  if !k.permitted t.port then s.refuse t .notPermitted
  else if !k.admits t.payload.length then s.refuse t .badLength
  else h t s

/-- The port takes its oldest frame if that frame is of the row; otherwise nothing happens (log entry 1). -/
def State.takeRow (p : Port) (row : RequestRow) (h : Taken → State → State) (s : State) : State :=
  match (s.port p).requests with
  | [] => s
  | f :: _ => if s.mayTake p && rowOf f == row then h (takenOf p f) (s.popRequest p f) else s

/-- The taking of a request of a kind that is one row of the table. -/
def State.takeKind (p : Port) (k : RequestKind) (h : Taken → State → State) (s : State) : State :=
  s.takeRow p (.kind k) (State.checkKind k h)

/-- A taken frame with a bad length, or else of an unknown kind (R179, checks 1 and 2). -/
def State.unknown (t : Taken) (frame : List Byte) (s : State) : State :=
  if lengthGood frame then s.refuse t .unknownKind else s.refuse t .badLength

/-- The taking of an UNKNOWN_REQUEST. -/
def State.takeUnknown (p : Port) (s : State) : State :=
  match (s.port p).requests with
  | [] => s
  | f :: _ => s.takeRow p .unknown fun t s' => s'.unknown t f

/-- A slot number field of a request at the start of its payload (R2, R3). -/
def Taken.slot (t : Taken) : Option Slot := slotAt t.payload 0

/-- A configured slot number, as the requests that refuse an UNCONFIGURED slot BAD_FIELD read it (R3). -/
def State.configuredSlot (s : State) (t : Taken) : Option Slot :=
  match t.slot with
  | some k => if (s.slot k).configured then some k else none
  | none => none

end Sys2Proof.Machine
end

