-- ==== Sys2Proof/Machine/CmdTable.lean ====
section
/-! DEFINITION. The requests of the Container Table and the queries: STATION_STATUS, SLOT_QUERY, STATION_CONFIG,
SLOT_CONFIG, SLOT_REMOVE, PROFILE_WRITE, HOURS_WRITE, TONE_WRITE (chapter 1). -/

namespace Sys2Proof.Machine

/-! ## Queries (R17) -/

/-- The payload of STATION_STATUS (R17). -/
def statusPayload (s : State) : List Byte :=
  encConfig s.config
    ++ allSlots.flatMap (fun k => flag (s.slot k).configured ++ encBars (s.slot k).bars)
    ++ flag s.clock.valid ++ u8 s.store.state.code ++ flag s.resolver.frozen ++ u8 s.batch.state.code
    ++ flag s.lift.session.isSome

def State.stationStatus (t : Taken) (s : State) : State := s.answer t .ok (statusPayload s)

def execStationStatus (p : Port) (s : State) : Result := .next (s.takeKind p .stationStatus State.stationStatus)

/-- Whether a thing is present, and its cause, 0 where it is not (R17, R187). -/
def encCause : Option Nat → List Byte
  | some c => u8 1 ++ u8 c
  | none => u8 0 ++ u8 0

/-- The payload of SLOT_QUERY (R17). -/
def slotPayload (s : State) (k : Slot) : List Byte :=
  let u := s.slot k
  flag u.configured ++ encSlotRecord u.record ++ encBars u.bars ++ u8 u.intake.state.code ++ u8 (s.custodyOn k).code
    ++ flag (s.lift.custody.orphaned && s.custodyOn k != .none) ++ flag u.reader.lost
    ++ u16 u.fill.e ++ u16 u.fill.f ++ u16 u.fill.fr ++ u8 u.fill.hf ++ flag u.fill.measured
    ++ encCause ((s.demandOf k).map fun e => e.cause.code) ++ encCause ((s.rangeEntry k).map fun e => e.cause.code)

def State.slotQuery (t : Taken) (s : State) : State :=
  match t.slot with
  | some k => s.answer t .ok (slotPayload s k)
  | none => s.refuse t .badField

def execSlotQuery (p : Port) (s : State) : Result := .next (s.takeKind p .slotQuery State.slotQuery)

/-! ## The current period (R122) -/

/-- PERIOD_CHANGE causes (R187). -/
inductive PeriodCause where
  | day | timeSet | config
  deriving DecidableEq, Repr, Inhabited

def PeriodCause.code : PeriodCause → Nat
  | .day => 0 | .timeSet => 1 | .config => 2

/-- The current period is recomputed while the valid flag is set; a new number is stored and posted (R122). -/
def State.recomputePeriod (c : PeriodCause) (s : State) : State :=
  let n := periodOf s.config.periodKind s.clock.time.toNat
  if s.clock.valid ∧ n ≠ s.clock.period then
    ({ s with clock := { s.clock with period := n } }).post .office .periodChange
      (u16 s.clock.period ++ u16 n ++ encPeriodKind s.config.periodKind ++ u8 c.code)
  else s

/-! ## STATION_CONFIG (R8) -/

/-- A changed interval moves a slot's due time to its last burst, or configuration, plus the interval; a due time that has
passed makes the PERIODIC request at once and moves on (R8, R33). -/
def State.moveDue (k : Slot) (s : State) : State :=
  if !(s.slot k).configured then s
  else
    let d := (s.slot k).range.lastBurst + s.config.intervalMs
    if d ≤ s.now then
      let s1 := s.setDue k
      if (s.slot k).bars.flood then s1 else s1.requestRange k .periodic
    else s.modRange k fun x => { x with due := some d }

/-- The stored configuration takes effect: the due times by a new interval, the period (R8, R122). -/
def State.applyConfig (c : StationConfig) (s : State) : State :=
  let s1 := { s with config := c }
  let s2 := if c.rangingInterval = s.config.rangingInterval then s1 else s1.eachSlot State.moveDue
  s2.recomputePeriod .config

def State.stationConfig (t : Taken) (s : State) : State :=
  match configAt t.payload with
  | some c => (s.applyConfig c).answer t .ok (encConfig c)
  | none => s.refuse t .badField

def execStationConfig (p : Port) (s : State) : Result := .next (s.takeKind p .stationConfig State.stationConfig)

/-! ## SLOT_CONFIG (R2 to R6) -/

/-- PLATFORM_SEATED accepted off and WATER accepted on at configuration: OUT, then FLOOD (R5). -/
def State.configureBars (k : Slot) (s : State) : State :=
  let u := s.slot k
  let s1 := if u.accepted .platform then s else s.changeBar k .out true
  if u.accepted .water then (s1.modTrack k fun x => { x with floodSince := s.now }).changeBar k .flood true else s1

/-- Their alerts, after both bars so that LOG, which an append may set, is posted last; the ranging request just queued is
removed again under FLOOD (R5, R26, R28). -/
def State.configureAlerts (k : Slot) (s : State) : State :=
  let u := s.slot k
  let s1 := if u.accepted .platform then s else s.alert (.outUnexpected k (s.custodyOn k))
  if u.accepted .water then (s1.alert (.floodOn k)).removeEntry k .cancelled else s1

/-- The drum at configuration: at home, or a turn in progress that begins at that moment (R22). -/
def State.configureDrum (k : Slot) (s : State) : State :=
  if (s.slot k).accepted .drumHome then s.modTrack k fun x => { x with drum := .atHome, jamDeadline := none }
  else s.startTurn (if (s.slot k).accepted .drumOpen then .reachedOpen else .turning) k

/-- A slot joins the rotation if reader enable is set, and a waiting bus gives it the turn (R5, R96). -/
def State.joinRotation (k : Slot) (s : State) : State := if (s.slot k).inRotation then s.wakeBus else s

/-- SLOT_CONFIG for an UNCONFIGURED slot (R5): the fill record and UNMEASURED, the OFFICE request and the due time, the
pit lines, the LOG bar, the thresholds, the reader. The burst that the request may start is chosen last. -/
def State.configureSlot (k : Slot) (r : SlotRecord) (s : State) : State :=
  let s1 := s.modSlot k fun u =>
    { u with configured := true, record := r, fill := {}, track := {}, range := { lastBurst := s.now } }
  let s2 := ((s1.recompute k).changeBar k .unmeasured true).setDue k
  let s3 := s2.queueRange false k .office
  let s4 := ((s3.configureBars k).configureAlerts k).configureDrum k
  let s5 := (s4.evaluateLog).evaluateThresholds false k
  (s5.joinRotation k).chooseBurst

/-- The geometry of a record (R6). -/
def SlotRecord.geometry (r : SlotRecord) : Nat × Nat × Nat := (r.vNom, r.hS, r.hU)

/-- A change of geometry discards the estimate, then the burst in flight, after which the next burst is chosen, and the
waiters' wait; the OFFICE request follows, then the thresholds (R6, R34, R38). H, computed by the old geometry, is dropped with
E and recomputed with F (R40). -/
def State.changeGeometry (k : Slot) (s : State) : State :=
  let s1 := (s.modFill k fun x => { x with e := 0, h := 0, measured := false, silent := 0 }).changeBar k .unmeasured true
  let s2 := (((s1.discardBurst k .discarded).answerWaiters k .discarded).chooseBurst).requestRange k .office
  ((s2.recompute k).evaluateThresholds false k).recomputeHours k

/-- The thresholds of a record (R51). -/
def SlotRecord.thresholds (r : SlotRecord) : Nat × Nat × Nat := (r.tFull, r.tReopen, r.tDem)

/-- The geometry is unchanged: F, the headroom and HF are recomputed, the thresholds evaluated if they changed (R6, R51).
DESIGN CHOICE, unsafe (log entry 40): R6 names HF with F and the headroom, ahead of the thresholds, and R40 the thresholds ahead
of the hours-to-full. The model follows R40, so a DEMAND_RAISED of this request carries the HF and the position held before. -/
def State.keepGeometry (old : SlotRecord) (k : Slot) (s : State) : State :=
  let s1 := s.recompute k
  (if old.thresholds = (s.slot k).record.thresholds then s1 else s1.evaluateThresholds false k).recomputeHours k

/-- A change of reader enable: the reader joins or leaves the rotation (R6, R96). -/
def State.changeReader (old : SlotRecord) (k : Slot) (s : State) : State :=
  if old.readerEnable = (s.slot k).record.readerEnable then s
  else if (s.slot k).record.readerEnable then s.joinRotation k else s.leaveRotation k

/-- SLOT_CONFIG for a CONFIGURED slot: the effects of the fields that changed (R6). -/
def State.reconfigureSlot (k : Slot) (r : SlotRecord) (s : State) : State :=
  let old := (s.slot k).record
  let s1 := s.modSlot k fun u => { u with record := r }
  let s2 := if old.geometry = r.geometry then s1.keepGeometry old k else s1.changeGeometry k
  let s3 := if old.charged = r.charged then s2 else s2.evaluateLog
  s3.changeReader old k

/-- The BUSY checks of SLOT_CONFIG and SLOT_REMOVE (R4, R7). -/
def State.slotBusy (s : State) (k : Slot) : Bool := (s.slot k).intake.state.busy || s.custodyOn k != .none

def State.slotConfig (t : Taken) (s : State) : State :=
  match t.slot, slotRecordAt t.payload 1 with
  | some k, some r =>
    if s.slotBusy k then s.refuse t .busy
    else
      (if (s.slot k).configured then s.reconfigureSlot k r.clamped else s.configureSlot k r.clamped).answer t .ok
        (encSlotRecord r.clamped)
  | _, _ => s.refuse t .badField

def execSlotConfig (p : Port) (s : State) : Result := .next (s.takeKind p .slotConfig State.slotConfig)

/-! ## SLOT_REMOVE (R7) -/

/-- What is left of a slot that goes out of service: its record, its filters and its reader's status (R1, R3, R7, R97). -/
def SlotUnit.removed (u : SlotUnit) : SlotUnit :=
  { record := u.record, lines := u.lines
    reader := { u.reader with signal := none, unanswered := 0 } }

/-- A slot is taken out of service (R7). -/
def State.removeSlot (k : Slot) (s : State) : State :=
  let s1 := (s.clearDemand k .removed).removeEntry k .cancelled
  let s2 := (s1.discardBurst k .cancelled).answerWaiters k .cancelled
  (s2.modSlot k SlotUnit.removed).chooseBurst

def State.slotRemove (t : Taken) (s : State) : State :=
  match t.slot with
  | some k =>
    if s.slotBusy k then s.refuse t .busy
    else if !(s.slot k).configured then s.refuse t .wrongState
    else (s.removeSlot k).answer t .ok (encSlot k)
  | none => s.refuse t .badField

def execSlotRemove (p : Port) (s : State) : Result := .next (s.takeKind p .slotRemove State.slotRemove)

/-! ## PROFILE_WRITE, HOURS_WRITE, TONE_WRITE (R9 to R11) -/

/-- The bytes that hold the marks of a map length (R187). -/
def markBytes (n : Nat) : Nat := (n + 7) / 8

/-- The marks of a map length from byte i on. -/
def marksAt (bs : List Byte) (i n : Nat) : List Bool := (List.range n).map (markAt bs i)

/-- The profile of a PROFILE_WRITE payload: number, kind, map length, session limit, quota, marks (R9, log entry 14). -/
def profileAt (bs : List Byte) (kind : ProfileKind) : Profile :=
  { kind := kind, marks := marksAt bs 6 (min (byteAt bs 2) 64), sessionLimit := clamp 1 8 (byteAt bs 3)
    quota := u16At bs 4 }

/-- PROFILE_WRITE (R9). DEDUCED (log entry 21): a bad kind or number is refused BAD_FIELD ahead of a payload too short for its
map length, which is BAD_LENGTH. -/
def State.profileWrite (t : Taken) (s : State) : State :=
  match ProfileKind.ofCode (byteAt t.payload 1) with
  | none => s.refuse t .badField
  | some kind =>
    if h : byteAt t.payload 0 < 16 then
      if t.payload.length < 6 + markBytes (byteAt t.payload 2) then s.refuse t .badLength
      else
        ({ s with profiles := s.profiles.set (byteAt t.payload 0) (profileAt t.payload kind) }).answer t .ok
          (encProfile (profileAt t.payload kind))
    else s.refuse t .badField

def execProfileWrite (p : Port) (s : State) : Result := .next (s.takeKind p .profileWrite State.profileWrite)

/-- The hours of an HOURS_WRITE payload, both minutes clamped; bit 7 of the rest-day byte names no weekday (R10, R187). -/
def hoursAt (bs : List Byte) : FractionHours :=
  { openMinute := clamp 0 1439 (u16At bs 1), closeMinute := clamp 1 1440 (u16At bs 3), restDays := BitVec.ofNat 7 (byteAt bs 5) }

def State.hoursWrite (t : Taken) (s : State) : State :=
  match Fraction.ofCode (byteAt t.payload 0) with
  | some f =>
    ({ s with hours := s.hours.set f.index (hoursAt t.payload) }).answer t .ok (encHours (hoursAt t.payload))
  | none => s.refuse t .badField

def execHoursWrite (p : Port) (s : State) : Result := .next (s.takeKind p .hoursWrite State.hoursWrite)

/-- The tone entry of a TONE_WRITE payload, clamped (R11). -/
def toneAt (bs : List Byte) : ToneEntry := ⟨clamp 8 160 (byteAt bs 1), clamp 5 200 (byteAt bs 2), clamp 1 4 (byteAt bs 3)⟩

def State.toneWrite (t : Taken) (s : State) : State :=
  match TonePattern.ofCode (byteAt t.payload 0) with
  | some p => ({ s with tones := s.tones.set (toneAt t.payload) p }).answer t .ok (encTone (toneAt t.payload))
  | none => s.refuse t .badField

def execToneWrite (p : Port) (s : State) : Result := .next (s.takeKind p .toneWrite State.toneWrite)

end Sys2Proof.Machine
end

