-- ==== Sys2Proof/Machine/CmdClock.lean ====
section
/-! DEFINITION. The Station Clock: TIME_SET, TIME_QUERY, the hour event, the day event, the wrap (chapter 7). -/

namespace Sys2Proof.Machine

/-- The calendar fields of a TIME_SET payload (R120). -/
def calendarAt (bs : List Byte) : Calendar :=
  { year := u16At bs 0, month := byteAt bs 2, day := byteAt bs 3, hour := byteAt bs 4, minute := byteAt bs 5
    second := byteAt bs 6 }

/-- The time is set, the flag is set, the second phase begins afresh, the period is recomputed (R120). -/
def State.setTime (t : Nat) (s : State) : State :=
  ({ s with clock := { s.clock with time := BitVec.ofNat 32 t, valid := true, phaseMs := 0 } }).recomputePeriod .timeSet

/-- Valid flag, period kind, current period (R120, R121). -/
def clockFields (s : State) : List Byte := flag s.clock.valid ++ encPeriodKind s.config.periodKind ++ u16 s.clock.period

def State.timeSet (t : Taken) (s : State) : State :=
  let c := calendarAt t.payload
  if c.wellFormed then
    let s1 := s.setTime c.time
    s1.answer t .ok (u32 s1.clock.time.toNat ++ clockFields s1)
  else s.refuse t .badField

def execTimeSet (p : Port) (s : State) : Result := .next (s.takeKind p .timeSet State.timeSet)

/-- The payload of TIME_QUERY (R121). -/
def timePayload (s : State) : List Byte :=
  let t := s.clock.time.toNat
  u32 t ++ encCalendar (calendarOf t) ++ u16 (dayNumber t) ++ u8 (weekday t) ++ u16 (minuteOfDay t) ++ clockFields s

def State.timeQuery (t : Taken) (s : State) : State := s.answer t .ok (timePayload s)

def execTimeQuery (p : Port) (s : State) : Result := .next (s.takeKind p .timeQuery State.timeQuery)

/-! ## Events of the running time (R118, R124) -/

/-- The ms until the running time next reaches a multiple of `period` seconds, or wraps to 0, which is one (R118, R124). -/
def Clock.msToBoundary (period : Nat) (c : Clock) : Nat :=
  let t := c.time.toNat
  1000 * (min ((t / period + 1) * period) 4294967296 - t) - c.phaseMs

/-- The running time reaches an hour boundary, if none is owed its event; that event is taken now. -/
def State.reachHour (s : State) : State :=
  let s1 := if s.clock.hoursOwed = 0 then s.elapse (s.clock.msToBoundary 3600) else s
  { s1 with clock := { s1.clock with hoursOwed := s1.clock.hoursOwed - 1 } }

/-- The running time reaches a day boundary, if none is owed its event; that event is taken now. -/
def State.reachDay (s : State) : State :=
  let s1 := if s.clock.daysOwed = 0 then s.elapse (s.clock.msToBoundary 86400) else s
  { s1 with clock := { s1.clock with daysOwed := s1.clock.daysOwed - 1 } }

/-- HOUR_EVENT: the fill rates, then the repeats of the Demand Queue (R54, R124, R134). Without main supply nothing but
the clock works (R118). -/
def State.hourEvent (s : State) : State := if s.run = .off then s.reachHour else s.reachHour.hourlyUpdate

def execHourEvent (s : State) : Result := .next s.hourEvent

/-- DAY_EVENT: the current period (R122, R124). -/
def State.dayEvent (s : State) : State := if s.run = .off then s.reachDay else s.reachDay.recomputePeriod .day

def execDayEvent (s : State) : Result := .next s.dayEvent

/-- CLOCK_WRAP: the running time passes 0xFFFFFFFF, wraps to 0 and clears the valid flag; the hour and the day that end
there are owed their events (R118, R124). -/
def State.clockWrap (s : State) : State := s.elapse (1000 * (4294967296 - s.clock.time.toNat) - s.clock.phaseMs)

def execClockWrap (s : State) : Result := .next s.clockWrap

end Sys2Proof.Machine
end

