-- ==== Sys2Proof/Machine/CmdDemandLog.lean ====
section
/-! DEFINITION. FILL_SET, RANGE_NOW, DEMAND_ADD, DEMAND_CANCEL, DEMAND_LIST, LOG_FETCH, LOG_RELEASE (R34, R57, R131, R133,
R136, R174, R175). -/

namespace Sys2Proof.Machine

/-! ## FILL_SET (R57) -/

def State.fillSetRequest (t : Taken) (s : State) : State :=
  match s.configuredSlot t with
  | some k =>
    let s1 := s.fillSet k (u32At t.payload 1)
    s1.answer t .ok (encSlot k ++ u16 (s1.slot k).fill.e ++ u16 (s1.slot k).fill.f)
  | none => s.refuse t .badField

def execFillSet (p : Port) (s : State) : Result := .next (s.takeKind p .fillSet State.fillSetRequest)

/-! ## RANGE_NOW (R34) -/

/-- The requesting port is entered as a waiter on the slot (R34). -/
def RangeSlot.addWaiter (x : RangeSlot) : Port → RangeSlot
  | .office => { x with waitOffice := true }
  | .service => { x with waitService := true }
  | .crew => x

def State.rangeNow (t : Taken) (s : State) : State :=
  match s.configuredSlot t with
  | some k =>
    if (s.slot k).bars.flood then s.refuse t .wrongState
    else ((s.answer t .accepted []).modRange k fun x => x.addWaiter t.port).requestRange k .office
  | none => s.refuse t .badField

def execRangeNow (p : Port) (s : State) : Result := .next (s.takeKind p .rangeNow State.rangeNow)

/-! ## DEMAND_ADD, DEMAND_CANCEL, DEMAND_LIST (R131, R133, R136) -/

/-- The entry of a slot becomes one of cause ORDER (R131). -/
def State.orderDemand (k : Slot) (s : State) : State :=
  match s.demandOf k with
  | none => s.raiseDemand k .order (s.slot k).fill.hf
  | some e => if e.cause = DemandCause.order then s else s.raiseCause k .order

/-- The payload of DEMAND_ADD: slot, cause, raise time, HF, position (R131). -/
def demandAddPayload (s : State) (k : Slot) : List Byte :=
  match s.demandOf k with
  | some e => encSlot k ++ u8 e.cause.code ++ encTime e.raised ++ u8 e.hf ++ u8 (s.demandPosition k)
  | none => []

def State.demandAdd (t : Taken) (s : State) : State :=
  match s.configuredSlot t with
  | some k =>
    let s1 := s.orderDemand k
    s1.answer t .ok (demandAddPayload s1 k)
  | none => s.refuse t .badField

def execDemandAdd (p : Port) (s : State) : Result := .next (s.takeKind p .demandAdd State.demandAdd)

def State.demandCancel (t : Taken) (s : State) : State :=
  match t.slot with
  | some k =>
    match s.demandOf k with
    | some e => (s.clearDemand k .cancel).answer t .ok (encSlot k ++ u8 e.cause.code)
    | none => s.refuse t .wrongState
  | none => s.refuse t .badField

def execDemandCancel (p : Port) (s : State) : Result := .next (s.takeKind p .demandCancel State.demandCancel)

/-- An entry of DEMAND_LIST in 6 bytes (R187). -/
def demandListEntry (e : DemandEntry) : List Byte :=
  u8 (e.slot.val + 8 * e.cause.code + (if e.announced then 32 else 0) + (if e.raised.isSome then 64 else 0))
    ++ u32 ((e.raised.map BitVec.toNat).getD 0) ++ u8 e.hf

/-- The payload of DEMAND_LIST (R136, R187). -/
def demandListPayload (q : List DemandEntry) : List Byte := u8 q.length ++ q.flatMap demandListEntry

def State.demandList (t : Taken) (s : State) : State :=
  let s1 := s.answer t .ok (demandListPayload s.demand)
  { s1 with demand := s1.demand.map fun e => { e with announced := true } }

def execDemandList (p : Port) (s : State) : Result := .next (s.takeKind p .demandList State.demandList)

/-! ## LOG_FETCH, LOG_RELEASE (R174 to R176, R191) -/

/-- The fields of a LOG_FETCH response before the records (R174, R191). -/
def fetchHead (l : StationLog) (offset returned part parts : Nat) : List Byte :=
  u16 l.records.length ++ u16 ((l.records.head?.map LogRecord.seq).getD 0) ++ u8 offset ++ u8 returned ++ flag l.incomplete
    ++ u8 part ++ u8 parts

/-- What LOG_FETCH returns from an offset: the payload, or none where the part is refused (R174). -/
def fetchPayload (l : StationLog) (offset part : Nat) : Option (List Byte) :=
  match l.records.drop offset with
  | [] => some (fetchHead l offset 0 0 0)
  | r :: rs =>
    if r.oversize then
      if part < r.parts then some (fetchHead l offset 1 part r.parts ++ (r.part part).bytes) else none
    else if part = 0 then
      let rs' := fittingRecords Config.fetchRoom (r :: rs)
      some (fetchHead l offset rs'.length 0 0 ++ rs'.flatMap LogRecord.bytes)
    else none

def State.logFetch (t : Taken) (s : State) : State :=
  match fetchPayload s.log (byteAt t.payload 0) (byteAt t.payload 1) with
  | some p => ({ s with log := { s.log with incomplete := false } }).answer t .ok p
  | none => s.refuse t .badField

def execLogFetch (p : Port) (s : State) : Result := .next (s.takeKind p .logFetch State.logFetch)

/-- The n oldest records are removed; the LOG bar and the level notice state follow (R173, R175, R176). -/
def State.releaseLog (n : Nat) (s : State) : State :=
  let rs := s.log.records.drop n
  let s1 := { s with log := { s.log with records := rs, spent := s.log.spent && decide (Config.logLevelLow ≤ rs.length) } }
  s1.evaluateLog

def State.logRelease (t : Taken) (s : State) : State :=
  let n := min (u16At t.payload 0) s.log.records.length
  let s1 := s.releaseLog n
  s1.answer t .ok (u16 n ++ u16 s1.log.records.length ++ optional u16 (s1.log.records.head?.map LogRecord.seq))

def execLogRelease (p : Port) (s : State) : Result := .next (s.takeKind p .logRelease State.logRelease)

end Sys2Proof.Machine
end

