-- ==== Sys2Proof/Machine/CmdBatch.lean ====
section
/-! DEFINITION. BATCH_BEGIN, BATCH_DATA, BATCH_END, BATCH_ABORT (R157 to R169). -/

namespace Sys2Proof.Machine

/-- The batch record as BATCH_BEGIN opens it (R158). -/
def openBatch (id n : Nat) (packed : Bool) : Batch := { state := .opened, id := id, declared := n, packed := packed }

/-- The mode of a BATCH_BEGIN payload, true for PACKED; none for an unknown code (R158, R187). -/
def batchModeAt (bs : List Byte) : Option Bool :=
  match byteAt bs 4 with
  | 0 => some false
  | 1 => some true
  | _ => none

def State.batchBegin (t : Taken) (s : State) : State :=
  let id := u16At t.payload 0
  let n := u16At t.payload 2
  match batchModeAt t.payload with
  | none => s.refuse t .badField
  | some packed =>
    if n = 0 ∨ 1024 < n then s.refuse t .badField
    else if s.batch.state ≠ .none then s.refuse t .busy
    else if s.store.state ≠ .online then s.refuse t .storeOffline
    else ({ s with batch := openBatch id n packed }).answer t .ok (u16 id ++ u16 n ++ u8 (if packed then 1 else 0))

def execBatchBegin (p : Port) (s : State) : Result := .next (s.takeKind p .batchBegin State.batchBegin)

/-- The payload goes into the Inbox, the response is posted, the parser runs (R159). -/
def State.feedBatch (t : Taken) (s : State) : State :=
  ((s.modBatch fun b => { b with inbox := t.payload }).answer t .ok (u16 s.batch.id ++ u16 s.batch.closed)).runParser

def State.batchData (t : Taken) (s : State) : State :=
  if s.batch.state ≠ .opened then s.refuse t .wrongState
  else if t.payload.length = 0 ∨ 48 < t.payload.length then s.refuse t .badLength
  else if s.batch.inbox ≠ [] then s.refuse t .busy
  else s.feedBatch t

def execBatchData (p : Port) (s : State) : Result := .next (s.takeKind p .batchData State.batchData)

/-- An entry that has been started in the Assembler closes; the batch goes to ENDING, and may end (R168). -/
def State.finishBatch (s : State) : State :=
  let s1 := match s.batch.assembler with
    | .building bs o => s.closeEntry bs o
    | .empty | .waiting _ _ _ => s
  (s1.modBatch fun b => { b with state := .ending, sepSeen := false }).endIfDone

def State.batchEnd (t : Taken) (s : State) : State :=
  if s.batch.state ≠ .opened then s.refuse t .wrongState
  else if s.batch.inbox ≠ [] then s.refuse t .busy
  else (s.answer t .accepted []).finishBatch

def execBatchEnd (p : Port) (s : State) : Result := .next (s.takeKind p .batchEnd State.batchEnd)

def State.batchAbort (t : Taken) (s : State) : State :=
  if s.batch.state = .none ∨ s.batch.abort.isSome = true then s.refuse t .wrongState
  else (s.answer t .ok []).abortBatch

def execBatchAbort (p : Port) (s : State) : Result := .next (s.takeKind p .batchAbort State.batchAbort)

end Sys2Proof.Machine
end

