-- ==== Sys2Proof/Machine/CmdCards.lean ====
section
/-! DEFINITION. CARD_QUERY, CACHE_CONTROL, STORE_ATTACH, STORE_FORMAT, RESTART, and the completion events of the store bus
(R64, R66, R68, R72, R73, R86, R87, R186). -/

namespace Sys2Proof.Machine

/-! ## CARD_QUERY (R86) -/

def State.cardQuery (t : Taken) (s : State) : State :=
  let n : CardNo := BitVec.ofNat 32 (u32At t.payload 0)
  if n = noCard then s.refuse t .badField
  else if s.resolver.queryPort.isSome then s.refuse t .busy
  else ((s.answer t .accepted []).modResolver fun r => { r with queryPort := some t.port }).placeLookup ⟨.cardQuery, n⟩

def execCardQuery (p : Port) (s : State) : Result := .next (s.takeKind p .cardQuery State.cardQuery)

/-! ## CACHE_CONTROL (R87) -/

/-- The response carries the mode as it now stands (R87). -/
def State.answerMode (t : Taken) (s : State) : State := s.answer t .ok (flag s.resolver.frozen)

def State.setMode (frozen : Bool) (t : Taken) (s : State) : State :=
  (s.modResolver fun r => { r with frozen := frozen }).answerMode t

/-- The row NORMAL, to which an unknown action code belongs: it is refused BAD_FIELD (R87, log entry 9). -/
def State.cacheNormal (t : Taken) (s : State) : State :=
  if byteAt t.payload 0 = 0 then s.setMode false t else s.refuse t .badField

def State.cacheFlush (t : Taken) (s : State) : State :=
  if s.resolver.refill.isSome then s.refuse t .busy else s.flushCache.answerMode t

def execCacheNormal (p : Port) (s : State) : Result :=
  .next (s.takeRow p .cacheNormal (State.checkKind .cacheControl State.cacheNormal))

def execCacheFrozen (p : Port) (s : State) : Result :=
  .next (s.takeRow p .cacheFrozen (State.checkKind .cacheControl (State.setMode true)))

def execCacheFlush (p : Port) (s : State) : Result :=
  .next (s.takeRow p .cacheFlush (State.checkKind .cacheControl State.cacheFlush))

/-! ## STORE_ATTACH, STORE_FORMAT, RESTART (R72, R73, R186) -/

/-- STORE_ATTACH reads the header again; its response comes when the read completes (R72). -/
def State.storeAttach (t : Taken) (s : State) : State :=
  match s.store.state with
  | .online => s.refuse t .wrongState
  | .formatting => s.refuse t .busy
  | .absent | .unformatted | .faulted => s.modStore fun x => { x with headerRead := some (.attach, s.now) }

def execStoreAttach (p : Port) (s : State) : Result := .next (s.takeKind p .storeAttach State.storeAttach)

/-- Work in progress that keeps a format from starting (R73, check 2). -/
def State.formatBusy (s : State) : Bool :=
  s.batch.state != .none || s.lift.session.isSome || s.lift.opening.isSome
    || (allSlots.any fun k => (s.slot k).intake.state.busy)
    || !s.resolver.lookups.isEmpty || s.resolver.refill.isSome || !s.resolver.charges.isEmpty || s.resolver.job.isSome

def State.storeFormat (t : Taken) (s : State) : State :=
  match s.store.state with
  | .absent | .faulted => s.refuse t .storeOffline
  | .formatting => s.refuse t .busy
  | .online | .unformatted => if s.formatBusy then s.refuse t .busy else (s.answer t .accepted []).startFormat

def execStoreFormat (p : Port) (s : State) : Result := .next (s.takeKind p .storeFormat State.storeFormat)

/-- RESTART receives no response: a reset begins within the event that takes it (R186). -/
def execRestart (p : Port) (s : State) : Result :=
  .next (s.takeKind p .restart fun _ s' => s'.takeReset .restart Clock.afterReset)

/-! ## Completion events (R64, R66, R68, R72) -/

/-- TRANSACTION_COMPLETE: the memory answers the transaction in flight (R64). -/
def State.transactionComplete (a : StoreAnswer) (s : State) : State :=
  match s.arbiter.inFlight with
  | some t => s.answerTransaction a t
  | none => s

def execTransactionComplete (a : StoreAnswer) (s : State) : Result := .next (s.transactionComplete a)

/-- TRANSACTION_TIMEOUT: 5 ms without a complete answer, of a transaction or of a direct header read (R64, R68, R72). -/
def State.transactionTimeout (fate : WriteFate) (s : State) : State :=
  match s.arbiter.inFlight, s.store.headerRead with
  | some t, _ => s.timeoutTransaction fate t
  | none, some (p, start) => (s.elapseTo (start + Config.storeMs)).headerOutcome p .absent none
  | none, none => s

def execTransactionTimeout (fate : WriteFate) (s : State) : Result := .next (s.transactionTimeout fate)

/-- HEADER_READ_COMPLETE: the memory answers the direct header read (R68, R72). -/
def State.headerReadComplete (a : StoreAnswer) (s : State) : State :=
  match s.store.headerRead with
  | some (p, _) => s.answerHeader a p
  | none => s

def execHeaderReadComplete (a : StoreAnswer) (s : State) : Result := .next (s.headerReadComplete a)

end Sys2Proof.Machine
end

