-- ==== Sys2Proof/Machine/CmdCrew.lean ====
section
/-! DEFINITION. The requests of the CREW port and the timers of custody and of the crew session (chapter 9). -/

namespace Sys2Proof.Machine

/-! ## CREW_OPEN, PRESENT (R139, R141) -/

/-- A crew session, an opening, or a visit in preparation stands in the way of an opening (R139, check 2). -/
def Lift.openBusy (x : Lift) : Bool := x.session.isSome || x.opening.isSome || x.visit.isSome

/-- The opening in progress is recorded and its lookup placed (R139). -/
def State.beginOpening (x : Opening) (s : State) : State :=
  (s.modLift fun l => { l with opening := some x }).placeLookup ⟨.crewOpen, x.card⟩

def State.crewOpen (t : Taken) (s : State) : State :=
  let n : CardNo := BitVec.ofNat 32 (u32At t.payload 2)
  match Fraction.ofCode (byteAt t.payload 6) with
  | none => s.refuse t .badField
  | some f =>
    if n = noCard then s.refuse t .badField
    else if s.lift.openBusy then s.refuse t .busy
    else if !s.admitsPreparation then s.refuse t .logFull
    else (s.answer t .accepted []).beginOpening ⟨u16At t.payload 0, n, f⟩

def execCrewOpen (p : Port) (s : State) : Result := .next (s.takeKind p .crewOpen State.crewOpen)

def State.present (t : Taken) (s : State) : State :=
  if s.lift.session.isSome then s.answer t .ok [] else s.refuse t .noSession

def execPresent (p : Port) (s : State) : Result := .next (s.takeKind p .present State.present)

/-! ## CUSTODY (R143) -/

/-- The checks of CUSTODY after the slot number, in order: the status of the first that fails (R143). -/
def State.custodyRefusal (s : State) (c : CrewSession) (k : Slot) : Option Status :=
  if (s.slot k).record.fraction ≠ c.fraction then some .wrongFraction
  else if (match s.lift.visit with | some v => v.lifted.contains k | none => false) then some .alreadyLifted
  else if (s.slot k).bars.service then some .serviceHold
  else if (s.slot k).bars.out then some .containerOut
  else if s.lift.custody.state ≠ .none then some .busy
  else if !s.admitsPreparation then some .logFull
  else none

/-- Custody is accepted: the record, WAITING, LIFT, and the grant at once where the intake is quiet (R143). -/
def State.acceptCustody (c : CrewSession) (k : Slot) (s : State) : State :=
  let s1 := s.modCustody fun _ => { slot := k, truck := c.truck, card := c.card }
  let s2 := (s1.enterCustody .waiting (some (s.now + 1000 * s.config.custodyWait))).setBar k .lift
  if (s2.slot k).intake.state.busy then s2 else s2.slotQuiet k

def State.custodyRequest (t : Taken) (s : State) : State :=
  match s.lift.session with
  | none => s.refuse t .noSession
  | some c =>
    match s.configuredSlot t with
    | none => s.refuse t .badField
    | some k =>
      match s.custodyRefusal c k with
      | some st => s.refuse t st
      | none => (s.answer t .accepted []).acceptCustody c k

def execCustody (p : Port) (s : State) : Result := .next (s.takeKind p .custody State.custodyRequest)

/-! ## CUSTODY_RELEASE (R149) -/

def State.custodyRelease (t : Taken) (s : State) : State :=
  let c := s.lift.custody
  if s.lift.session.isNone then s.refuse t .noSession
  else if c.orphaned ∨ t.slot ≠ some c.slot then s.refuse t .wrongState
  else match c.state with
    | .none | .closing => s.refuse t .wrongState
    | .waiting | .granted => (s.answer t .ok (u8 CustodyState.none.code)).endCustody c.slot (some .cancelled)
    | .raised => s.refuse t .containerOut
    | .returned => (s.answer t .ok (u8 CustodyState.closing.code)).releaseCustody c.slot

def execCustodyRelease (p : Port) (s : State) : Result := .next (s.takeKind p .custodyRelease State.custodyRelease)

/-! ## CREW_CLOSE (R151) -/

/-- The close pending mark is set and the link timer stopped (R141, R151). -/
def State.markClosePending (s : State) : State :=
  s.modLift fun x =>
    { x with session := x.session.map fun c => { c with closePending := true }, linkDeadline := none }

/-- The response of CREW_CLOSE: whether the visit is closed (R151). -/
def State.answerClose (t : Taken) (closed : Bool) (s : State) : State := s.answer t .ok (flag closed)

/-- CREW_CLOSE of an open session by the custody state (R151). -/
def State.closeCrew (t : Taken) (s : State) : State :=
  let c := s.lift.custody
  if c.orphaned then (s.answerClose t true).completeVisit
  else match c.state with
    | .none => (s.answerClose t true).completeVisit
    | .waiting | .granted => ((s.answerClose t true).endCustody c.slot (some .cancelled)).completeVisit
    | .raised => s.refuse t .containerOut
    | .returned => ((s.answerClose t false).markClosePending).releaseCustody c.slot
    | .closing => (s.answerClose t false).markClosePending

def State.crewClose (t : Taken) (s : State) : State :=
  match s.lift.session with
  | none => s.refuse t .noSession
  | some x => if x.closePending then s.refuse t .wrongState else s.closeCrew t

def execCrewClose (p : Port) (s : State) : Result := .next (s.takeKind p .crewClose State.crewClose)

/-! ## Timers (R145 to R147, R152) -/

/-- The custody timer runs in a state: its deadline. -/
def State.custodyTimer (s : State) (st : CustodyState) : Option Nat :=
  if s.lift.custody.state = st then s.lift.custody.deadline else none

/-- The custody timer has expired. -/
def State.stopCustodyTimer (d : Nat) (s : State) : State := (s.elapseTo d).modCustody fun c => { c with deadline := none }

/-- CUSTODY_WAIT_EXPIRY: the preemption request (R145). -/
def State.custodyWaitExpiry (s : State) : State :=
  match s.custodyTimer .waiting with
  | some d => (s.stopCustodyTimer d).preempt s.lift.custody.slot
  | none => s

def execCustodyWaitExpiry (s : State) : Result := .next s.custodyWaitExpiry

/-- RAISE_TIMEOUT: the lift has lapsed (R146). -/
def State.raiseTimeout (s : State) : State :=
  match s.custodyTimer .granted with
  | some d => (s.stopCustodyTimer d).endCustody s.lift.custody.slot (some .lapsed)
  | none => s

def execRaiseTimeout (s : State) : Result := .next s.raiseTimeout

/-- LIFT_OVERTIME: the alert and the overtime mark (R147). -/
def State.liftOvertime (s : State) : State :=
  match s.custodyTimer .raised with
  | some d =>
    let c := s.lift.custody
    ((s.stopCustodyTimer d).alert (.liftOvertime c.slot c.truck c.orphaned)).modCustody fun x => { x with overtime := true }
  | none => s

def execLiftOvertime (s : State) : Result := .next s.liftOvertime

/-- The visit is marked LINK_LOST (R152). -/
def State.markLinkLost (s : State) : State :=
  s.modLift fun x => { x with linkDeadline := none, visit := x.visit.map fun v => { v with linkLost := true } }

/-- The crew session goes NONE while its visit stays in preparation (R152). -/
def State.dropSession (s : State) : State := s.modLift fun x => { x with session := none }

/-- Link loss by the custody state (R152). -/
def State.loseLink (s : State) : State :=
  let c := s.lift.custody
  let s1 := s.markLinkLost
  if c.orphaned then s1.completeVisit
  else match c.state with
    | .none => s1.completeVisit
    | .waiting | .granted => (s1.endCustody c.slot none).completeVisit
    | .raised => (s1.modCustody fun x => { x with orphaned := true }).completeVisit
    | .returned => s1.dropSession.releaseCustody c.slot
    | .closing => s1.dropSession

/-- LINK_LOSS: the link timer expires (R141, R152). -/
def State.linkLoss (s : State) : State :=
  match s.lift.linkDeadline with
  | some d => (s.elapseTo d).loseLink
  | none => s

def execLinkLoss (s : State) : Result := .next s.linkLoss

end Sys2Proof.Machine
end

