-- ==== Sys2Proof/Machine/CmdService.lean ====
section
/-! DEFINITION. SERVICE_HOLD, SERVICE_RELEASE, OUTPUT_TEST and the end of an output test (R183, R184). -/

namespace Sys2Proof.Machine

/-- The response carries the slot's bar set as it then stands (R183). -/
def State.answerBars (t : Taken) (k : Slot) (s : State) : State := s.answer t .ok (encBars (s.slot k).bars)

def State.serviceHold (t : Taken) (s : State) : State :=
  match t.slot with
  | none => s.refuse t .badField
  | some k =>
    if !(s.slot k).configured then s.refuse t .wrongState
    else if s.custodyOn k ≠ .none then s.refuse t .wrongState
    else (s.setBar k .service).answerBars t k

def execServiceHold (p : Port) (s : State) : Result := .next (s.takeKind p .serviceHold State.serviceHold)

def State.serviceRelease (t : Taken) (s : State) : State :=
  match t.slot with
  | none => s.refuse t .badField
  | some k =>
    if !(s.slot k).configured then s.refuse t .wrongState
    else ((s.endTest k).changeBar k .service false).answerBars t k

def execServiceRelease (p : Port) (s : State) : Result := .next (s.takeKind p .serviceRelease State.serviceRelease)

/-! ## OUTPUT_TEST (R184) -/

/-- Checks 2 and 3 of OUTPUT_TEST (R184). -/
def State.testRefusal (s : State) (k : Slot) : Option Status :=
  if !(s.slot k).configured || !(s.slot k).bars.service then some .wrongState
  else if (s.slot k).intake.state.busy then some .busy
  else none

/-- The end of a release test of a duration of 1 to 30 s (R184). -/
def State.testEnd (t : Taken) (s : State) : Nat := s.now + 1000 * clamp 1 30 (byteAt t.payload 2)

/-- A release test runs on the slot (R184). -/
def State.setTest (k : Slot) (x : ReleaseTest) (d : Nat) (s : State) : State :=
  s.modSlot k fun u => { u with locks := { u.locks with test := some (x, d) } }

/-- The row DRUM_RELEASE, to which an unknown test kind belongs: it is refused BAD_FIELD (R184, log entry 9). -/
def State.testDrum (t : Taken) (s : State) : State :=
  match t.slot with
  | none => s.refuse t .badField
  | some k =>
    if byteAt t.payload 1 ≠ 0 then s.refuse t .badField
    else match s.testRefusal k with
      | some st => s.refuse t st
      | none =>
        if (s.slot k).locks.test.isSome then s.refuse t .busy
        else ((s.setDrumLock k true).setTest k .drum (s.testEnd t)).answer t .ok []

def execOutputTestDrumRelease (p : Port) (s : State) : Result :=
  .next (s.takeRow p .testDrum (State.checkKind .outputTest State.testDrum))

def State.testHatch (t : Taken) (s : State) : State :=
  match t.slot with
  | none => s.refuse t .badField
  | some k =>
    match s.testRefusal k with
    | some st => s.refuse t st
    | none =>
      if (s.slot k).locks.test.isSome then s.refuse t .busy
      else if !(s.slot k).accepted .platform then s.refuse t .wrongState
      else ((s.setHatch k true).setTest k .hatch (s.testEnd t)).answer t .ok []

def execOutputTestHatchRelease (p : Port) (s : State) : Result :=
  .next (s.takeRow p .testHatch (State.checkKind .outputTest State.testHatch))

def State.testTone (t : Taken) (s : State) : State :=
  match t.slot, TonePattern.ofCode (byteAt t.payload 2) with
  | some k, some pat =>
    match s.testRefusal k with
    | some st => s.refuse t st
    | none => (s.askTone k pat).answer t .ok []
  | _, _ => s.refuse t .badField

def execOutputTestTone (p : Port) (s : State) : Result :=
  .next (s.takeRow p .testTone (State.checkKind .outputTest State.testTone))

/-- OUTPUT_TEST_END: the test timer expires and the lock is engaged (R184). -/
def State.outputTestEnd (k : Slot) (s : State) : State :=
  match (s.slot k).locks.test with
  | some x => (s.elapseTo x.2).endTest k
  | none => s

def execOutputTestEnd (k : Slot) (s : State) : Result := .next (s.outputTestEnd k)

end Sys2Proof.Machine
end

