-- ==== Sys2Proof/Machine/CmdPorts.lean ====
section
/-! DEFINITION. The partner's side of a port: UNKNOWN_REQUEST, FRAME_WRITE, FRAME_READ (R177 to R179, R188). -/

namespace Sys2Proof.Machine

def execUnknownRequest (p : Port) (s : State) : Result := .next (s.takeUnknown p)

/-- A write has ended. Until the header read of start-up completes it is discarded without a flag (R178, R185). -/
def State.frameWrite (p : Port) (frame : List Byte) (s : State) : State :=
  let q := s.port p
  if s.run ≠ .running then s
  else if frame.length < 3 ∨ Config.requestRoom ≤ q.requests.length then s.setPort p { q with overrun := true }
  else s.setPort p { q with requests := q.requests ++ [frame] }

def execFrameWrite (p : Port) (frame : List Byte) (s : State) : Result := .next (s.frameWrite p frame)

/-- The bytes of a frame: length, kind, tag, for a response status, flags, payload (R188). -/
def OutFrame.bytes : OutFrame → List Byte
  | .response kind tag status overrun payload =>
    u8 (5 + payload.length) ++ [kind, tag] ++ u8 status ++ u8 (if overrun then 1 else 0) ++ payload
  | .notice code lost payload => u8 (4 + payload.length) ++ u8 code ++ u8 0 ++ u8 (if lost then 2 else 0) ++ payload

/-- A read of some bytes: the oldest waiting frame, which leaves when its last byte has been clocked out, or a length byte
of 0 while nothing waits (R177). -/
def PortState.clockOut (n : Nat) (q : PortState) : PortState :=
  match q.outbox with
  | [] => { q with clockedOut := ([0] : List Byte).take n }
  | f :: fs =>
    { q with clockedOut := f.bytes.take n, outbox := if f.bytes.length ≤ n then fs else f :: fs }

def State.frameRead (p : Port) (n : Nat) (s : State) : State :=
  if s.run = .off then s else s.setPort p ((s.port p).clockOut n)

def execFrameRead (p : Port) (n : Nat) (s : State) : Result := .next (s.frameRead p n)

end Sys2Proof.Machine
end

