-- ==== Sys2Proof/Machine/CmdPit.lean ====
section
/-! DEFINITION. The events of the pit lines and of the Ranging Unit (R20 to R22, R24, R29, R33, R36). -/

namespace Sys2Proof.Machine

/-- The raw level of an input changes, some ms later; without main supply only the pin changes (R20). -/
def State.rawChange (k : Slot) (l : Line) (level : Bool) (s : State) : State :=
  s.modSlot k fun u =>
    { u with
      lines :=
        if s.run = .off then u.lines.set { u.lines.get l with raw := level } l
        else u.lines.set ((u.lines.get l).rawChange level s.now (u.record.filterMs l)) l }

def execRawLevelChange (k : Slot) (l : Line) (level : Bool) (afterMs : Nat) (s : State) : Result :=
  .next ((s.elapse afterMs).rawChange k l level)

/-- The accepted level takes the new value (R20). -/
def State.acceptLevel (k : Slot) (l : Line) (s : State) : State :=
  s.modSlot k fun u => { u with lines := u.lines.set (u.lines.get l).accept l }

/-- FILTER_TIME_ELAPSED: a pending change has held for its filter time; the accepted edge is delivered (R20). -/
def State.filterElapsed (k : Slot) (l : Line) (s : State) : State :=
  match ((s.slot k).lines.get l).pending with
  | some x =>
    ((s.elapseTo (x.since + x.filterMs)).acceptLevel k l).deliverEdge k l (!((s.slot k).lines.get l).accepted)
  | none => s

def execFilterTimeElapsed (k : Slot) (l : Line) (s : State) : Result := .next (s.filterElapsed k l)

/-- DRUM_JAM: the jam timer of a turn expires (R24). -/
def State.drumJam (k : Slot) (s : State) : State :=
  match (s.slot k).track.jamDeadline with
  | some d =>
    let s1 := (s.elapseTo d).modTrack k fun x => { x with jamDeadline := none }
    (s1.setBar k .drum).alert (.drumJam k ((s.slot k).track.drum == .reachedOpen))
  | none => s

def execDrumJam (k : Slot) (s : State) : Result := .next (s.drumJam k)

/-- FLOOD_OFF: the flood clear hold ends (R29). -/
def State.floodOff (k : Slot) (s : State) : State :=
  match (s.slot k).track.floodHold with
  | some d =>
    let s1 := (s.elapseTo d).modTrack k fun x => { x with floodHold := none }
    let minutes := min ((s1.now - (s.slot k).track.floodSince) / 60000) 65535
    ((((s1.changeBar k .flood false).alert (.floodOff k minutes)).setDue k).requestRange k .periodic)
  | none => s

def execFloodOff (k : Slot) (s : State) : Result := .next (s.floodOff k)

/-- DUE_TIME_PASSED: a PERIODIC request unless FLOOD is set; the next due time (R33). -/
def State.dueTimePassed (k : Slot) (s : State) : State :=
  match (s.slot k).range.due with
  | some d =>
    let s1 := (s.elapseTo d).setDue k
    if (s.slot k).bars.flood then s1 else s1.requestRange k .periodic
  | none => s

def execDueTimePassed (k : Slot) (s : State) : Result := .next (s.dueTimePassed k)

/-- POST_SESSION_DELAY_END: a SESSION request (R33). -/
def State.delayEnd (k : Slot) (s : State) : State :=
  match (s.slot k).range.delay with
  | some d => ((s.elapseTo d).modRange k fun x => { x with delay := none }).requestRange k .session
  | none => s

def execPostSessionDelayEnd (k : Slot) (s : State) : Result := .next (s.delayEnd k)

/-! ## Pings (R36) -/

/-- The emission of the ping that comes next or is awaited (R36). -/
def Burst.emission (b : Burst) : Nat := b.start + Config.pingSpacingMs * b.pings.length

/-- PING_EMIT: ping 2 or 3 is emitted 60 or 120 ms after the start (R36). -/
def State.pingEmit (s : State) : State :=
  match s.ranging.burst with
  | some b =>
    if b.awaiting then s
    else (s.elapseTo b.emission).modRanging fun x => { x with burst := some { b with awaiting := true } }
  | none => s

def execPingEmit (s : State) : Result := .next s.pingEmit

/-- ECHO_EDGE: the first edge after blanking and within the window ends the ping of its slot (R36). -/
def State.echoEdge (k : Slot) (t : Nat) (s : State) : State :=
  match s.burstOn k with
  | some b =>
    if b.awaiting && decide (Config.echoMinUs ≤ t) && decide (t ≤ Config.echoMaxUs) then
      (s.elapseTo (b.emission + t / 1000)).endPing b (some t)
    else s
  | none => s

def execEchoEdge (k : Slot) (t : Nat) (s : State) : Result := .next (s.echoEdge k t)

/-- PING_TIMEOUT: a ping without an edge by 25 ms after emission is invalid (R36). -/
def State.pingTimeout (s : State) : State :=
  match s.ranging.burst with
  | some b => if b.awaiting then (s.elapseTo (b.emission + Config.pingWindowMs)).endPing b none else s
  | none => s

def execPingTimeout (s : State) : Result := .next s.pingTimeout

end Sys2Proof.Machine
end

