-- ==== Sys2Proof/Machine/CmdReader.lean ====
section
/-! DEFINITION. The events of the reader bus and the idle timers of the intakes (R96 to R99, R112). -/

namespace Sys2Proof.Machine

/-- READER_DUE: a LOST reader becomes due while the controller waits, and is given the turn (R96). -/
def State.readerDue (k : Slot) (s : State) : State :=
  match s.readerBus.bus, (s.slot k).reader.lastPoll with
  | .waiting, some t =>
    if (s.slot k).inRotation && (s.slot k).reader.lost then (s.elapseTo (t + Config.lostPollMs)).poll k else s
  | _, _ => s

def execReaderDue (k : Slot) (s : State) : Result := .next (s.readerDue k)

/-- READER_ANSWER: the poll ends with an answer, handled as R97 and R98 state; the pending SIGNAL follows (R96). -/
def State.readerAnswer (bs : List Byte) (s : State) : State :=
  match s.readerBus.bus with
  | .polling k _ =>
    (match readerFrameAt k bs with
      | some x => s.takeAnswer k x
      | none => s.unanswered k).afterPoll k
  | .waiting | .signalling _ _ => s

def execReaderAnswer (bs : List Byte) (s : State) : Result := .next (s.readerAnswer bs)

/-- POLL_TIMEOUT: 20 ms without an answer (R96, R97). -/
def State.pollTimeout (s : State) : State :=
  match s.readerBus.bus with
  | .polling k t => ((s.elapseTo (t + Config.pollMs)).unanswered k).afterPoll k
  | .waiting | .signalling _ _ => s

def execPollTimeout (s : State) : Result := .next s.pollTimeout

/-- SIGNAL_SENT: the SIGNAL frame has ended; the turn passes (R96, R99). -/
def State.signalSent (s : State) : State :=
  match s.readerBus.bus with
  | .signalling _ _ => s.passTurn
  | .waiting | .polling _ _ => s

def execSignalSent (s : State) : Result := .next s.signalSent

/-- IDLE_TIMEOUT: the idle timer of an open session expires (R112). -/
def State.idleTimeout (k : Slot) (s : State) : State :=
  match (s.slot k).intake.idleDeadline with
  | some d => ((s.elapseTo d).modIntake k fun i => { i with idleDeadline := none }).endSession k .idle
  | none => s

def execIdleTimeout (k : Slot) (s : State) : Result := .next (s.idleTimeout k)

end Sys2Proof.Machine
end

