-- ==== Sys2Proof/Machine/CmdReset.lean ====
section
/-! DEFINITION. POWER_ON, RESET_LINE, MAIN_SUPPLY_LOSS (R18, R118, R185). -/

namespace Sys2Proof.Machine

/-- POWER_ON: the main supply comes up, with the backup domain held or lost (R118, R185). -/
def execPowerOn (backupLost : Bool) (s : State) : Result := .next (s.takeReset .powerOn (Clock.afterPower backupLost))

/-- RESET_LINE: the RESET input is asserted and released; without main supply nothing happens (R185). -/
def execResetLine (s : State) : Result :=
  .next (if s.run = .off then s else s.takeReset .resetLine Clock.afterReset)

/-- MAIN_SUPPLY_LOSS: operation stops, the clock runs on from the backup input (R118). -/
def execMainSupplyLoss (s : State) : Result := .next (if s.run = .off then s else s.loseSupply)

end Sys2Proof.Machine
end

