-- ==== Sys2Proof/Machine/Dispatch.lean ====
section
/-! DEFINITION. The dispatch: one arm per row of spec/opcode_table.json. -/

namespace Sys2Proof.Machine

def exec (i : Instr) (s : State) : Host.Outcome State Fault Refusal :=
  match i with
  | .stationStatus p => Sys2Proof.Machine.execStationStatus p s
  | .slotQuery p => Sys2Proof.Machine.execSlotQuery p s
  | .stationConfig p => Sys2Proof.Machine.execStationConfig p s
  | .slotConfig p => Sys2Proof.Machine.execSlotConfig p s
  | .slotRemove p => Sys2Proof.Machine.execSlotRemove p s
  | .profileWrite p => Sys2Proof.Machine.execProfileWrite p s
  | .hoursWrite p => Sys2Proof.Machine.execHoursWrite p s
  | .toneWrite p => Sys2Proof.Machine.execToneWrite p s
  | .timeSet p => Sys2Proof.Machine.execTimeSet p s
  | .timeQuery p => Sys2Proof.Machine.execTimeQuery p s
  | .fillSet p => Sys2Proof.Machine.execFillSet p s
  | .rangeNow p => Sys2Proof.Machine.execRangeNow p s
  | .demandAdd p => Sys2Proof.Machine.execDemandAdd p s
  | .demandCancel p => Sys2Proof.Machine.execDemandCancel p s
  | .demandList p => Sys2Proof.Machine.execDemandList p s
  | .logFetch p => Sys2Proof.Machine.execLogFetch p s
  | .logRelease p => Sys2Proof.Machine.execLogRelease p s
  | .batchBegin p => Sys2Proof.Machine.execBatchBegin p s
  | .batchData p => Sys2Proof.Machine.execBatchData p s
  | .batchEnd p => Sys2Proof.Machine.execBatchEnd p s
  | .batchAbort p => Sys2Proof.Machine.execBatchAbort p s
  | .cardQuery p => Sys2Proof.Machine.execCardQuery p s
  | .cacheNormal p => Sys2Proof.Machine.execCacheNormal p s
  | .cacheFrozen p => Sys2Proof.Machine.execCacheFrozen p s
  | .cacheFlush p => Sys2Proof.Machine.execCacheFlush p s
  | .storeAttach p => Sys2Proof.Machine.execStoreAttach p s
  | .storeFormat p => Sys2Proof.Machine.execStoreFormat p s
  | .restart p => Sys2Proof.Machine.execRestart p s
  | .crewOpen p => Sys2Proof.Machine.execCrewOpen p s
  | .crewClose p => Sys2Proof.Machine.execCrewClose p s
  | .custody p => Sys2Proof.Machine.execCustody p s
  | .custodyRelease p => Sys2Proof.Machine.execCustodyRelease p s
  | .present p => Sys2Proof.Machine.execPresent p s
  | .serviceHold p => Sys2Proof.Machine.execServiceHold p s
  | .serviceRelease p => Sys2Proof.Machine.execServiceRelease p s
  | .outputTestDrumRelease p => Sys2Proof.Machine.execOutputTestDrumRelease p s
  | .outputTestHatchRelease p => Sys2Proof.Machine.execOutputTestHatchRelease p s
  | .outputTestTone p => Sys2Proof.Machine.execOutputTestTone p s
  | .unknownRequest p => Sys2Proof.Machine.execUnknownRequest p s
  | .frameWrite p frame => Sys2Proof.Machine.execFrameWrite p frame s
  | .frameRead p clocked => Sys2Proof.Machine.execFrameRead p clocked s
  | .rawLevelChange k l level afterMs => Sys2Proof.Machine.execRawLevelChange k l level afterMs s
  | .filterTimeElapsed k l => Sys2Proof.Machine.execFilterTimeElapsed k l s
  | .drumJam k => Sys2Proof.Machine.execDrumJam k s
  | .floodOff k => Sys2Proof.Machine.execFloodOff k s
  | .dueTimePassed k => Sys2Proof.Machine.execDueTimePassed k s
  | .postSessionDelayEnd k => Sys2Proof.Machine.execPostSessionDelayEnd k s
  | .pingEmit => Sys2Proof.Machine.execPingEmit s
  | .echoEdge k t => Sys2Proof.Machine.execEchoEdge k t s
  | .pingTimeout => Sys2Proof.Machine.execPingTimeout s
  | .readerDue k => Sys2Proof.Machine.execReaderDue k s
  | .readerAnswer frame => Sys2Proof.Machine.execReaderAnswer frame s
  | .pollTimeout => Sys2Proof.Machine.execPollTimeout s
  | .signalSent => Sys2Proof.Machine.execSignalSent s
  | .idleTimeout k => Sys2Proof.Machine.execIdleTimeout k s
  | .custodyWaitExpiry => Sys2Proof.Machine.execCustodyWaitExpiry s
  | .raiseTimeout => Sys2Proof.Machine.execRaiseTimeout s
  | .liftOvertime => Sys2Proof.Machine.execLiftOvertime s
  | .linkLoss => Sys2Proof.Machine.execLinkLoss s
  | .outputTestEnd k => Sys2Proof.Machine.execOutputTestEnd k s
  | .transactionComplete a => Sys2Proof.Machine.execTransactionComplete a s
  | .transactionTimeout fate => Sys2Proof.Machine.execTransactionTimeout fate s
  | .headerReadComplete a => Sys2Proof.Machine.execHeaderReadComplete a s
  | .hourEvent => Sys2Proof.Machine.execHourEvent s
  | .dayEvent => Sys2Proof.Machine.execDayEvent s
  | .clockWrap => Sys2Proof.Machine.execClockWrap s
  | .powerOn backupLost => Sys2Proof.Machine.execPowerOn backupLost s
  | .resetLine => Sys2Proof.Machine.execResetLine s
  | .mainSupplyLoss => Sys2Proof.Machine.execMainSupplyLoss s

end Sys2Proof.Machine
end

