-- ==== Sys2Proof/Machine/Tick.lean ====
section
/-! DEFINITION. What the block does by itself while no command waits (log entry 2): the event that is due next, or one
millisecond of elapsed time. -/

namespace Sys2Proof.Machine

/-- An event whose moment, if it has one, has come. -/
def dueAt (now : Nat) (deadline : Option Nat) (c : Instr) : Option Instr :=
  match deadline with
  | some d => if d ≤ now then some c else none
  | none => none

/-- The moment at which a pending change has held (R20). -/
def Filter.moment (f : Filter) : Option Nat := f.pending.map fun x => x.since + x.filterMs

/-- A LOST reader of the rotation, while the controller waits, is due at this moment (R96). -/
def State.readerMoment (s : State) (k : Slot) : Option Nat :=
  match s.readerBus.bus with
  | .waiting =>
    if (s.slot k).inRotation && (s.slot k).reader.lost then (s.slot k).reader.lastPoll.map (· + Config.lostPollMs) else none
  | .polling _ _ | .signalling _ _ => none

/-- The due event of one slot. -/
def State.slotEvent (s : State) (k : Slot) : Option Instr :=
  let u := s.slot k
  [dueAt s.now u.lines.drumHome.moment (.filterTimeElapsed k .drumHome),
   dueAt s.now u.lines.drumOpen.moment (.filterTimeElapsed k .drumOpen),
   dueAt s.now u.lines.platform.moment (.filterTimeElapsed k .platform),
   dueAt s.now u.lines.tilt.moment (.filterTimeElapsed k .tilt),
   dueAt s.now u.lines.water.moment (.filterTimeElapsed k .water),
   dueAt s.now u.track.jamDeadline (.drumJam k),
   dueAt s.now u.track.floodHold (.floodOff k),
   dueAt s.now u.range.due (.dueTimePassed k),
   dueAt s.now u.range.delay (.postSessionDelayEnd k),
   dueAt s.now u.intake.idleDeadline (.idleTimeout k),
   dueAt s.now (u.locks.test.map Prod.snd) (.outputTestEnd k),
   dueAt s.now (s.readerMoment k) (.readerDue k)].findSome? id

/-- The due event of the burst in flight (R36). -/
def State.burstEvent (s : State) : Option Instr :=
  match s.ranging.burst with
  | some b =>
    if b.awaiting then dueAt s.now (some (b.emission + Config.pingWindowMs)) .pingTimeout
    else dueAt s.now (some b.emission) .pingEmit
  | none => none

/-- The due event of the reader bus (R96). -/
def State.busEvent (s : State) : Option Instr :=
  match s.readerBus.bus with
  | .waiting => none
  | .polling _ t => dueAt s.now (some (t + Config.pollMs)) .pollTimeout
  | .signalling _ t => dueAt s.now (some (t + Config.signalMs)) .signalSent

/-- FREE VALUE. What became of a write that times out now (log entry 6). -/
def idleFate (i : Nat) : WriteFate :=
  match Config.timeoutFate i with
  | 0 => .unwritten
  | 1 => .written
  | 2 => .cutOff

/-- The due event of the store bus: a transaction or a header read 5 ms old (R64). -/
def State.storeEvent (s : State) : Option Instr :=
  match s.arbiter.inFlight, s.store.headerRead with
  | some t, _ => dueAt s.now (some (t.start + Config.storeMs)) (.transactionTimeout (idleFate s.freeIndex))
  | none, some (_, start) => dueAt s.now (some (start + Config.storeMs)) (.transactionTimeout .unwritten)
  | none, none => none

/-- The due event of custody and of the crew session (R141, R142). -/
def State.crewEvent (s : State) : Option Instr :=
  [dueAt s.now (s.custodyTimer .waiting) .custodyWaitExpiry,
   dueAt s.now (s.custodyTimer .granted) .raiseTimeout,
   dueAt s.now (s.custodyTimer .raised) .liftOvertime,
   dueAt s.now s.lift.linkDeadline .linkLoss].findSome? id

/-- An owed event of the running station time (R124). -/
def State.clockEvent (s : State) : Option Instr :=
  if s.clock.hoursOwed ≠ 0 then some .hourEvent else if s.clock.daysOwed ≠ 0 then some .dayEvent else none

/-- The command that the taking of a frame is. -/
def RequestRow.instr (p : Port) : RequestRow → Instr
  | .unknown => .unknownRequest p
  | .cacheNormal => .cacheNormal p
  | .cacheFrozen => .cacheFrozen p
  | .cacheFlush => .cacheFlush p
  | .testDrum => .outputTestDrumRelease p
  | .testHatch => .outputTestHatchRelease p
  | .testTone => .outputTestTone p
  | .kind k => match k with
    | .stationStatus => .stationStatus p
    | .slotQuery => .slotQuery p
    | .stationConfig => .stationConfig p
    | .slotConfig => .slotConfig p
    | .slotRemove => .slotRemove p
    | .profileWrite => .profileWrite p
    | .hoursWrite => .hoursWrite p
    | .toneWrite => .toneWrite p
    | .timeSet => .timeSet p
    | .timeQuery => .timeQuery p
    | .fillSet => .fillSet p
    | .rangeNow => .rangeNow p
    | .demandAdd => .demandAdd p
    | .demandCancel => .demandCancel p
    | .demandList => .demandList p
    | .logFetch => .logFetch p
    | .logRelease => .logRelease p
    | .batchBegin => .batchBegin p
    | .batchData => .batchData p
    | .batchEnd => .batchEnd p
    | .batchAbort => .batchAbort p
    | .cardQuery => .cardQuery p
    | .cacheControl => .cacheNormal p
    | .storeAttach => .storeAttach p
    | .storeFormat => .storeFormat p
    | .restart => .restart p
    | .crewOpen => .crewOpen p
    | .crewClose => .crewClose p
    | .custody => .custody p
    | .custodyRelease => .custodyRelease p
    | .present => .present p
    | .serviceHold => .serviceHold p
    | .serviceRelease => .serviceRelease p
    | .outputTest => .outputTestDrumRelease p

/-- A port that may take its oldest frame takes it (R179). -/
def State.portEvent (s : State) (p : Port) : Option Instr :=
  match (s.port p).requests with
  | [] => none
  | f :: _ => if s.mayTake p then some ((rowOf f).instr p) else none

/-- The event that is due next. Of several due at one moment the first in this order is taken (log entry 2). -/
def State.nextEvent (s : State) : Option Instr :=
  if s.run = .off then none
  else
    ([s.clockEvent, s.storeEvent, s.burstEvent, s.busEvent, s.crewEvent] ++ allSlots.map s.slotEvent
      ++ [Port.office, .crew, .service].map s.portEvent).findSome? id

/-- One idle step: the due event becomes the next command, or one millisecond passes. -/
def State.tick (s : State) : State :=
  match s.nextEvent with
  | some c => { s with pending := [c] }
  | none => (s.elapse 1).sampleProbe

end Sys2Proof.Machine
end

