-- ==== Sys2Proof/Safety.lean ====
section
/-! DEFINITION. The terms in which claims about the KS8 are stated: the ranges, capacities and orders that the manual says
always hold, and the shape of a request that a port takes and answers. -/

namespace Sys2Proof.Machine

/-! ## What the manual says always holds -/

/-- The memory is in its one canonical form. -/
abbrev State.memCanonical (s : State) : Prop := s.store.mem.wf = true

/-- The ranges of a slot record (R1). -/
abbrev SlotRecord.inRange (r : SlotRecord) : Prop :=
  r.cls ≤ 63 ∧ (500 ≤ r.vNom ∧ r.vNom ≤ 5000) ∧ (800 ≤ r.hS ∧ r.hS ≤ 3500) ∧ (300 ≤ r.hU ∧ r.hU ≤ r.hS - 150)
    ∧ (10 ≤ r.drumVolume ∧ r.drumVolume ≤ 120) ∧ (50 ≤ r.packing ∧ r.packing ≤ 1000) ∧ (4 ≤ r.weight ∧ r.weight ≤ 16)
    ∧ (500 ≤ r.tFull ∧ r.tFull ≤ 990) ∧ (300 ≤ r.tReopen ∧ r.tReopen ≤ r.tFull - 50) ∧ 300 ≤ r.tDem ∧ r.tDem ≤ r.tFull

/-- The ranges of the fill record of a slot with record r (R39). -/
abbrev FillRecord.inRange (r : SlotRecord) (x : FillRecord) : Prop :=
  x.e ≤ r.vCap ∧ x.f ≤ 1000 ∧ x.h ≤ r.vCap ∧ x.fr ≤ 65535 ∧ x.a ≤ 65535 ∧ x.hf ≤ 255 ∧ x.silent ≤ 3

/-- The ranges of one slot (R1, R39). -/
abbrev SlotUnit.inRange (u : SlotUnit) : Prop := u.record.inRange ∧ u.fill.inRange u.record

/-- Every slot is in range (R1, R39). -/
abbrev State.slotsInRange (s : State) : Prop := ∀ k, (s.slot k).inRange

/-- The capacities of one port (R177). A request in progress keeps room for its response (R179). -/
abbrev PortState.withinCapacity (q : PortState) : Prop :=
  q.requests.length ≤ Config.requestRoom ∧ q.notices.length ≤ Config.noticeRoom
    ∧ q.responses.length + (if q.inProgress.isSome then 1 else 0) ≤ Config.responseRoom

/-- The header read in flight, if it is one of STORE_ATTACH, answers the OFFICE request in progress (R72, R179). -/
abbrev State.attachPending (s : State) : Prop :=
  s.store.headerRead.map Prod.fst = some .attach → (s.port .office).inProgress.isSome = true

/-- Every port holds no more than its queues have room for (R177). -/
abbrev State.portsWithinCapacity (s : State) : Prop := (∀ p, (s.port p).withinCapacity) ∧ s.attachPending

/-- The demand queue holds at most one entry per slot, and its entries stand in urgency order (R128, R129). -/
abbrev State.demandOrdered (s : State) : Prop :=
  (s.demand.map DemandEntry.slot).Nodup ∧ s.demand.Pairwise fun x y => x.before y = true

/-- The ranging queue holds each slot at most once, and its entries stand in class order (R32). -/
abbrev State.rangingOrdered (s : State) : Prop :=
  (s.ranging.queue.map RangeEntry.slot).Nodup ∧ s.ranging.queue.Pairwise fun x y => x.cause.code ≤ y.cause.code

/-- No card appears twice among the waiting charges, and each count lies in its range (R89). -/
abbrev State.chargesDistinct (s : State) : Prop :=
  (s.resolver.charges.map Charge.card).Nodup ∧ ∀ c ∈ s.resolver.charges, 1 ≤ c.count ∧ c.count ≤ 65535

/-- The sequence numbers of the log are consecutive modulo 65536 and the counter follows the last (R171). -/
abbrev State.logNumbered (s : State) : Prop :=
  ∃ first, s.log.records.map LogRecord.seq = (List.range s.log.records.length).map (fun i => (first + i) % 65536)
    ∧ s.log.seq = (first + s.log.records.length) % 65536

/-- The starvation count stays within 0 to 4 (R75). -/
abbrev State.starvationInRange (s : State) : Prop := s.arbiter.starvation ≤ 4

/-- The log never needs more than its 256 places: the records held, those that charged sessions and the Lift Controller have
in preparation, and the visit that an opening in progress will add (R139, R171, R172). A custody record between two
commands has not yet made its lift record, and an opening stands beside no session and no visit (R139, R150). -/
abbrev State.logHasRoom (s : State) : Prop :=
  s.log.records.length + s.chargedSessions + s.inPreparation + (if s.lift.opening.isSome then 1 else 0) ≤ Config.logPlaces
    ∧ s.lift.custody.recorded = false
    ∧ (s.lift.opening.isSome = true → s.lift.session = none ∧ s.lift.visit = none)

/-! ## Locks (R19) -/

/-- An output test of a kind runs on the slot (R184). -/
def Locks.tests (x : Locks) (r : ReleaseTest) : Bool := x.test.map Prod.fst == some r

/-- The intake is in OPEN (R100). -/
def IntakeState.isOpen : IntakeState → Bool
  | .opened _ => true
  | .idle | .barred | .verifying _ | .closing _ _ => false

/-- The hatch may be free: custody on the slot is GRANTED or RAISED (R19, R144, R146). -/
def State.hatchFree (s : State) (k : Slot) : Bool := s.custodyOn k == .granted || s.custodyOn k == .raised

/-- When a lock of a slot may be released (R19): DRUM_LOCK while the intake is OPEN or a drum release test runs, HATCH_LOCK
while custody is GRANTED or RAISED or a hatch release test runs. -/
abbrev State.locksCommanded (s : State) (k : Slot) : Prop :=
  ((s.slot k).locks.drumReleased = true → (s.slot k).intake.state.isOpen = true ∨ (s.slot k).locks.tests .drum = true)
    ∧ ((s.slot k).locks.hatchReleased = true → s.hatchFree k = true ∨ (s.slot k).locks.tests .hatch = true)

/-- What keeps the two releases apart (R13, R143, R144, R183, R184): a test runs only under SERVICE with a quiet intake,
SERVICE stands only without custody, custody stands only under LIFT and is GRANTED or RAISED only with a quiet intake, and an
IDLE intake has no bar. -/
abbrev State.releasesApart (s : State) (k : Slot) : Prop :=
  ((s.slot k).locks.test.isSome = true → (s.slot k).bars.service = true ∧ (s.slot k).intake.state.busy = false)
    ∧ ((s.slot k).bars.service = true → s.custodyOn k = .none)
    ∧ (s.custodyOn k ≠ .none → (s.slot k).configured = true ∧ (s.slot k).bars.lift = true)
    ∧ (s.hatchFree k = true → (s.slot k).intake.state.busy = false)
    ∧ ((s.slot k).intake.state = .idle → (s.slot k).bars.isEmpty = true)

/-- The locks of every slot are released only where R19 says so. -/
abbrev State.locksSafe (s : State) : Prop := ∀ k, s.locksCommanded k ∧ s.releasesApart k

/-! ## Requests -/

/-- A well-formed request frame of a kind with a tag and a payload (R188). -/
def frameOf (kind : Nat) (tag : Byte) (payload : List Byte) : List Byte :=
  u8 (3 + payload.length) ++ [BitVec.ofNat 8 kind, tag] ++ payload

/-- The part runs, and the port may take the frame f, the oldest of its request queue (R179, R185). -/
abbrev State.offers (s : State) (p : Port) (f : List Byte) : Prop :=
  s.run = .running ∧ (s.port p).inProgress = none ∧ (s.port p).responses.length < Config.responseRoom
    ∧ (s.port p).requests.head? = some f

/-- The port has taken its oldest frame and answered it: the frame has left the request queue, the response stands at
the end of the placement order, and the overrun flag, which it carries, is clear (R178, R179). Nothing else changes. -/
def State.answered1 (s : State) (p : Port) (kind : Nat) (tag : Byte) (st : Status) (payload : List Byte) : State :=
  let q := s.port p
  s.setPort p
    { q with
      requests := q.requests.drop 1
      outbox := q.outbox ++ [.response (BitVec.ofNat 8 kind) tag st.code q.overrun payload]
      overrun := false
      inProgress := none }

/-- The commands that end in a reset or a loss of supply (R118, R185, R186). -/
def resets (i : Instr) : Prop := (∃ p, i = .restart p) ∨ (∃ b, i = .powerOn b) ∨ i = .resetLine ∨ i = .mainSupplyLoss

/-- A state as a reset leaves it: every field at its reset value but the memory, the clock, the raw levels of the inputs,
which each filter accepts, and what the model adds (R1, R3, R8 to R11, R21, R39, R177, R185). -/
def resetFrom (s : State) (kind : ResetKind) (c : Clock) : State :=
  { State.reset with
    resetKind := kind
    slots := s.slots.map fun u => { lines := u.lines.map fun f => { raw := f.raw, accepted := f.raw, pending := none } }
    store := { mem := s.store.mem, headerRead := some (.startUp, 0) }
    clock := c, probe := s.probe, freeIndex := s.freeIndex, pending := s.pending }

/-- The clock at the end of a reset that found the backup domain held: it runs on, and while it is valid the period is
recomputed under the kind MONTH; boundaries reached during the reset fire nothing (R118, R122, R124). -/
def clockKept (c : Clock) : Clock :=
  { c with period := if c.valid then periodOf .month c.time.toNat else c.period, hoursOwed := 0, daysOwed := 0 }

/-- A port has taken its oldest frame and answered it with a response that carried the overrun flag; it has placed `before`
ahead of the response and `after` behind it (R178, R179, R182). -/
abbrev State.answeredWith (s t : State) (p : Port) (kind : Nat) (tag : Byte) (st : Status) (payload : List Byte)
    (before after : List OutFrame) : Prop :=
  (t.port p).requests = (s.port p).requests.drop 1 ∧ (t.port p).inProgress = none ∧ (t.port p).overrun = false
    ∧ (t.port p).outbox
      = (s.port p).outbox ++ before ++ [.response (BitVec.ofNat 8 kind) tag st.code (s.port p).overrun payload] ++ after

/-- The response stands behind the notices of the request's effects. -/
abbrev State.answeredLast (s t : State) (p : Port) (kind : Nat) (tag : Byte) (st : Status) (payload : List Byte) : Prop :=
  ∃ before, (∀ f ∈ before, f.isNotice = true) ∧ s.answeredWith t p kind tag st payload before []

/-- The response stands ahead of the notices of the request's effects (R182). -/
abbrev State.answeredFirst (s t : State) (p : Port) (kind : Nat) (tag : Byte) (st : Status) (payload : List Byte) : Prop :=
  ∃ after, (∀ f ∈ after, f.isNotice = true) ∧ s.answeredWith t p kind tag st payload [] after

/-- The fields of a station configuration fit the bytes that carry them (R187). -/
abbrev StationConfig.fits (c : StationConfig) : Prop :=
  c.idleTimeout < 256 ∧ c.jamTime < 256 ∧ c.custodyWait < 256 ∧ c.raiseTimeout < 65536 ∧ c.linkTimeout < 65536
    ∧ c.rangingInterval < 256 ∧ c.offlineLimit < 256 ∧ (∀ n, c.periodKind = .days n → n < 256)

/-- Every numeric field of a station configuration brought into its range (R8). -/
def StationConfig.clamped (c : StationConfig) : StationConfig :=
  { idleTimeout := clamp 5 60 c.idleTimeout, jamTime := clamp 10 120 c.jamTime, custodyWait := clamp 5 120 c.custodyWait
    raiseTimeout := clamp 60 600 c.raiseTimeout, linkTimeout := clamp 30 300 c.linkTimeout
    rangingInterval := clamp 5 240 c.rangingInterval
    periodKind := match c.periodKind with | .month => .month | .days n => .days (clamp 7 92 n)
    policies := c.policies, offlineLimit := clamp 1 8 c.offlineLimit }

/-- The fields of a slot record fit the bytes that carry them (R187). -/
abbrev SlotRecord.fits (r : SlotRecord) : Prop :=
  r.cls < 256 ∧ r.vNom < 65536 ∧ r.hS < 65536 ∧ r.hU < 65536 ∧ r.drumVolume < 256 ∧ r.packing < 65536 ∧ r.weight < 256
    ∧ r.tFull < 65536 ∧ r.tReopen < 65536 ∧ r.tDem < 65536

/-- The limit of a range nearest to a number outside it, and the number itself inside (R2). -/
def nearest (lo hi n : Nat) : Nat := if n < lo then lo else if hi < n then hi else n

/-- The transaction kind, the bucket and the position that a STORE_FAULT alert names (R64, R66, R171); a header write names
bucket 0 and position 0 (log entry 25). -/
def StoreOp.named : StoreOp → TransKind × Nat × Nat
  | .headerWrite _ => (.dirWrite, 0, 0)
  | .dirRead b => (.dirRead, b.toNat, 0)
  | .dirWrite b _ => (.dirWrite, b.toNat, 0)
  | .recRead b p => (.recRead, b.toNat, p.val)
  | .recWrite b p _ => (.recWrite, b.toNat, p.val)

/-- An alert has been handed to the Station Log: appended where the reserve holds, and otherwise the log is incomplete
(R171, R172). -/
abbrev State.alerted (s t : State) (a : Alert) : Prop :=
  (s.reserveHolds = true → s.log.records ++ [⟨s.log.seq, .alert t.stamp a⟩] <+: t.log.records)
    ∧ (s.reserveHolds = false → t.log.incomplete = true)

/-- A ranging request of at least a class stands for slot k: queued, or chosen for the burst in flight (R32, R35). -/
abbrev State.rangingAsked (t : State) (k : Slot) (c : RangeCause) : Prop :=
  (∃ e ∈ t.ranging.queue, e.slot = k ∧ e.cause.code ≤ c.code)
    ∨ ∃ b, t.ranging.burst = some b ∧ b.slot = k ∧ b.cause.code ≤ c.code

/-- The ranges of a card record (R61). -/
abbrev CardRecord.inRange (r : CardRecord) : Prop :=
  r.card ≠ noCard ∧ r.usage < 65536 ∧ r.stamp < 65536 ∧ (∀ d, r.expiry = some d → d < 65536)
    ∧ ∀ q, r.override = some q → q < 65536

/-! ## What follows a command -/

/-- A notice has been posted at a port: it stands among the frames added there, unless the notice queue is full by now
(R180). -/
abbrev State.posted (s t : State) (p : Port) (code : Nat) (payload : List Byte) : Prop :=
  (s.port p).outbox <+: (t.port p).outbox
    ∧ ((t.port p).notices.length < Config.noticeRoom → ∃ f ∈ (t.port p).outbox.drop (s.port p).outbox.length,
        f = .notice code false payload ∨ f = .notice code true payload)

/-- The session of slot k has been closed with an end reason: BARRED or IDLE by the bar set, the post-session delay after a
deposit, and for a charged session its record (R115, R117). -/
abbrev State.sessionClosed (s t : State) (k : Slot) (c : Session) (r : EndReason) : Prop :=
  (t.slot k).intake.state = restState (t.slot k).bars
    ∧ (1 ≤ c.deposits → (t.slot k).range.delay = some (t.now + 10000))
    ∧ (c.charged = true → ∃ x ∈ t.log.records, x.body = .session k (s.slot k).record.fraction c t.stamp r)

/-- The end reason of the first drum home test that holds for a slot whose FULL bar is `full` (R111). -/
def SlotUnit.homeEnd (u : SlotUnit) (full : Bool) (c : Session) : Option EndReason :=
  if full = true then some .full
  else if u.bars.flood = true ∨ u.bars.service = true ∨ u.bars.out = true then some .barred
  else if c.withdrawal = true then some .cardWithdrawn
  else if c.limit ≤ c.deposits then some .limit
  else none

/-- Check 3 admits the card on slot k: the admission, and the record where one is known (R103, R104). -/
abbrev State.lookupAdmits (s : State) (k : Slot) (o : LookupOutcome) (a : Admission) (r : Option CardRecord) : Prop :=
  (∃ e b, o = .found e b ∧ a = .normal ∧ r = some e.record)
    ∨ (∃ e, o = .storeOffline (some e) ∧ s.config.policy (s.slot k).record.fraction ≠ .refuse ∧ a = .offlineCached
      ∧ r = some e.record)
    ∨ ((o = .damaged ∨ o = .storeOffline none) ∧ s.config.policy (s.slot k).record.fraction = .admitAny ∧ a = .offlineAny
      ∧ r = none)

/-- The expiry day of a record has passed, the clock being valid (R105). -/
abbrev State.pastExpiry (s : State) (r : CardRecord) : Prop :=
  s.clock.valid = true ∧ ∃ d ∈ r.expiry, d < s.clock.time.toNat / 86400

/-- The present moment is on a rest day of the slot's fraction or outside its window, the clock being valid (R10, R105). -/
abbrev State.outsideHours (s : State) (k : Slot) : Prop :=
  let h := s.hoursOf (s.slot k).record.fraction
  let m := s.clock.time.toNat % 86400 / 60
  s.clock.valid = true ∧ (h.restDays.getLsbD ((s.clock.time.toNat / 86400 + 5) % 7) = true
    ∨ (h.openMinute < h.closeMinute ∧ ¬ (h.openMinute ≤ m ∧ m < h.closeMinute))
    ∨ (h.closeMinute < h.openMinute ∧ h.closeMinute ≤ m ∧ m < h.openMinute))

/-- The remaining quota of a record in the current period (R106, R123). -/
def State.quotaLeft (s : State) (r : CardRecord) : Nat :=
  r.override.getD (s.profiles[r.profile]).quota - (if r.stamp = s.clock.period then r.usage else 0)

/-- The limit of a grant as the deposit bound and the allowance leave it (R50, R108). -/
def State.grantBound (s : State) (k : Slot) (a : Admission) (r : Option CardRecord) : Nat :=
  min (match a, r with | .normal, some x => (s.profiles[x.profile]).sessionLimit | _, _ => s.config.offlineLimit)
    (s.slot k).allowance

/-- FULL after an evaluation of the thresholds at a fill f (R51). -/
def SlotUnit.fullAt (u : SlotUnit) (f : Nat) : Bool :=
  decide (u.record.tFull ≤ f) || (u.bars.full && decide (u.record.tReopen ≤ f))

/-- CLOSING has ended, in a state s whose custody on slot k is the one that closes: the lift record, the visit's lifted list or
the completed visit, LIFT cleared, custody NONE, LIFT_DONE (R150, R154 to R156). -/
abbrev State.liftEnded (s t : State) (k : Slot) (post : Option Nat) : Prop :=
  (∃ r ∈ t.log.records, r.body = .lift k (s.slot k).record.fraction s.lift.custody post)
    ∧ t.lift.custody = {} ∧ (t.slot k).bars.lift = false
    ∧ (s.lift.custody.orphaned = true → t.lift.session = s.lift.session ∧ t.lift.visit = s.lift.visit)
    ∧ (∀ v ∈ s.lift.visit, s.lift.custody.orphaned = false →
        if s.lift.session.all CrewSession.closePending = true then
          t.lift.session = none ∧ t.lift.visit = none
            ∧ ∃ r ∈ t.log.records, r.body = .visit { v with lifted := v.lifted ++ [k] } t.stamp
        else t.lift.session = s.lift.session ∧ t.lift.visit = some { v with lifted := v.lifted ++ [k] })
    ∧ s.posted t .office 0xCA (encSlot k ++ flag s.lift.custody.qualifying ++ u8 s.lift.custody.tips
        ++ u16 s.lift.custody.preFill ++ optional u16 post ++ flag s.lift.custody.orphaned)
    ∧ (s.lift.custody.orphaned = false → s.lift.session.isSome = true →
        s.posted t .crew 0xCA (encSlot k ++ flag s.lift.custody.qualifying ++ u8 s.lift.custody.tips
          ++ u16 s.lift.custody.preFill ++ optional u16 post ++ flag false))

/-- Custody has been released from RETURNED (R149): CLOSING, and a LIFT-class request stands. -/
abbrev State.custodyCloses (s t : State) (k : Slot) : Prop :=
  t.lift.custody = { s.lift.custody with state := .closing, deadline := none } ∧ t.rangingAsked k .lift

/-- Custody that waited on slot k has been granted (R144, R156). -/
abbrev State.custodyGranted (s t : State) (k : Slot) : Prop :=
  (t.slot k).locks.hatchReleased = true
    ∧ t.lift.custody = { s.lift.custody with
        state := .granted, preFill := (s.slot k).fill.f, grantTime := t.stamp
        deadline := some (t.now + 1000 * s.config.raiseTimeout) }
    ∧ (s.run = .running → s.lift.session.isSome = true → s.posted t .crew 0xC9 (encSlot k ++ u8 2 ++ u8 0))

/-- Custody on slot k has ended with a reason of CUSTODY_STATE: LIFT cleared, the hatch closed (R144 to R146, R156). -/
abbrev State.custodyRefused (s t : State) (k : Slot) (reason : Nat) : Prop :=
  t.lift = { s.lift with custody := {} } ∧ (t.slot k).bars.lift = false ∧ (t.slot k).locks.hatchReleased = false
    ∧ (s.run = .running → s.lift.session.isSome = true → s.lift.custody.orphaned = false →
      s.posted t .crew 0xC9 (encSlot k ++ u8 0 ++ u8 reason))

/-- A quiet slot decides the custody that waits on it: refused CONTAINER_OUT under OUT, and granted otherwise (R144). -/
abbrev State.custodyDecided (s t : State) (k : Slot) : Prop :=
  ((s.slot k).bars.out = false → s.custodyGranted t k) ∧ ((s.slot k).bars.out = true → s.custodyRefused t k 3)

/-- The turn of the reader bus passes on from a state u: the next slot of the rotation whose reader is due is sent one POLL, or
the controller waits (R96, R190). -/
abbrev State.turnPassed (u t : State) : Prop :=
  match (turnOrder u.readerBus.lastTurn).find? u.takesTurn with
  | some j => t.readerBus = { bus := .polling j u.now, lastTurn := j, lastFrame := withCheck (encSlot j ++ [0x50]) }
      ∧ (t.slot j).reader.lastPoll = some u.now
  | none => t.readerBus = { u.readerBus with bus := .waiting }

/-- A demand entry has been announced with a DEMAND_RAISED notice of a kind (R134): the notice has been posted, and the
flag is set unless the notice queue is full by now. -/
abbrev State.demandAnnounced (s t : State) (payload : List Byte) (announced : Bool) : Prop :=
  s.run = .running → s.posted t .office 0xC6 payload
    ∧ ((t.port .office).notices.length < Config.noticeRoom → announced = true)

/-- What the demand queue is at slot k after an event that has changed its fill or its thresholds (R53, R55, R129, R130, R134).
Demand is evaluated ahead of the hours-to-full (R40, R46, R49, R57; for SLOT_CONFIG log entry 40): the notice carries the HF and
the place that stood before, and the entry then takes the new HF. Without an entry one of cause FULL or THRESHOLD is raised where F has
reached T_dem; an entry of cause THRESHOLD takes the cause FULL where FULL has just been set; any other keeps its cause. -/
abbrev State.demandFollows (s t : State) (k : Slot) : Prop :=
  let x := (s.slot k).fill
  let y := (t.slot k).fill
  let full := (t.slot k).bars.full
  let tDem := (t.slot k).record.tDem
  (∀ j, j ≠ k → t.demandOf j = s.demandOf j)
    ∧ (s.demandOf k = none → y.f < tDem → t.demandOf k = none)
    ∧ (∀ e : DemandEntry, s.demandOf k = none → tDem ≤ y.f →
      e = ⟨k, if full then .full else .threshold, t.stamp, x.hf, false⟩ →
      ∃ b, t.demandOf k = some { e with hf := y.hf, announced := b }
        ∧ (s.demandOrdered → s.demandAnnounced t (encSlot k ++ u8 0 ++ u8 (if full then 1 else 0) ++ encTime t.stamp
            ++ u8 x.hf ++ u16 y.f ++ u8 ((s.demand.filter fun d => d.before e).length + 1) ++ u8 (s.demand.length + 1)) b))
    ∧ ∀ (e : DemandEntry) (hf : Nat), s.demandOf k = some e → hf = (if y.hf = x.hf then e.hf else y.hf) →
      (e.cause = .threshold → (s.slot k).bars.full = false → full = true →
        ∃ b, t.demandOf k = some { e with cause := .full, hf := hf, announced := b }
          ∧ s.demandAnnounced t (encSlot k ++ u8 1 ++ u8 1 ++ encTime e.raised ++ u8 e.hf ++ u16 y.f
              ++ u8 (s.demand.findIdx (fun d => d.slot == k) + 1) ++ u8 s.demand.length) b)
      ∧ (e.cause ≠ .threshold ∨ (s.slot k).bars.full = true ∨ full = false → t.demandOf k = some { e with hf := hf })

/-- Where the waiting charges stand after one more deposit of a card, before a head is taken: the waiting entry of the card counts
one more, or a new entry of one deposit stands last (R89). -/
abbrev State.depositEntered (s : State) (n : CardNo) (after : List Charge) : Prop :=
  (∃ pre c post, s.resolver.charges = pre ++ c :: post ∧ c.card = n ∧ (∀ d ∈ pre, d.card ≠ n)
      ∧ after = pre ++ { c with count := min (c.count + 1) 65535 } :: post)
    ∨ ((∀ d ∈ s.resolver.charges, d.card ≠ n) ∧ after = s.resolver.charges ++ [⟨n, 1⟩])

/-- A requester begins a piece of work: its first request waits at the Arbiter, or has been granted (R75). -/
abbrev State.beginsWork (t : State) (r : Requester) (op : StoreOp) : Prop :=
  (t.arbiter.side r).waiting = some ⟨op, true⟩
    ∨ ∃ x ∈ t.arbiter.inFlight, x.requester = r ∧ x.op = op ∧ x.written = op.formed t.clock.period

/-- A requester goes on with its work: its next request waits at the Arbiter, or has been granted and writes what its rule
forms at the grant (R75, R91, R164). -/
abbrev State.asksFor (t : State) (r : Requester) (op : StoreOp) : Prop :=
  (t.arbiter.side r).waiting = some ⟨op, false⟩
    ∨ ∃ x ∈ t.arbiter.inFlight, x.requester = r ∧ x.op = op ∧ x.written = op.formed t.clock.period

/-- The charge in progress has ended and the next head is taken (R90, R92, R93). -/
abbrev State.nextChargeTaken (s t : State) : Prop :=
  match s.resolver.charges with
  | [] => t.resolver.job = none ∧ t.resolver.charges = []
  | c :: cs => t.resolver.job.map ChargeJob.charge = some c ∧ t.resolver.charges = cs

/-- A record with a count of deposits added in a period; the usage of another period counts as 0 (R83, R91, R123). -/
def CardRecord.plus (r : CardRecord) (period count : Nat) : CardRecord :=
  { r with usage := min ((if r.stamp = period then r.usage else 0) + count) 65535, stamp := period }

/-- What the charges on their way add to a card's usage, as a refill or a SET_USAGE finds them (R83, R95). -/
def State.withCharges (s : State) (r : CardRecord) : CardRecord :=
  let count := s.resolver.waitingCount r.card + s.resolver.progressCount r.card
  if count = 0 then r else r.plus s.clock.period count

/-- The commit work of the entry in the Commit slot goes on (R164 to R166). -/
abbrev State.commitAsks (s t : State) (c : Commit) (ph : CommitPhase) (op : StoreOp) : Prop :=
  t.batch = { s.batch with commit := some { c with phase := ph } } ∧ t.asksFor .batch op

/-- The payload of BATCH_REPORT with a length status and an abort reason (R168, R187). -/
def Batch.report (b : Batch) (lengthStatus abortReason : Nat) : List Byte :=
  u16 b.id ++ u16 b.declared ++ u16 b.closed ++ u16 b.applied ++ u16 b.rejected
    ++ (match b.first with | some x => u8 1 ++ u16 x.1 ++ u8 x.2.code | none => u8 0) ++ u8 lengthStatus ++ flag b.leading
    ++ u8 abortReason

/-- The Commit slot is empty with the batch record b and no closed entry waits: the batch stays OPEN, or it ends with
BATCH_REPORT where it was in ENDING (R167, R168). -/
abbrev State.batchGoesOn (s t : State) (b : Batch) : Prop :=
  (s.batch.state = .opened → t.batch = b)
    ∧ (s.batch.state = .ending → t.batch = { b with state := .none } ∧ s.posted t .office 0xCB (batchReportPayload b))

/-- The entry has left the Commit slot with the batch record b. Where no closed entry waits the batch goes on or ends. A closed
entry that waits moves in: its search begins, and the parser takes the bytes that were left; or it is MALFORMED and leaves at
once (R159, R161, R163, R167, R168). -/
abbrev State.commitEnds (s t : State) (b : Batch) : Prop :=
  (s.batch.assembler.isWaiting = false → s.batch.inbox = [] → s.batchGoesOn t b)
    ∧ ∀ bs o i, s.batch.assembler = .waiting bs o i →
      (∀ e, entryAt s.batch.packed o bs = some e →
        let b' := { b with
          assembler := .empty, commit := some { entry := e, index := i, phase := .searching { card := e.card } } }
        (s.batch.inbox = [] → t.batch = b' ∧ t.beginsWork .batch (.dirRead (bucketOf e.card)))
          ∧ (s.batch.packed = true → s.batch.closed ≠ s.batch.declared → s.batch.inbox ≠ [] → s.batch.inbox.length < 20 →
            t.batch = { b' with assembler := .building s.batch.inbox false, started := true, inbox := [] }
              ∧ t.beginsWork .batch (.dirRead (bucketOf e.card))))
      ∧ (entryAt s.batch.packed o bs = none → s.batch.inbox = [] → s.batchGoesOn t { b with
          assembler := .empty, rejected := b.rejected + 1, first := some (b.first.getD (i, .malformed)) })

/-- An applied SUSPEND or REVOKE of a card has reached the open sessions (R113, R167): one of the card ends by the drum home tests
where the drum is home, and is marked where it is away; the others go on. -/
abbrev State.cardWithdrawn (s t : State) (n : CardNo) : Prop :=
  ∀ (k : Slot) (c c' : Session), (s.slot k).intake.state = .opened c → c' = { c with withdrawal := true } →
    (c.card ≠ n → (t.slot k).intake = (s.slot k).intake)
    ∧ (c.card = n → (s.slot k).drumHome = false →
      (t.slot k).intake = { (s.slot k).intake with state := .opened c' })
    ∧ (∀ r, c.card = n → (s.slot k).drumHome = true → (s.slot k).homeEnd (s.slot k).bars.full c' = some r →
      s.sessionClosed t k c' r ∧ (t.slot k).intake.idleDeadline = none ∧ (t.slot k).locks.drumReleased = false)

/-- The entry has been rejected: counted, the first with its index and reason; the cache is as it was (R167). -/
abbrev State.entryRejected (s t : State) (c : Commit) (r : Rejection) : Prop :=
  s.commitEnds t { s.batch with
    rejected := s.batch.rejected + 1, first := some (s.batch.first.getD (c.index, r)), commit := none }

/-- The entry has been applied: counted (R167). -/
abbrev State.entryApplied (s t : State) : Prop :=
  s.commitEnds t { s.batch with applied := s.batch.applied + 1, commit := none }

/-- The payload of BATCH_REPORT for a batch that BATCH_ABORT has ended: length status ABORTED, reason REQUEST (R168, R187). -/
def abortReport (b : Batch) : List Byte := b.report 3 0

/-- The cache set with the age marks pointing at way w (R79). -/
def CacheSet.pointedAt (w : Fin 4) (x : CacheSet) : CacheSet :=
  { x with
    pairHigh := decide (2 ≤ w.val)
    lowOne := if w.val < 2 then decide (w.val = 1) else x.lowOne
    highThree := if w.val < 2 then x.highThree else decide (w.val = 3) }

/-- The way that the next fill of a set takes: the lowest invalid one, or with none the way that neither the pair mark nor the
other pair's inner mark points at (R79). -/
abbrev CacheSet.isVictim (x : CacheSet) (w : Fin 4) : Prop :=
  (x.ways[w] = none ∧ ∀ v < w, x.ways[v] ≠ none)
    ∨ ((∀ v : Fin 4, x.ways[v] ≠ none) ∧ (2 ≤ w.val ↔ x.pairHigh = false)
      ∧ (w.val < 2 → (w.val = 1 ↔ x.lowOne = false)) ∧ (2 ≤ w.val → (w.val = 3 ↔ x.highThree = false)))

/-- A bucket search runs over the items of the positions that it reads, with fuel (R67). -/
def searchRun (items : Position → Option CardRecord) : Nat → SearchStep → Option SearchEnd
  | _, .ended e => some e
  | 0, .read _ _ => none
  | n + 1, .read q p => searchRun items n (q.step (.record p (items p)))

end Sys2Proof.Machine
end

