-- ==== Sys2Proof/Certificates/Slice0/Obligations.lean ====
section
/-! DEFINITION. The statements about the KS8 that are to be proved. Each docstring names the rules it formalises; what rests
on a choice of the model names the log entry. -/

section

open Sys2Proof Sys2Proof.Machine

/-! ## Steps and whole-machine rules -/

/-- With a command at the front of its queue, a step is that command on the state with the queue's rest. -/
def Obligations.StepRunsTheFrontCommand : Prop :=
  ∀ (s : State) (c : Instr) (rest : List Instr), s.pending = c :: rest → step s = exec c { s with pending := rest }

/-- The model's choice (log entry 2): on an empty queue the event that is due next becomes the command, and where none is
due one millisecond passes for the timers and the clock and the probe takes a level of which nothing is known. -/
def Obligations.IdleStepTakesTheDueEventOrOneMillisecond : Prop :=
  ∀ s : State, s.pending = [] →
    (∀ c, s.nextEvent = some c → step s = .next { s with pending := [c] })
    ∧ (s.nextEvent = none → step s = .next { s with
        now := s.now + 1, clock := s.clock.advance 1
        probe := Config.probeLevel s.freeIndex, freeIndex := s.freeIndex + 1 })

/-- No command stops the KS8: it refuses what it cannot do with a stated reason (R179). The model's own rule: the meaning of a
command does not touch the commands that wait. -/
def Obligations.EveryCommandCompletesAndLeavesTheQueue : Prop :=
  ∀ (i : Instr) (s : State), ∃ t, exec i s = .next t ∧ t.pending = s.pending

/-- Apart from resets, the station configuration, the profiles, the hours, the tones, the slot records, the slot states and
the cache mode change only by the requests that carry them (R1, R3, R7 to R11, R69, R87). -/
def Obligations.OnlyTheirRequestsChangeTheTables : Prop :=
  ∀ (i : Instr) (s t : State), exec i s = .next t → ¬ resets i →
    ((∀ p, i ≠ .stationConfig p) → t.config = s.config)
    ∧ ((∀ p, i ≠ .profileWrite p) → t.profiles = s.profiles)
    ∧ ((∀ p, i ≠ .hoursWrite p) → t.hours = s.hours)
    ∧ ((∀ p, i ≠ .toneWrite p) → t.tones = s.tones)
    ∧ ((∀ p, i ≠ .slotConfig p) → (∀ p, i ≠ .slotRemove p) →
        ∀ k, (t.slot k).configured = (s.slot k).configured ∧ (t.slot k).record = (s.slot k).record)
    ∧ ((∀ p, i ≠ .cacheNormal p) → (∀ p, i ≠ .cacheFrozen p) → t.resolver.frozen = s.resolver.frozen)

/-- Apart from resets: the contents of the attached memory change only at the completion of a store transaction or of a
direct header read (R59, R64); only TIME_SET makes the clock valid (R118, R120); and but for LOG_RELEASE every record of the
log keeps its place and its number (R171, R175). -/
def Obligations.OnlyTheirCommandsChangeMemoryValidityAndRecords : Prop :=
  ∀ (i : Instr) (s t : State), exec i s = .next t →
    (¬ resets i → (∀ a, i ≠ .transactionComplete a) → (∀ w, i ≠ .transactionTimeout w) →
      (∀ a, i ≠ .headerReadComplete a) → t.store.mem = s.store.mem)
    ∧ ((∀ p, i ≠ .timeSet p) → t.clock.valid = true → s.clock.valid = true)
    ∧ (¬ resets i → (∀ p, i ≠ .logRelease p) → s.log.records <+: t.log.records)

/-! ## Invariants of every step -/

/-- The model's own form of the memory: rising addresses, no listed default byte (log entry 3). -/
def Obligations.StepsKeepTheMemoryCanonical : Prop :=
  ∀ s t : State, s.memCanonical → step s = .next t → t.memCanonical

/-- No port ever holds more than its queues have room for (R177 to R180). -/
def Obligations.StepsKeepThePortsWithinCapacity : Prop :=
  ∀ s t : State, s.portsWithinCapacity → step s = .next t → t.portsWithinCapacity

/-- Slot records and fill records stay within their ranges (R1, R2, R39). -/
def Obligations.StepsKeepTheSlotsInRange : Prop :=
  ∀ s t : State, s.slotsInRange → step s = .next t → t.slotsInRange

/-- The demand queue keeps one entry per slot, in urgency order (R128, R129), and the ranging queue one entry per slot, in
class order (R32). The sequence numbers of the log stay consecutive modulo 65536 (R171, R175); no card appears twice among
the waiting charges and each count stays within 1 to 65535 (R89); the starvation count stays within 0 to 4 (R75, R76). -/
def Obligations.StepsKeepTheQueuesInOrder : Prop :=
  ∀ s t : State, step s = .next t →
    (s.demandOrdered → t.demandOrdered) ∧ (s.rangingOrdered → t.rangingOrdered) ∧ (s.logNumbered → t.logNumbered)
      ∧ (s.chargesDistinct → t.chargesDistinct) ∧ (s.starvationInRange → t.starvationInRange)

/-- The log never needs more than its 256 places, so a record that is never discarded always finds one (R171, R172). -/
def Obligations.StepsKeepRoomInTheLog : Prop :=
  ∀ s t : State, s.logHasRoom → step s = .next t → t.logHasRoom

/-- DRUM_LOCK and HATCH_LOCK are released only where R19 says so, and never both on one slot. -/
def Obligations.NoSlotEverHasBothLocksReleased : Prop :=
  ∀ s t : State, s.locksSafe → step s = .next t →
    t.locksSafe ∧ ∀ k, ¬ ((t.slot k).locks.drumReleased = true ∧ (t.slot k).locks.hatchReleased = true)

/-- The machine right after reset meets every invariant above. -/
def Obligations.ResetMeetsEveryInvariant : Prop :=
  State.reset.memCanonical ∧ State.reset.portsWithinCapacity ∧ State.reset.slotsInRange ∧ State.reset.demandOrdered
    ∧ State.reset.rangingOrdered ∧ State.reset.logNumbered ∧ State.reset.chargesDistinct ∧ State.reset.starvationInRange
    ∧ State.reset.logHasRoom ∧ State.reset.locksSafe

/-! ## Supply and reset -/

/-- POWER_ON, RESET_LINE and RESTART put every register at its reset value, whatever the state; POWER_ON with the backup
feed lost also resets the clock; MAIN_SUPPLY_LOSS leaves only what the backup domain and the memory hold. The KS8 takes none
but POWER_ON without main supply (R118, R185, R186). A write in flight is the matter of the next statement; a read in flight
changes nothing here.
The model's own: the reset values that the manual does not state, log entry 3; the boundaries of the running time that a reset
leaves without their events, log entry 11; what the part does without supply, log entry 17. -/
def Obligations.ResetsReturnEveryRegister : Prop :=
  ∀ s : State, (∀ x ∈ s.arbiter.inFlight, x.op.isWrite = false) →
    exec (.powerOn true) s = .next (resetFrom s .powerOn {})
    ∧ exec (.powerOn false) s = .next (resetFrom s .powerOn (clockKept s.clock))
    ∧ (s.run ≠ .off → exec .resetLine s = .next (resetFrom s .resetLine (clockKept s.clock)))
    ∧ (∀ tag, s.offers .office (frameOf 0x1A tag []) →
        exec (.restart .office) s = .next (resetFrom s .restart (clockKept s.clock)))
    ∧ (s.run ≠ .off → exec .mainSupplyLoss s = .next { resetFrom s s.resetKind s.clock with
        run := .off, store := { mem := s.store.mem } })
    ∧ (s.run = .off → exec .resetLine s = .next s ∧ exec .mainSupplyLoss s = .next s)

/-- A reset or a loss of supply cuts off the write in flight: its item is left with a failed check, and every other byte of
the memory is as it was (R63, R64, R186).
The bytes left are free, log entry 6. -/
def Obligations.ResetsCutOffTheWriteInFlight : Prop :=
  ∀ (i : Instr) (s : State) (x : Transaction) (tag : Byte), s.arbiter.inFlight = some x → x.op.isWrite = true →
    s.memCanonical →
    i = .powerOn true ∨ i = .powerOn false ∨ (s.run ≠ .off ∧ (i = .resetLine ∨ i = .mainSupplyLoss))
      ∨ (s.offers .office (frameOf 0x1A tag []) ∧ i = .restart .office) →
    ∃ t, exec i s = .next t
      ∧ checkGood (t.store.mem.readBytes x.op.address x.op.size) = false
      ∧ (∀ a, a < x.op.address ∨ x.op.address + x.op.size ≤ a → t.store.mem.read a = s.store.mem.read a)
      ∧ t.arbiter.inFlight = none

/-! ## Message ports -/

/-- The checks of R179 that come before the owner's rule, in their order: a frame whose length byte lies outside 3 to 64 or
differs from the bytes written is answered BAD_LENGTH; another of a kind that no request has UNKNOWN_KIND; one at a port that
may not send it NOT_PERMITTED; one with a payload length that its kind does not take BAD_LENGTH. Nothing else happens, but
that a request taken at CREW restarts the link timer of its session (R141, R179).
The model's own: which row a frame is, log entries 1 and 9. -/
def Obligations.PortsRefuseWhatFailsTheChecks : Prop :=
  ∀ (s : State) (p : Port) (f : List Byte), s.offers p f →
    ((byteAt f 0 < 3 ∨ 64 < byteAt f 0 ∨ byteAt f 0 ≠ f.length) →
      exec (.unknownRequest p) s
        = .next ((s.restartLink p).answered1 p (byteAt f 1) (f.getD 2 0) .badLength []))
    ∧ (3 ≤ byteAt f 0 → byteAt f 0 ≤ 64 → byteAt f 0 = f.length →
      (RequestKind.ofCode (byteAt f 1) = none →
        exec (.unknownRequest p) s
          = .next ((s.restartLink p).answered1 p (byteAt f 1) (f.getD 2 0) .unknownKind []))
      ∧ ∀ k, RequestKind.ofCode (byteAt f 1) = some k →
        (k.permitted p = false → exec ((rowOf f).instr p) s
          = .next ((s.restartLink p).answered1 p (byteAt f 1) (f.getD 2 0) .notPermitted []))
        ∧ (k.permitted p = true → k.admits (f.length - 3) = false → exec ((rowOf f).instr p) s
          = .next ((s.restartLink p).answered1 p (byteAt f 1) (f.getD 2 0) .badLength [])))

/-- R178: a write of fewer than three bytes, or one that finds the request queue full, is discarded and sets the overrun
flag; any other is placed at the end of the queue, whatever it says. The next response carries the flag and clears it. R177:
a read clocks out the oldest frame that waits, which leaves only once its last byte is out, or a zero length byte while
nothing waits; READY follows. Neither touches anything but its port.
The model's own: the record of the bytes clocked out, log entry 27. -/
def Obligations.FramesAreWrittenAndRead : Prop :=
  ∀ (s : State) (p : Port),
    (∀ f : List Byte, s.run = .running →
      (f.length < 3 ∨ 4 ≤ (s.port p).requests.length →
        exec (.frameWrite p f) s = .next (s.setPort p { s.port p with overrun := true }))
      ∧ (3 ≤ f.length → (s.port p).requests.length < 4 →
        exec (.frameWrite p f) s = .next (s.setPort p { s.port p with requests := (s.port p).requests ++ [f] }))
      ∧ ∀ (t : Taken) (st : Status) (pl : List Byte), t.port = p →
        ((s.answer t st pl).port p).outbox
          = (s.port p).outbox ++ [.response t.kind t.tag st.code (s.port p).overrun pl]
        ∧ ((s.answer t st pl).port p).overrun = false)
    ∧ (∀ n : Nat, s.run ≠ .off →
      ((s.port p).outbox = [] →
        exec (.frameRead p n) s = .next (s.setPort p { s.port p with clockedOut := [0].take n }))
      ∧ (∀ f fs, (s.port p).outbox = f :: fs → exec (.frameRead p n) s = .next (s.setPort p { s.port p with
          clockedOut := f.bytes.take n, outbox := if f.bytes.length ≤ n then fs else f :: fs }))
      ∧ ((s.port p).ready = true ↔ (s.port p).outbox ≠ []))

/-- R180: a notice is placed at the end where its queue has room for it, with the notices-lost flag, which is then clear;
otherwise it is dropped and the flag is set. The poster is told which, and other ports are not touched. -/
def Obligations.NoticesArePlacedOrCounted : Prop :=
  ∀ (s : State) (p : Port) (code : Nat) (pl : List Byte), s.run = .running →
    ((s.port p).notices.length < 16 →
      s.notify p code pl = s.setPort p { s.port p with
        outbox := (s.port p).outbox ++ [.notice code (s.port p).noticesLost pl], noticesLost := false }
      ∧ s.noticePlaced p = true)
    ∧ (16 ≤ (s.port p).notices.length →
      s.notify p code pl = s.setPort p { s.port p with noticesLost := true } ∧ s.noticePlaced p = false)
    ∧ ∀ q, q ≠ p → (s.notify p code pl).port q = s.port q

/-! ## Queries and tables (chapter 1) -/

/-- The three queries change nothing but the port that asks and report the state: STATION_STATUS and SLOT_QUERY at every
port, TIME_QUERY at OFFICE and SERVICE; a slot number above 7 is refused BAD_FIELD (R17, R121).
The model's own: fields whose form spec/ does not spell out, log entry 19. -/
def Obligations.QueriesReportTheState : Prop :=
  ∀ (s : State) (p : Port) (tag : Byte),
    (s.offers p (frameOf 0x01 tag []) → exec (.stationStatus p) s = .next ((s.restartLink p).answered1 p 0x01 tag .ok
      (encConfig s.config ++ allSlots.flatMap (fun k => flag (s.slot k).configured ++ encBars (s.slot k).bars)
        ++ flag s.clock.valid ++ u8 s.store.state.code ++ flag s.resolver.frozen ++ u8 s.batch.state.code
        ++ flag s.lift.session.isSome)))
    ∧ (∀ k, s.offers p (frameOf 0x02 tag (encSlot k)) →
      exec (.slotQuery p) s = .next ((s.restartLink p).answered1 p 0x02 tag .ok
        (flag (s.slot k).configured ++ encSlotRecord (s.slot k).record ++ encBars (s.slot k).bars
          ++ u8 (s.slot k).intake.state.code ++ u8 (s.custodyOn k).code
          ++ flag (s.lift.custody.orphaned && s.custodyOn k != .none) ++ flag (s.slot k).reader.lost
          ++ u16 (s.slot k).fill.e ++ u16 (s.slot k).fill.f ++ u16 (s.slot k).fill.fr ++ u8 (s.slot k).fill.hf
          ++ flag (s.slot k).fill.measured ++ encCause ((s.demandOf k).map fun e => e.cause.code)
          ++ encCause ((s.rangeEntry k).map fun e => e.cause.code))))
    ∧ (∀ n, 8 ≤ n → n < 256 → s.offers p (frameOf 0x02 tag (u8 n)) →
      exec (.slotQuery p) s = .next ((s.restartLink p).answered1 p 0x02 tag .badField []))
    ∧ (p ≠ .crew → s.offers p (frameOf 0x0A tag []) → exec (.timeQuery p) s = .next (s.answered1 p 0x0A tag .ok
        (u32 s.clock.time.toNat ++ encCalendar (calendarOf s.clock.time.toNat) ++ u16 (s.clock.time.toNat / 86400)
          ++ u8 ((s.clock.time.toNat / 86400 + 5) % 7) ++ u16 (s.clock.time.toNat % 86400 / 60) ++ flag s.clock.valid
          ++ encPeriodKind s.config.periodKind ++ u16 s.clock.period)))

/-- STATION_CONFIG stores the fields brought into range and answers with them. Where the interval stays and the period stays
that is all; a new period number is stored while the clock is valid, with one PERIOD_CHANGE of cause CONFIG; under a new
interval the due time of each configured slot is its last burst plus the interval, or, where that has passed, the present
time plus it, with a PERIODIC request unless FLOOD is set. A structural error, in a code or in the length of the policy
list, is refused BAD_FIELD (R8, R33, R122).
The model's own: the structural errors of a policy list, log entry 13; when a due time is recomputed, log entry 22; the
response behind PERIOD_CHANGE and BAR_CHANGE, log entry 18. -/
def Obligations.StationConfigTakesEffect : Prop :=
  ∀ (s : State) (tag : Byte),
    (∀ pl : List Byte, 12 ≤ pl.length → pl.length ≤ 61 →
      (2 ≤ byteAt pl 8 ∨ byteAt pl 10 ≠ 6 ∨ pl.length ≠ 18 ∨ ∃ i < 6, 3 ≤ byteAt pl (11 + i)) →
      s.offers .office (frameOf 0x03 tag pl) →
      exec (.stationConfig .office) s = .next (s.answered1 .office 0x03 tag .badField []))
    ∧ ∀ c : StationConfig, c.fits → s.offers .office (frameOf 0x03 tag (encConfig c)) →
      (c.clamped.rangingInterval = s.config.rangingInterval →
        (s.clock.valid = true → periodOf c.clamped.periodKind s.clock.time.toNat = s.clock.period) →
        exec (.stationConfig .office) s
          = .next (({ s with config := c.clamped }).answered1 .office 0x03 tag .ok (encConfig c.clamped)))
      ∧ (∀ n p, n = periodOf c.clamped.periodKind s.clock.time.toNat → s.clock.valid = true → n ≠ s.clock.period →
        p = u16 s.clock.period ++ u16 n ++ encPeriodKind c.clamped.periodKind ++ u8 2 →
        (c.clamped.rangingInterval = s.config.rangingInterval → exec (.stationConfig .office) s
          = .next ((({ s with config := c.clamped, clock := { s.clock with period := n } }).notify .office 0xC3 p).answered1
            .office 0x03 tag .ok (encConfig c.clamped)))
        ∧ ∀ t, exec (.stationConfig .office) s = .next t → s.posted t .office 0xC3 p)
      ∧ ∃ t, exec (.stationConfig .office) s = .next t ∧ t.config = c.clamped
        ∧ s.answeredLast t .office 0x03 tag .ok (encConfig c.clamped)
        ∧ t.clock = { s.clock with
            period := if s.clock.valid then periodOf c.clamped.periodKind s.clock.time.toNat else s.clock.period }
        ∧ (∀ k, (s.slot k).configured = true → c.clamped.rangingInterval ≠ s.config.rangingInterval →
          (s.now < (s.slot k).range.lastBurst + 60000 * c.clamped.rangingInterval →
            (t.slot k).range.due = some ((s.slot k).range.lastBurst + 60000 * c.clamped.rangingInterval))
          ∧ ((s.slot k).range.lastBurst + 60000 * c.clamped.rangingInterval ≤ s.now →
            (t.slot k).range.due = some (s.now + 60000 * c.clamped.rangingInterval)
              ∧ ((s.slot k).bars.flood = false → t.rangingAsked k .periodic)))
        ∧ (∀ k, t.slot k = { s.slot k with
            range := { (s.slot k).range with due := (t.slot k).range.due }, bars := (t.slot k).bars,
            intake := (t.slot k).intake })
        ∧ t = { s with
            ports := t.ports, config := t.config, slots := t.slots, ranging := t.ranging, clock := t.clock, log := t.log,
            probe := t.probe, freeIndex := t.freeIndex }

/-- PROFILE_WRITE, HOURS_WRITE and TONE_WRITE store one entry, brought into range, and answer with it; a number or a code
that names none is refused BAD_FIELD, and a PROFILE_WRITE with fewer mark bytes than its map length needs BAD_LENGTH. A map
length above 64 is stored as 64. Nothing else changes (R9 to R11).
The model's own: the place of the profile's fields, and the mark bytes of the declared map length, log entry 14; BAD_FIELD
ahead of BAD_LENGTH where a PROFILE_WRITE has both faults, log entry 21; bit 7 of a rest-day set dropped, log entry 29. -/
def Obligations.TableWritesStoreTheirEntries : Prop :=
  ∀ (s : State) (tag : Byte),
    (∀ (n : Fin 16) (x : Profile), x.marks.length ≤ 64 → x.sessionLimit < 256 → x.quota < 65536 →
      s.offers .office (frameOf 0x06 tag (u8 n.val ++ encProfile x)) →
      exec (.profileWrite .office) s = .next
        (({ s with profiles := s.profiles.set n { x with sessionLimit := clamp 1 8 x.sessionLimit } }).answered1
          .office 0x06 tag .ok (encProfile { x with sessionLimit := clamp 1 8 x.sessionLimit })))
    ∧ (∀ (n : Fin 16) (kind : ProfileKind) (x : Profile) (pl : List Byte), byteAt pl 0 = n.val → byteAt pl 1 = kind.code →
      6 + (byteAt pl 2 + 7) / 8 ≤ pl.length → pl.length ≤ 61 →
      x = { kind := kind
            marks := (List.range (min (byteAt pl 2) 64)).map fun i => (pl.getD (6 + i / 8) 0).getLsbD (i % 8)
            sessionLimit := clamp 1 8 (byteAt pl 3), quota := byteAt pl 4 * 256 + byteAt pl 5 } →
      s.offers .office (frameOf 0x06 tag pl) → exec (.profileWrite .office) s
        = .next (({ s with profiles := s.profiles.set n x }).answered1 .office 0x06 tag .ok (encProfile x)))
    ∧ (∀ (f : Fraction) (o c : Nat) (d : Byte), o < 65536 → c < 65536 →
      s.offers .office (frameOf 0x07 tag (u8 f.code ++ u16 o ++ u16 c ++ [d])) →
      exec (.hoursWrite .office) s = .next
        (({ s with hours := s.hours.set f.index ⟨min o 1439, clamp 1 1440 c, d.setWidth 7⟩ }).answered1 .office 0x07 tag .ok
          (u16 (min o 1439) ++ u16 (clamp 1 1440 c) ++ u8 (d.toNat % 128))))
    ∧ (∀ (n : Nat) (x : TonePattern) (i d r : Nat), TonePattern.ofCode n = some x → i < 256 → d < 256 → r < 256 →
      s.offers .office (frameOf 0x08 tag (u8 n ++ u8 i ++ u8 d ++ u8 r)) →
      exec (.toneWrite .office) s = .next
        (({ s with tones := s.tones.set ⟨clamp 8 160 i, clamp 5 200 d, clamp 1 4 r⟩ x }).answered1 .office 0x08 tag .ok
          (u8 (clamp 8 160 i) ++ u8 (clamp 5 200 d) ++ u8 (clamp 1 4 r))))
    ∧ (∀ pl : List Byte, 6 ≤ pl.length → pl.length ≤ 61 → (16 ≤ byteAt pl 0 ∨ 2 ≤ byteAt pl 1) →
      s.offers .office (frameOf 0x06 tag pl) →
      exec (.profileWrite .office) s = .next (s.answered1 .office 0x06 tag .badField []))
    ∧ (∀ pl : List Byte, 6 ≤ pl.length → pl.length < 6 + (byteAt pl 2 + 7) / 8 → byteAt pl 0 < 16 → byteAt pl 1 < 2 →
      s.offers .office (frameOf 0x06 tag pl) →
      exec (.profileWrite .office) s = .next (s.answered1 .office 0x06 tag .badLength []))
    ∧ (∀ pl : List Byte, pl.length = 6 → 6 ≤ byteAt pl 0 → s.offers .office (frameOf 0x07 tag pl) →
      exec (.hoursWrite .office) s = .next (s.answered1 .office 0x07 tag .badField []))
    ∧ (∀ pl : List Byte, pl.length = 4 → 4 ≤ byteAt pl 0 → s.offers .office (frameOf 0x08 tag pl) →
      exec (.toneWrite .office) s = .next (s.answered1 .office 0x08 tag .badField []))

/-- SLOT_CONFIG of an UNCONFIGURED slot: CONFIGURED with the record brought into range, an empty fill record, UNMEASURED,
OUT and FLOOD by the accepted levels, the due time an interval away, an OFFICE ranging request unless FLOOD is set. A number
within its range is stored as it is and any other as the nearest limit, each limit taken from the fields ahead of it, and a
filter time as the nearest code, of two as near the longer (R2, R5).
The model's own: the headroom of the empty record, log entry 20; the response behind the notices, log entry 18. -/
def Obligations.SlotConfigTakesASlotIntoService : Prop :=
  (∀ r x : SlotRecord, x = r.clamped →
    (r.inRange → x = r)
    ∧ x = { r with
        cls := nearest 0 63 r.cls, vNom := nearest 500 5000 r.vNom, hS := nearest 800 3500 r.hS
        hU := nearest 300 (x.hS - 150) r.hU, drumVolume := nearest 10 120 r.drumVolume
        packing := nearest 50 1000 r.packing, weight := nearest 4 16 r.weight, tFull := nearest 500 990 r.tFull
        tReopen := nearest 300 (x.tFull - 50) r.tReopen, tDem := nearest 300 x.tFull r.tDem })
  ∧ (∀ (ms : Nat) (c : FilterCode), (ms - (FilterCode.ofMs ms).ms : Int).natAbs ≤ (ms - c.ms : Int).natAbs
    ∧ ((ms - (FilterCode.ofMs ms).ms : Int).natAbs = (ms - c.ms : Int).natAbs → c.ms ≤ (FilterCode.ofMs ms).ms))
  ∧ (∀ (r : SlotRecord) (a b c d : Nat), r.fits → a < 65536 → b < 65536 → c < 65536 → d < 65536 →
    slotRecordAt ((encSlotRecord r).take 20 ++ u16 a ++ u16 b ++ u16 c ++ u16 d) 0 = some { r with
      drumFilter := .ofMs a, platformFilter := .ofMs b, tiltFilter := .ofMs c, waterFilter := .ofMs d })
  ∧ ∀ (s : State) (k : Slot) (r : SlotRecord) (tag : Byte), r.fits →
    s.offers .office (frameOf 0x04 tag (encSlot k ++ encSlotRecord r)) → (s.slot k).configured = false →
    (s.slot k).intake.state.busy = false → s.custodyOn k = .none → (s.slot k).bars.flood = false →
    ∃ t, exec (.slotConfig .office) s = .next t ∧ s.answeredLast t .office 0x04 tag .ok (encSlotRecord r.clamped)
      ∧ (t.slot k).configured = true ∧ (t.slot k).record = r.clamped ∧ r.clamped.inRange
      ∧ (t.slot k).fill = { h := r.clamped.headroom 0 } ∧ (t.slot k).bars.unmeasured = true
      ∧ ((s.slot k).accepted .platform = false → (t.slot k).bars.out = true)
      ∧ (t.slot k).bars.flood = (s.slot k).accepted .water
      ∧ (t.slot k).drumHome = (s.slot k).accepted .drumHome
      ∧ (t.slot k).range.due = some (s.now + 60000 * s.config.rangingInterval)
      ∧ ((s.slot k).accepted .water = false → t.rangingAsked k .office)
      ∧ (t.slot k).lines = (s.slot k).lines ∧ (t.slot k).locks = (s.slot k).locks
      ∧ (∀ j, j ≠ k → t.slot j = { s.slot j with
          bars := (t.slot j).bars, intake := (t.slot j).intake, reader := (t.slot j).reader })
      ∧ t = { s with
          ports := t.ports, slots := t.slots, readerBus := t.readerBus, ranging := t.ranging, log := t.log,
          probe := t.probe, freeIndex := t.freeIndex }

/-- SLOT_CONFIG of a CONFIGURED slot stores the record brought into range. A change of geometry discards the estimate, sets
UNMEASURED, answers the waiters DISCARDED and asks for an OFFICE burst; without one the estimate and the measured flag stay,
and F and the headroom follow the new record; where the thresholds change too, FULL and demand follow them. It is refused
BUSY under a session or custody, and BAD_FIELD for a slot or fraction that there is not (R4, R6, R34, R51, R53).
The model's own: two-valued fields, log entry 12; the headroom after a change, log entry 20; the fields of RANGE_RESULT
without a reading, log entry 19; the response behind the notices, log entry 18; the thresholds evaluated only where they
change, log entry 22, and ahead of the hours-to-full, log entry 40. -/
def Obligations.SlotConfigOfAConfiguredSlot : Prop :=
  ∀ (s : State) (tag : Byte),
    (∀ (k : Slot) (r : SlotRecord), r.fits → s.offers .office (frameOf 0x04 tag (encSlot k ++ encSlotRecord r)) →
      ((s.slot k).intake.state.busy = true ∨ s.custodyOn k ≠ .none →
        exec (.slotConfig .office) s = .next (s.answered1 .office 0x04 tag .busy []))
      ∧ ((s.slot k).configured = true → (s.slot k).intake.state.busy = false → s.custodyOn k = .none →
        ∃ t, exec (.slotConfig .office) s = .next t ∧ s.answeredLast t .office 0x04 tag .ok (encSlotRecord r.clamped)
          ∧ (t.slot k).configured = true ∧ (t.slot k).record = r.clamped
          ∧ ((s.slot k).record.geometry = r.clamped.geometry →
            (t.slot k).fill.e = (s.slot k).fill.e ∧ (t.slot k).fill.measured = (s.slot k).fill.measured
              ∧ (t.slot k).fill.f = r.clamped.fillOf (s.slot k).fill.e
              ∧ (t.slot k).fill.h = r.clamped.headroom (s.slot k).fill.e
              ∧ (t.slot k).fill.hf = hoursToFull (r.clamped.headroom (s.slot k).fill.e) (s.slot k).fill.fr
              ∧ (t.slot k).bars.unmeasured = (s.slot k).bars.unmeasured
              ∧ ((s.slot k).record.thresholds ≠ r.clamped.thresholds → s.demandFollows t k
                ∧ (t.slot k).bars.full = { s.slot k with record := r.clamped }.fullAt (t.slot k).fill.f))
          ∧ ((s.slot k).record.geometry ≠ r.clamped.geometry →
            (t.slot k).fill.e = 0 ∧ (t.slot k).fill.measured = false ∧ (t.slot k).fill.silent = 0 ∧ (t.slot k).fill.f = 0
              ∧ (t.slot k).fill.h = r.clamped.headroom 0 ∧ (t.slot k).bars.unmeasured = true
              ∧ ((s.slot k).bars.flood = false → t.rangingAsked k .office)
              ∧ ((s.slot k).range.waitOffice = true → s.posted t .office 0xC4 (encSlot k ++ [2, 0, 0, 0, 0, 0, 0, 0])))
          ∧ (t.slot k).fill.fr = (s.slot k).fill.fr ∧ (t.slot k).fill.a = (s.slot k).fill.a
          ∧ (t.slot k).lines = (s.slot k).lines ∧ (t.slot k).locks = (s.slot k).locks
          ∧ (∀ j, j ≠ k → t.slot j = { s.slot j with
              bars := (t.slot j).bars, intake := (t.slot j).intake, reader := (t.slot j).reader })))
    ∧ (∀ pl : List Byte, pl.length = 29 → (8 ≤ byteAt pl 0 ∨ 6 ≤ byteAt pl 1) → s.offers .office (frameOf 0x04 tag pl) →
      exec (.slotConfig .office) s = .next (s.answered1 .office 0x04 tag .badField []))

/-- SLOT_REMOVE of a CONFIGURED slot leaves its record, its filters and its reader's status, and removes its demand, its
ranging request and its burst, with DEMAND_CLEARED REMOVED for the demand and RANGE_RESULT CANCELLED for each waiter; it is
refused as SLOT_CONFIG is, BAD_FIELD for a number above 7 and BUSY under a session or custody, and WRONG_STATE for an
UNCONFIGURED slot (R4, R7, R34, R135).
The model's own: the response behind DEMAND_CLEARED and the other notices, log entry 18; the fields of RANGE_RESULT without
a reading, log entry 19. -/
def Obligations.SlotRemoveTakesASlotOutOfService : Prop :=
  (∀ (s : State) (tag : Byte) (n : Nat), 8 ≤ n → n < 256 → s.offers .office (frameOf 0x05 tag (u8 n)) →
    exec (.slotRemove .office) s = .next (s.answered1 .office 0x05 tag .badField []))
  ∧ ∀ (s : State) (k : Slot) (tag : Byte), s.offers .office (frameOf 0x05 tag (encSlot k)) →
    ((s.slot k).intake.state.busy = true ∨ s.custodyOn k ≠ .none →
      exec (.slotRemove .office) s = .next (s.answered1 .office 0x05 tag .busy []))
    ∧ ((s.slot k).intake.state.busy = false → s.custodyOn k = .none → (s.slot k).configured = false →
      exec (.slotRemove .office) s = .next (s.answered1 .office 0x05 tag .wrongState []))
    ∧ ((s.slot k).intake.state.busy = false → s.custodyOn k = .none → (s.slot k).configured = true →
      ∃ t, exec (.slotRemove .office) s = .next t ∧ s.answeredLast t .office 0x05 tag .ok (encSlot k)
        ∧ t.slot k = { record := (s.slot k).record, lines := (s.slot k).lines
                       reader := { (s.slot k).reader with signal := none, unanswered := 0 } }
        ∧ t.demandOf k = none ∧ t.rangeEntry k = none ∧ t.burstOn k = none
        ∧ t.demand = s.demand.filter (fun x : DemandEntry => x.slot != k)
        ∧ (∀ e, s.demandOf k = some e → s.posted t .office 0xC7 (encSlot k ++ u8 2 ++ u8 e.cause.code ++ encTime e.raised
            ++ flag e.announced ++ u8 (s.demand.filter fun x : DemandEntry => x.slot != k).length))
        ∧ ((s.slot k).range.waitOffice = true → s.posted t .office 0xC4 (encSlot k ++ [3, 0, 0, 0, 0, 0, 0, 0]))
        ∧ t.port .service = (if (s.slot k).range.waitService then
            s.notify .service 0xC4 (encSlot k ++ [3, 0, 0, 0, 0, 0, 0, 0]) else s).port .service
        ∧ (∀ j, j ≠ k → t.slot j = { s.slot j with bars := (t.slot j).bars, intake := (t.slot j).intake })
        ∧ t = { s with
            ports := t.ports, slots := t.slots, ranging := t.ranging, demand := t.demand, log := t.log, probe := t.probe,
            freeIndex := t.freeIndex })

/-! ## Station time (chapter 7) -/

/-- TIME_SET with a moment that exists sets the time, the flag and the period, begins the second afresh and posts
PERIOD_CHANGE for a new period number ahead of its response; another moment is refused BAD_FIELD (R120, R122).
The model's own: the place of the notice ahead of the response, log entry 18, and the form of the payloads, log entry 19. -/
def Obligations.TimeSetSetsTheClock : Prop :=
  ∀ (s : State) (c : Calendar) (tag : Byte), c.year < 65536 → c.month < 256 → c.day < 256 → c.hour < 256 → c.minute < 256 →
    c.second < 256 → s.offers .office (frameOf 0x09 tag (encCalendar c)) →
    (c.wellFormed = true → exec (.timeSet .office) s = .next (
      (if periodOf s.config.periodKind c.time = s.clock.period then
        { s with clock := { s.clock with time := BitVec.ofNat 32 c.time, valid := true, phaseMs := 0 } }
      else
        ({ s with clock := { s.clock with
            time := BitVec.ofNat 32 c.time, valid := true, phaseMs := 0,
            period := periodOf s.config.periodKind c.time } }).notify .office 0xC3
          (u16 s.clock.period ++ u16 (periodOf s.config.periodKind c.time) ++ encPeriodKind s.config.periodKind ++ u8 1)
      ).answered1 .office 0x09 tag .ok
        (u32 c.time ++ flag true ++ encPeriodKind s.config.periodKind ++ u16 (periodOf s.config.periodKind c.time))))
    ∧ (c.wellFormed = false → exec (.timeSet .office) s = .next (s.answered1 .office 0x09 tag .badField []))

/-- The calendar of the years 2000 to 2135 and the seconds since 2000-01-01 00:00:00 name each other: the reading of a
moment's time is the moment, and every time before 2136 is the time of its reading, which exists (R118 to R121). -/
def Obligations.CalendarAndStationTimeAgree : Prop :=
  (∀ c : Calendar, c.wellFormed = true → c.time < 4294967296 ∧ calendarOf c.time = c)
    ∧ ∀ t, t < 4291747200 → (calendarOf t).wellFormed = true ∧ (calendarOf t).time = t

/-- HOUR_EVENT: at an owed event, every CONFIGURED slot's rate moves a quarter of the way to the deposits of the hour, the
accumulator is cleared and HF, the whole hours that the headroom lasts at that rate, follows and is handed to the slot's
demand entry; one DEMAND_RAISED REPEAT is posted for each entry that has not been announced, in queue order. UNCONFIGURED
slots and everything else stay. Where none is owed, the running time first reaches the next hour. Without main supply only
the clock moves (R54, R55, R124, R134). DAY_EVENT recomputes the period while the clock is valid, with PERIOD_CHANGE for a
new number; CLOCK_WRAP takes the running time to 0 and clears the valid flag (R118, R122).
The model's own: boundaries that are owed their events, log entry 11; the part without supply, log entry 17; the hand-over
of HF ahead of the REPEAT notices, log entry 33. -/
def Obligations.EventsOfTheRunningTime : Prop :=
  (∀ fr a : Nat, (nextRate fr a : Int) = fr + Int.tdiv ((a : Int) - fr) 4)
  ∧ (∀ h fr : Nat, hoursToFull h fr = if fr = 0 then 255 else min ⌊(h : ℚ) / fr⌋₊ 255)
  ∧ ∀ s : State,
    (s.run ≠ .off → s.clock.hoursOwed ≠ 0 → ∃ t, exec .hourEvent s = .next t
      ∧ (∀ k, t.slot k = if (s.slot k).configured = true then { s.slot k with
            fill := { (s.slot k).fill with
              fr := nextRate (s.slot k).fill.fr (s.slot k).fill.a, a := 0
              hf := hoursToFull (s.slot k).fill.h (nextRate (s.slot k).fill.fr (s.slot k).fill.a) } }
          else s.slot k)
      ∧ t.demand.map DemandEntry.slot ⊆ s.demand.map DemandEntry.slot
      ∧ (∀ k e, s.demandOf k = some e → ∃ b, t.demandOf k = some { e with
          hf := if (t.slot k).fill.hf = (s.slot k).fill.hf then e.hf else (t.slot k).fill.hf, announced := b }
        ∧ (e.announced = true → b = true)
        ∧ (s.run = .running → (t.port .office).notices.length < Config.noticeRoom → b = true))
      ∧ (s.demandOrdered → t.port .office
        = ((t.demand.filter fun e => (s.demandOf e.slot).any fun x => !x.announced).foldl (fun u e => u.notify .office 0xC6
            (encSlot e.slot ++ u8 2 ++ u8 e.cause.code ++ encTime e.raised ++ u8 e.hf ++ u16 (t.slot e.slot).fill.f
              ++ u8 (t.demand.findIdx (fun x => x.slot == e.slot) + 1) ++ u8 t.demand.length)) s).port .office)
      ∧ t.port .crew = s.port .crew ∧ t.port .service = s.port .service
      ∧ t = { s with
          clock := { s.clock with hoursOwed := s.clock.hoursOwed - 1 }, slots := t.slots, demand := t.demand
          ports := t.ports })
    ∧ (s.clock.hoursOwed = 0 → s.clock.phaseMs < 1000 → ∃ t, exec .hourEvent s = .next t
      ∧ t.clock.time.toNat % 3600 = 0 ∧ t.clock.phaseMs = 0 ∧ t.clock.hoursOwed = 0
      ∧ s.now < t.now ∧ t.now ≤ s.now + 3600000)
    ∧ (s.run = .off → s.clock.hoursOwed ≠ 0 →
      exec .hourEvent s = .next { s with clock := { s.clock with hoursOwed := s.clock.hoursOwed - 1 } })
    ∧ (s.run ≠ .off → s.clock.daysOwed ≠ 0 →
      (s.clock.valid = false ∨ periodOf s.config.periodKind s.clock.time.toNat = s.clock.period →
        exec .dayEvent s = .next { s with clock := { s.clock with daysOwed := s.clock.daysOwed - 1 } })
      ∧ (s.clock.valid = true → periodOf s.config.periodKind s.clock.time.toNat ≠ s.clock.period →
        exec .dayEvent s = .next (({ s with clock := { s.clock with
            daysOwed := s.clock.daysOwed - 1, period := periodOf s.config.periodKind s.clock.time.toNat } }).notify
          .office 0xC3 (u16 s.clock.period ++ u16 (periodOf s.config.periodKind s.clock.time.toNat)
            ++ encPeriodKind s.config.periodKind ++ u8 0))))
    ∧ (s.clock.daysOwed = 0 → s.clock.phaseMs < 1000 → ∃ t, exec .dayEvent s = .next t
      ∧ t.clock.time.toNat % 86400 = 0 ∧ t.clock.phaseMs = 0 ∧ t.clock.daysOwed = 0)
    ∧ (s.clock.phaseMs < 1000 → ∃ t, exec .clockWrap s = .next t
      ∧ t.clock.time = 0 ∧ t.clock.valid = false ∧ t.clock.phaseMs = 0 ∧ t.clock.period = s.clock.period
      ∧ t = { s with now := t.now, clock := t.clock })

/-! ## Fill and ranging (chapters 2 and 3) -/

/-- FILL_SET at a CONFIGURED slot: E is the value, at most V_cap, F, the headroom and HF follow, UNMEASURED is cleared, the
measured flag stays, FULL and demand follow the thresholds; other slots' fill records stay. An UNCONFIGURED slot or a number
above 7 is refused BAD_FIELD. F is E in per mille of V_cap, and the headroom what E leaves of V_full, each rounded down
(R40, R51, R53, R55, R57, R130, R134).
The model's own: the response behind the notices, log entry 18; the HF and the place that a DEMAND_RAISED carries
are those held before the request, log entry 22. -/
def Obligations.FillSetSetsTheEstimate : Prop :=
  (∀ (r : SlotRecord) (e : Nat), r.vCap = 10 * r.vNom ∧ r.fillOf e = ⌊(1000 * e : ℚ) / (10 * r.vNom)⌋₊
    ∧ (∀ full : Nat, full = ⌊(10 * r.vNom * r.tFull : ℚ) / 1000⌋₊ →
      (full ≤ e → r.headroom e = 0) ∧ (e < full → r.headroom e + e = full)))
  ∧ ∀ (s : State) (tag : Byte),
    (∀ (k : Slot) (v : Nat), v < 4294967296 → s.offers .office (frameOf 0x0B tag (encSlot k ++ u32 v)) →
      (s.slot k).configured = true →
      ∃ t, exec (.fillSet .office) s = .next t
        ∧ s.answeredLast t .office 0x0B tag .ok (encSlot k ++ u16 (t.slot k).fill.e ++ u16 (t.slot k).fill.f)
        ∧ (t.slot k).fill = { (s.slot k).fill with
            e := min v (s.slot k).record.vCap
            f := (s.slot k).record.fillOf (min v (s.slot k).record.vCap)
            h := (s.slot k).record.headroom (min v (s.slot k).record.vCap)
            hf := hoursToFull ((s.slot k).record.headroom (min v (s.slot k).record.vCap)) (s.slot k).fill.fr }
        ∧ (t.slot k).bars.unmeasured = false
        ∧ ((s.slot k).record.tFull ≤ (t.slot k).fill.f → (t.slot k).bars.full = true)
        ∧ ((t.slot k).fill.f < (s.slot k).record.tReopen → (t.slot k).fill.f < (s.slot k).record.tFull →
          (t.slot k).bars.full = false)
        ∧ (t.slot k).bars.full = (s.slot k).fullAt (t.slot k).fill.f ∧ s.demandFollows t k
        ∧ (t.slot k).record = (s.slot k).record ∧ (t.slot k).lines = (s.slot k).lines
        ∧ (∀ j, j ≠ k → (t.slot j).fill = (s.slot j).fill ∧ (t.slot j).record = (s.slot j).record
            ∧ (t.slot j).lines = (s.slot j).lines ∧ (t.slot j).locks = (s.slot j).locks))
    ∧ (∀ pl : List Byte, pl.length = 5 → (∀ k, slotAt pl 0 = some k → (s.slot k).configured = false) →
      s.offers .office (frameOf 0x0B tag pl) →
      exec (.fillSet .office) s = .next (s.answered1 .office 0x0B tag .badField []))

/-- RANGE_NOW at OFFICE or SERVICE: ACCEPTED, the port waits on the slot, and a request of class OFFICE or higher stands for
it; under FLOOD it is refused WRONG_STATE, for an UNCONFIGURED slot or a number above 7 BAD_FIELD (R32, R34).
The model's own: the response stands ahead of what the request causes, log entry 18. -/
def Obligations.RangeNowAsksForABurst : Prop :=
  ∀ (s : State) (p : Port) (tag : Byte), p ≠ .crew →
    (∀ k, s.offers p (frameOf 0x0C tag (encSlot k)) → (s.slot k).configured = true →
      ((s.slot k).bars.flood = true → exec (.rangeNow p) s = .next (s.answered1 p 0x0C tag .wrongState []))
      ∧ ((s.slot k).bars.flood = false → ∃ t, exec (.rangeNow p) s = .next t ∧ s.answeredFirst t p 0x0C tag .accepted []
        ∧ t.rangingAsked k .office
        ∧ (t.slot k).range = (s.slot k).range.addWaiter p
        ∧ (∀ j, t.slot j = { s.slot j with
            bars := (t.slot j).bars, intake := (t.slot j).intake, range := (t.slot j).range })
        ∧ t = { s with
            ports := t.ports, slots := t.slots, ranging := t.ranging, log := t.log, probe := t.probe
            freeIndex := t.freeIndex }))
    ∧ (∀ pl : List Byte, pl.length = 1 → (∀ k, slotAt pl 0 = some k → (s.slot k).configured = false) →
      s.offers p (frameOf 0x0C tag pl) → exec (.rangeNow p) s = .next (s.answered1 p 0x0C tag .badField []))

/-- The speed of sound and the distance of a valid ping; one speed serves all pings of a burst, and an invalid one yields no
distance (R41, R42). -/
def Obligations.EchoTimesBecomeDistances : Prop :=
  (∀ temp : Int, -30 ≤ temp → temp ≤ 60 →
    (speedOfSound temp : Int) = 331 + ⌊(3 * temp : ℚ) / 5⌋ ∧ 313 ≤ speedOfSound temp ∧ speedOfSound temp ≤ 367)
    ∧ (speedOfSound (-30) = 313 ∧ speedOfSound (-7) = 326 ∧ speedOfSound (-1) = 330 ∧ speedOfSound 0 = 331
      ∧ speedOfSound 7 = 335 ∧ speedOfSound 25 = 346 ∧ speedOfSound 60 = 367)
    ∧ (∀ c t : Nat, echoDistance c t = ⌊(t * c : ℚ) / 2000⌋₊)
    ∧ (∀ c t : Nat, 900 ≤ t → t ≤ 25000 → 313 ≤ c → c ≤ 367 → 140 ≤ echoDistance c t ∧ echoDistance c t ≤ 4587)
    ∧ ∀ b : Burst, b.reading = readingOf ((b.pings.filterMap id).map (echoDistance (speedOfSound b.temp)))

/-- The reading does not depend on the order of the distances: of three it is the middle one, marked SPREAD where the largest
exceeds the smallest by more than 50 mm; of two it is the floor of the mean; of fewer there is none (R43). The measured volume
never exceeds V_cap and falls as the distance grows (R44). A blend with a weight of at most 16 never passes the measured
volume, reaches it with the weight 16, and moves by the truncated share (R45). -/
def Obligations.ReadingsAreMiddlesAndBlendsStayBetween : Prop :=
  (∀ l m : List Nat, l.Perm m → readingOf l = readingOf m)
    ∧ (∀ a b c, a ≤ b → b ≤ c → readingOf [a, b, c] = some ⟨b, decide (50 < c - a)⟩)
    ∧ (∀ a b, readingOf [a, b] = some ⟨(a + b) / 2, false⟩) ∧ (∀ a, readingOf [a] = none) ∧ readingOf [] = none
    ∧ (∀ (r : SlotRecord) (d d' : Nat), r.inRange → r.measuredVolume d ≤ r.vCap
      ∧ (d ≤ d' → r.measuredVolume d' ≤ r.measuredVolume d)
      ∧ (r.hS ≤ d → r.measuredVolume d = 0) ∧ (d + r.hU ≤ r.hS → r.measuredVolume d = r.vCap))
    ∧ ∀ vCap e m w : Nat, e ≤ vCap → m ≤ vCap → w ≤ 16 →
      min e m ≤ blendEstimate vCap e m w ∧ blendEstimate vCap e m w ≤ max e m
      ∧ blendEstimate vCap e m 16 = m
      ∧ (blendEstimate vCap e m w : Int) = e + Int.tdiv (((m : Int) - e) * w) 16

/-! ## Pit lines (chapter 2) -/

/-- A raw input that leaves the accepted level begins a pending change under the filter time now in force; one that returns
discards it. A change that has held becomes the accepted level, on an UNCONFIGURED slot with no other effect. Without main
supply only the level at the pin moves (R18, R20, R21).
The model's own: the ms that pass before a command, log entry 10; a command without its event, log entry 8; the level at the
pin without main supply, log entry 17. -/
def Obligations.RawLevelsPendUntilTheyHaveHeld : Prop :=
  ∀ (s : State) (k : Slot) (l : Line) (level : Bool) (ms : Nat),
    (s.run ≠ .off → exec (.rawLevelChange k l level ms) s = .next ((s.elapse ms).modSlot k fun u => { u with
      lines := u.lines.set { u.lines.get l with
        raw := level
        pending := if level = (u.lines.get l).raw then (u.lines.get l).pending
          else if level = (u.lines.get l).accepted then none else some ⟨s.now + ms, u.record.filterMs l⟩ } l }))
    ∧ (s.run = .off → exec (.rawLevelChange k l level ms) s = .next ((s.elapse ms).modSlot k fun u => { u with
      lines := u.lines.set { u.lines.get l with raw := level } l }))
    ∧ (((s.slot k).lines.get l).pending = none → exec (.filterTimeElapsed k l) s = .next s)
    ∧ (∀ x, ((s.slot k).lines.get l).pending = some x →
      ((s.slot k).configured = false → exec (.filterTimeElapsed k l) s
        = .next ((s.elapse (x.since + x.filterMs - s.now)).modSlot k fun u => { u with
          lines := u.lines.set { u.lines.get l with accepted := !(u.lines.get l).accepted, pending := none } l }))
      ∧ ∃ t, exec (.filterTimeElapsed k l) s = .next t ∧ t.now = max s.now (x.since + x.filterMs)
        ∧ (t.slot k).lines = (s.slot k).lines.set { (s.slot k).lines.get l with
            accepted := !((s.slot k).lines.get l).accepted, pending := none } l
        ∧ ∀ j, j ≠ k → (t.slot j).lines = (s.slot j).lines)

/-- A turn begins as the drum leaves home, with its jam timer, and belongs to an open session, whose idle timer stops; it
reaches open; one that comes home without having been open is aborted and counted as such. The jam timer bars the slot DRUM,
with its alert, and ends an open session into CLOSING (R16, R22 to R24, R110 to R112, R115).
The model's own: the moment at which an expiry is taken, log entry 10. -/
def Obligations.DrumTurnsAreTracked : Prop :=
  ∀ (s : State) (k : Slot) (n : Nat), (s.slot k).configured = true →
    (∀ x, ((s.slot k).lines.get .drumHome).pending = some x → n = max s.now (x.since + x.filterMs) →
      (((s.slot k).lines.get .drumHome).accepted = true → (s.slot k).track.drum = .atHome →
        ∃ t, exec (.filterTimeElapsed k .drumHome) s = .next t
          ∧ (t.slot k).track = { (s.slot k).track with
              drum := .turning, turnStart := n, jamDeadline := some (n + 1000 * s.config.jamTime) }
          ∧ (∀ c, (s.slot k).intake.state = .opened c →
              (t.slot k).intake = { state := .opened { c with turnBelongs := true }, idleDeadline := none })
          ∧ ((s.slot k).intake.state.isOpen = false → (t.slot k).intake = (s.slot k).intake)
          ∧ (t.slot k).fill = (s.slot k).fill ∧ (t.slot k).bars = (s.slot k).bars ∧ (t.slot k).locks = (s.slot k).locks
          ∧ (∀ j, j ≠ k → t.slot j = s.slot j) ∧ t = { s with now := n, clock := t.clock, slots := t.slots })
      ∧ (((s.slot k).lines.get .drumHome).accepted = false → (s.slot k).track.drum = .turning →
        ∃ t, exec (.filterTimeElapsed k .drumHome) s = .next t
          ∧ (t.slot k).track.drum = .atHome ∧ (t.slot k).track.jamDeadline = none ∧ (t.slot k).bars.drum = false
          ∧ (t.slot k).fill = (s.slot k).fill ∧ t.demand = s.demand ∧ t.resolver.charges = s.resolver.charges
          ∧ ∀ c, (s.slot k).intake.state = .opened c → c.turnBelongs = true → c.withdrawal = false → c.deposits < c.limit →
            (s.slot k).bars.full = false → (s.slot k).bars.flood = false → (s.slot k).bars.service = false →
            (s.slot k).bars.out = false → (t.slot k).intake = {
              state := .opened { c with aborted := min (c.aborted + 1) 65535, turnBelongs := false }
              idleDeadline := some (n + 1000 * s.config.idleTimeout) }))
    ∧ (∀ x, ((s.slot k).lines.get .drumOpen).pending = some x → ((s.slot k).lines.get .drumOpen).accepted = false →
      (s.slot k).track.drum = .turning → ∃ t, exec (.filterTimeElapsed k .drumOpen) s = .next t
        ∧ t.slot k = { s.slot k with
            lines := (t.slot k).lines, track := { (s.slot k).track with drum := .reachedOpen } })
    ∧ (∀ d, (s.slot k).track.jamDeadline = some d → n = max s.now d → (s.slot k).drumHome = false →
      (s.slot k).bars.drum = false → ∃ t, exec (.drumJam k) s = .next t ∧ t.now = n
        ∧ (t.slot k).bars.drum = true ∧ (t.slot k).track = { (s.slot k).track with jamDeadline := none }
        ∧ (∀ c, (s.slot k).intake.state = .opened c →
            (t.slot k).intake = { state := .closing c .drumFault, idleDeadline := none }
              ∧ (t.slot k).locks.drumReleased = false)
        ∧ (s.reserveHolds = true → t.log.records = s.log.records
            ++ [⟨s.log.seq, .alert t.stamp (.drumJam k ((s.slot k).track.drum == .reachedOpen))⟩])
        ∧ (s.reserveHolds = false → t.log = { s.log with incomplete := true }))

/-- A counted deposit: E and the accumulator take the increment of the record, F, the headroom and HF follow, FULL and
demand by their thresholds, a burst in flight for the slot goes back to the queue. A turn that belongs to an open session
counts as a deposit of it and is charged: the cached usage of the card grows by one, and with an ONLINE store its waiting
charge, or a new one of one deposit, which is taken at once where none is in progress; the drum home tests FULL, BARRED,
CARD_WITHDRAWN and LIMIT are made in this order, and the first that holds ends the session with its reason; where none does,
the session goes on with the idle timer begun afresh. In CLOSING the turn is counted and the session closed with the reason
recorded (R16, R23, R37, R48, R49, R51, R53, R88 to R90, R110 to R112, R115, R116, R130, R134).
A charge in progress goes on as its transactions complete: the record found is written back with the count added in the
period of the grant, a record that is not in the store drops the charge with its alert, and then the next head is taken (R90
to R93).
The model's own: the alert of a dropped charge carries what R187 names, log entry 19; a cached location that a REVOKE has
freed, log entry 32; the HF and the place that a DEMAND_RAISED of the deposit carries are those held before it, log entry
22. -/
def Obligations.CountedDepositsFillAndCharge : Prop :=
  (∀ r : SlotRecord, r.inRange → 5 ≤ r.increment ∧ r.increment ≤ 1200
      ∧ r.increment = ⌊((10 * r.drumVolume : ℚ) * r.packing + 500) / 1000⌋₊)
  ∧ (∀ (s : State) (k : Slot) (x : Pending) (e' : Nat), (s.slot k).configured = true →
    ((s.slot k).lines.get .drumHome).pending = some x → ((s.slot k).lines.get .drumHome).accepted = false →
    (s.slot k).track.drum = .reachedOpen →
    e' = min ((s.slot k).fill.e + (s.slot k).record.increment) (s.slot k).record.vCap →
    ∃ t, exec (.filterTimeElapsed k .drumHome) s = .next t
      ∧ (t.slot k).fill = { (s.slot k).fill with
          e := e', a := min ((s.slot k).fill.a + (s.slot k).record.increment) 65535
          f := (s.slot k).record.fillOf e', h := (s.slot k).record.headroom e'
          hf := hoursToFull ((s.slot k).record.headroom e') (s.slot k).fill.fr }
      ∧ (t.slot k).track.drum = .atHome ∧ (t.slot k).track.jamDeadline = none ∧ (t.slot k).bars.drum = false
      ∧ (t.slot k).bars.full = (s.slot k).fullAt ((s.slot k).record.fillOf e') ∧ s.demandFollows t k
      ∧ (∀ b, s.burstOn k = some b → (s.slot k).bars.flood = false → t.rangingAsked k b.cause)
      ∧ (∀ j, j ≠ k → (t.slot j).fill = (s.slot j).fill ∧ (t.slot j).locks = (s.slot j).locks)
      ∧ ∀ (c c' : Session), c.turnBelongs = true →
        c' = (if c.charged = true ∧ c.admission ≠ .offlineAny then
            { c with deposits := min (c.deposits + 1) 65535, chargedCount := min (c.chargedCount + 1) 65535
                     notUpdated := c.notUpdated || decide (s.store.state ≠ .online), turnBelongs := false }
          else { c with deposits := min (c.deposits + 1) 65535, turnBelongs := false }) →
        ((s.slot k).intake.state = .opened c →
          ((s.slot k).homeEnd ((s.slot k).fullAt ((s.slot k).record.fillOf e')) c' = none → (t.slot k).intake
            = { state := .opened c', idleDeadline := some (t.now + 1000 * s.config.idleTimeout) })
          ∧ (∀ r, (s.slot k).homeEnd ((s.slot k).fullAt ((s.slot k).record.fillOf e')) c' = some r →
            s.sessionClosed t k c' r ∧ (t.slot k).intake.idleDeadline = none ∧ (t.slot k).locks.drumReleased = false))
        ∧ (∀ r, (s.slot k).intake.state = .closing c r → s.sessionClosed t k c' r)
        ∧ ((s.slot k).intake.state = .opened c ∨ (∃ r, (s.slot k).intake.state = .closing c r) →
          c.charged = true → c.admission ≠ .offlineAny →
            t.cached c.card = (s.cached c.card).map (fun x => { x with record := x.record.plus s.clock.period 1 })
            ∧ (s.store.state ≠ .online → t.resolver.charges = s.resolver.charges ∧ t.resolver.job = s.resolver.job)
            ∧ (s.store.state = .online →
              ((∃ ch ∈ t.resolver.charges, ch.card = c.card) ∨ ∃ j, t.resolver.job = some j ∧ j.charge.card = c.card)
              ∧ ∀ q, s.depositEntered c.card q →
                (s.resolver.job ≠ none → t.resolver.job = s.resolver.job ∧ t.resolver.charges = q)
                ∧ (s.resolver.job = none → t.resolver.job.map ChargeJob.charge = q.head? ∧ t.resolver.charges = q.drop 1))))
  ∧ ∀ (s : State) (x : Transaction) (j : ChargeJob) (o : Handed), s.arbiter.inFlight = some x → x.requester = .charge →
    s.resolver.job = some j → o = x.op.handed (s.store.mem.readBytes x.op.address x.op.size) →
    ∃ t, exec (.transactionComplete .held) s = .next t
      ∧ (∀ b p r, (∃ q, j.phase = .readCached b p ∧ o = .record q (some r) ∧ r.card = j.charge.card)
          ∨ (b = bucketOf j.charge.card ∧ ∃ q occ, j.phase = .searching q ∧ q.step o = .ended (.found r p occ)) →
        t.resolver = { s.resolver with job := some { j with phase := .writing } }
          ∧ t.asksFor .charge (.recWrite b p (.charged r j.charge.count)))
      ∧ (∀ P b p r, (StoreOp.recWrite b p (.charged r j.charge.count)).formed P = some (r.plus P j.charge.count))
      ∧ (j.phase = .readFreed ∨ (∃ b p, j.phase = .readCached b p ∧ ∀ q r, o = .record q (some r) → r.card ≠ j.charge.card) →
        t.resolver = { s.resolver with job := some { j with phase := .searching { card := j.charge.card } } }
          ∧ t.asksFor .charge (.dirRead (bucketOf j.charge.card)))
      ∧ (∀ q q' p, j.phase = .searching q → q.step o = .read q' p →
        t.resolver = { s.resolver with job := some { j with phase := .searching q' } }
          ∧ t.asksFor .charge (.recRead (bucketOf j.charge.card) p))
      ∧ (∀ q e, j.phase = .searching q → q.step o = .ended e → (∀ r p occ, e ≠ .found r p occ) →
        s.nextChargeTaken t ∧ t.resolver.sets = s.resolver.sets
          ∧ ((∃ r ∈ t.log.records, ∃ time, r.body = .alert time (.chargesDropped false [j.charge]))
            ∨ t.log.incomplete = true)
          ∧ (s.reserveHolds = true → (∀ occ first, e ≠ .damaged occ first) →
            ∃ r ∈ t.log.records, ∃ time, r.body = .alert time (.chargesDropped false [j.charge])))
      ∧ (∀ w, j.phase = .writing → o = .written → x.written = some w →
        s.nextChargeTaken t
          ∧ (∀ e, s.cached j.charge.card = some e →
            t.cached j.charge.card = some (if s.resolver.charges.any fun c => c.card == j.charge.card then e
              else { e with record := { e.record with usage := w.usage, stamp := w.stamp } })))

/-- The platform: leaving its seat under a granted custody begins the lift and sets no bar, and otherwise bars the slot OUT;
the burst in flight there is discarded, its waiters answered DISCARDED; a lift that waits for its burst in CLOSING ends
without a post-lift fill. Coming back in RAISED it closes the hatch and returns the custody, and after a qualifying tip the
container counts as empty and its demand is cleared. Tips are captured while RAISED (R26, R27, R30, R34, R38, R56, R132,
R146 to R148, R150, R153).
The model's own: the moment at which an edge is accepted, log entry 10; no evaluation after a lift without a qualifying tip,
log entry 36. -/
def Obligations.LiftsFollowThePlatform : Prop :=
  ∀ (s : State) (k : Slot) (n : Nat), (s.slot k).configured = true →
    (∀ x, ((s.slot k).lines.get .platform).pending = some x → n = max s.now (x.since + x.filterMs) →
      (((s.slot k).lines.get .platform).accepted = true → s.custodyOn k = .granted →
        ∃ t, exec (.filterTimeElapsed k .platform) s = .next t ∧ t.burstOn k = none
          ∧ t.lift.custody = { s.lift.custody with state := .raised, deadline := some (n + 900000) }
          ∧ (t.slot k).bars.out = (s.slot k).bars.out
          ∧ ((s.slot k).locks.test = none → (t.slot k).locks = (s.slot k).locks))
      ∧ (((s.slot k).lines.get .platform).accepted = true → s.custodyOn k ≠ .granted → s.custodyOn k ≠ .raised →
        ∃ t, exec (.filterTimeElapsed k .platform) s = .next t ∧ t.burstOn k = none ∧ (t.slot k).bars.out = true
          ∧ (s.run = .running → s.custodyOn k = .closing →
            s.rangeEntry k = some ⟨k, .lift⟩ ∨ (∃ b, s.burstOn k = some b ∧ b.cause = .lift) → s.liftEnded t k none)
          ∧ (∀ b, s.run = .running → s.burstOn k = some b → (s.slot k).range.waitOffice = true →
            s.posted t .office 0xC4 (encSlot k ++ [2, 0, 0, 0, 0, 0, 0, 0])))
      ∧ (((s.slot k).lines.get .platform).accepted = false → s.custodyOn k = .raised →
        ∃ t, exec (.filterTimeElapsed k .platform) s = .next t
          ∧ (t.slot k).locks.hatchReleased = false ∧ (t.slot k).bars.out = false ∧ (t.slot k).track.tipStart = none
          ∧ (s.lift.custody.qualifying = true → (t.slot k).fill.e = 0 ∧ (t.slot k).fill.a = (s.slot k).fill.a
              ∧ (t.slot k).fill.measured = (s.slot k).fill.measured ∧ t.demandOf k = none)
          ∧ (s.lift.custody.qualifying = false → (t.slot k).fill = (s.slot k).fill ∧ t.demand = s.demand)
          ∧ (s.lift.custody.orphaned = false →
            t.lift = { s.lift with custody := { s.lift.custody with state := .returned, deadline := none } })
          ∧ (s.lift.custody.orphaned = true → (s.slot k).bars.flood = false →
            t.lift = { s.lift with custody := { s.lift.custody with state := .closing, deadline := none } }
              ∧ t.rangingAsked k .lift)))
    ∧ (∀ x, ((s.slot k).lines.get .tilt).pending = some x → n = max s.now (x.since + x.filterMs) →
      s.custodyOn k = .raised →
      (((s.slot k).lines.get .tilt).accepted = false → (s.slot k).track.tipStart = none →
        ∃ t, exec (.filterTimeElapsed k .tilt) s = .next t ∧ (t.slot k).track.tipStart = some n ∧ t.lift = s.lift)
      ∧ (∀ t0, ((s.slot k).lines.get .tilt).accepted = true → (s.slot k).track.tipStart = some t0 →
        ∃ t, exec (.filterTimeElapsed k .tilt) s = .next t ∧ (t.slot k).track.tipStart = none
          ∧ t.lift = { s.lift with custody := { s.lift.custody with
              tips := min (s.lift.custody.tips + 1) 255
              tipTime := min (s.lift.custody.tipTime + min ((n - t0) / 100) 6000) 6000
              qualifying := s.lift.custody.qualifying || decide (20 ≤ min ((n - t0) / 100) 6000) } }))

/-- Water sets FLOOD, removes the slot's ranging request, its waiters answered CANCELLED and a lift in CLOSING ended, and
leaves its due time; dryness while FLOOD is set starts a hold of 10 min, at whose end FLOOD is cleared with its alert, the
due time begins afresh and a PERIODIC request is made (R28, R29, R34, R150).
The model's own: the moment at which an expiry is taken, log entry 10. -/
def Obligations.FloodSuspendsRanging : Prop :=
  ∀ (s : State) (k : Slot) (n : Nat), (s.slot k).configured = true →
    (∀ x, ((s.slot k).lines.get .water).pending = some x → n = max s.now (x.since + x.filterMs) →
      (((s.slot k).lines.get .water).accepted = false → ∃ t, exec (.filterTimeElapsed k .water) s = .next t
        ∧ (t.slot k).bars.flood = true ∧ t.rangeEntry k = none ∧ (t.slot k).track.floodHold = none
        ∧ ((s.slot k).bars.flood = false → (t.slot k).track.floodSince = n)
        ∧ (t.slot k).range.due = (s.slot k).range.due
        ∧ (s.run = .running → s.custodyOn k = .closing → s.rangeEntry k = some ⟨k, .lift⟩ → s.liftEnded t k none)
        ∧ (∀ e, s.run = .running → s.rangeEntry k = some e → (s.slot k).range.waitOffice = true →
          s.posted t .office 0xC4 (encSlot k ++ [3, 0, 0, 0, 0, 0, 0, 0])))
      ∧ (((s.slot k).lines.get .water).accepted = true → ∃ t, exec (.filterTimeElapsed k .water) s = .next t
        ∧ t.slot k = { s.slot k with
            lines := (t.slot k).lines
            track := { (s.slot k).track with
              floodHold := if (s.slot k).bars.flood then some (n + 600000) else (s.slot k).track.floodHold } }
        ∧ (∀ j, j ≠ k → t.slot j = s.slot j) ∧ t = { s with now := n, clock := t.clock, slots := t.slots }))
    ∧ (∀ d, (s.slot k).track.floodHold = some d → n = max s.now d → ∃ t, exec (.floodOff k) s = .next t ∧ t.now = n
      ∧ (t.slot k).bars.flood = false ∧ (t.slot k).track.floodHold = none
      ∧ (t.slot k).range.due = some (n + 60000 * s.config.rangingInterval) ∧ t.rangingAsked k .periodic
      ∧ (s.reserveHolds = true → s.log.records ++ [⟨s.log.seq, .alert t.stamp
          (.floodOff k (min ((n - (s.slot k).track.floodSince) / 60000) 65535))⟩] <+: t.log.records))

/-! ## Bursts (chapters 2 and 3) -/

/-- The due time and the end of the post-session delay ask for a burst; a passed due time moves on, under FLOOD without a
request (R33). Pings 2 and 3 are emitted 60 and 120 ms after the start; a ping ends with the first edge within its window,
or invalid 25 ms after its emission; an edge outside the window, of another slot or without a ping does nothing (R36).
The model's own: the moment at which an expiry is taken, log entry 10; commands without their event, log entry 8. -/
def Obligations.RangingIsTimed : Prop :=
  ∀ (s : State) (k : Slot),
    (∀ d, (s.slot k).range.due = some d → ∃ t, exec (.dueTimePassed k) s = .next t ∧ t.now = max s.now d
      ∧ (t.slot k).range.due = some (max s.now d + 60000 * s.config.rangingInterval)
      ∧ ((s.slot k).configured = true → (s.slot k).bars.flood = false → t.rangingAsked k .periodic)
      ∧ ((s.slot k).bars.flood = true → t.ranging = s.ranging ∧ t.log = s.log))
    ∧ (∀ d, (s.slot k).range.delay = some d → ∃ t, exec (.postSessionDelayEnd k) s = .next t ∧ t.now = max s.now d
      ∧ (t.slot k).range = { (s.slot k).range with delay := none }
      ∧ ((s.slot k).configured = true → (s.slot k).bars.flood = false → t.rangingAsked k .session))
    ∧ (∀ b, s.ranging.burst = some b →
      (b.awaiting = false → exec .pingEmit s = .next { s.elapseTo (b.start + 60 * b.pings.length) with
        ranging := { s.ranging with burst := some { b with awaiting := true } } })
      ∧ (b.awaiting = true → b.pings.length < 2 → exec .pingTimeout s
        = .next { s.elapseTo (b.start + 60 * b.pings.length + 25) with
          ranging := { s.ranging with burst := some { b with pings := b.pings ++ [none], awaiting := false } } })
      ∧ (∀ us, b.awaiting = true → b.pings.length < 2 → b.slot = k → 900 ≤ us → us ≤ 25000 → exec (.echoEdge k us) s
        = .next { s.elapseTo (b.start + 60 * b.pings.length + us / 1000) with
          ranging := { s.ranging with burst := some { b with pings := b.pings ++ [some us], awaiting := false } } })
      ∧ (∀ us, b.awaiting = false ∨ b.slot ≠ k ∨ us < 900 ∨ 25000 < us → exec (.echoEdge k us) s = .next s))

/-- The end of the third ping completes the burst: a reading is blended and clears UNMEASURED, HF, FULL and demand follow
it, without one the silent count goes on; the due time begins afresh and each waiter is sent one RANGE_RESULT: READING with
the distance, the SPREAD mark, E and F after the blend, or NO_ECHO. A burst of cause LIFT ends the lift that waits for it in
CLOSING, with F after the blend as its post-lift fill, absent after NO_ECHO: the lift record, the lifted list or the
completed visit, LIFT cleared, LIFT_DONE (R34, R36, R43 to R47, R51, R53, R130, R134, R150, R154 to R156).
The model's own: the fields of RANGE_RESULT without a reading, log entry 19; the moment at which a ping ends, log entry 10;
the HF and the place that a DEMAND_RAISED carries are those held before the burst, log entry 22. -/
def Obligations.BurstsCompleteIntoTheEstimate : Prop :=
  ∀ (s : State) (i : Instr) (b : Burst) (r : Option Nat), s.ranging.burst = some b → b.awaiting = true → b.pings.length = 2 →
    (s.slot b.slot).configured = true →
    (i = .pingTimeout ∧ r = none ∨ ∃ us, i = .echoEdge b.slot us ∧ r = some us ∧ 900 ≤ us ∧ us ≤ 25000) →
    ∃ t, exec i s = .next t
      ∧ (t.slot b.slot).range = { (s.slot b.slot).range with
          lastBurst := t.now, due := some (t.now + 60000 * s.config.rangingInterval), delay := (t.slot b.slot).range.delay
          waitOffice := false, waitService := false }
      ∧ (∀ d, { b with pings := b.pings ++ [r] }.reading = some d →
          (t.slot b.slot).fill.e = blendEstimate (s.slot b.slot).record.vCap (s.slot b.slot).fill.e
            ((s.slot b.slot).record.measuredVolume d.distance) (blendWeight (s.slot b.slot) b.cause d.spread)
          ∧ (t.slot b.slot).fill.f = (s.slot b.slot).record.fillOf (t.slot b.slot).fill.e
          ∧ (t.slot b.slot).fill.h = (s.slot b.slot).record.headroom (t.slot b.slot).fill.e
          ∧ (t.slot b.slot).fill.measured = true ∧ (t.slot b.slot).fill.silent = 0
          ∧ (t.slot b.slot).fill.a = (s.slot b.slot).fill.a ∧ (t.slot b.slot).fill.fr = (s.slot b.slot).fill.fr
          ∧ (t.slot b.slot).fill.hf
            = hoursToFull ((s.slot b.slot).record.headroom (t.slot b.slot).fill.e) (s.slot b.slot).fill.fr
          ∧ (t.slot b.slot).bars.full = (s.slot b.slot).fullAt (t.slot b.slot).fill.f ∧ s.demandFollows t b.slot
          ∧ (t.slot b.slot).bars.unmeasured = false)
      ∧ ({ b with pings := b.pings ++ [r] }.reading = none →
          (t.slot b.slot).fill = { (s.slot b.slot).fill with silent := min ((s.slot b.slot).fill.silent + 1) 3 }
          ∧ (t.slot b.slot).bars.unmeasured = (s.slot b.slot).bars.unmeasured ∧ t.demand = s.demand)
      ∧ (∀ j, j ≠ b.slot → (t.slot j).fill = (s.slot j).fill)
      ∧ (∀ p, s.run = .running →
          (∀ d, { b with pings := b.pings ++ [r] }.reading = some d → p = encSlot b.slot ++ u8 0 ++ u16 d.distance
            ++ flag d.spread ++ u16 (t.slot b.slot).fill.e ++ u16 (t.slot b.slot).fill.f) →
          ({ b with pings := b.pings ++ [r] }.reading = none → p = encSlot b.slot ++ [1, 0, 0, 0, 0, 0, 0, 0]) →
          ((s.slot b.slot).range.waitOffice = true → s.posted t .office 0xC4 p)
          ∧ t.port .service
            = (if (s.slot b.slot).range.waitService then s.notify .service 0xC4 p else s).port .service)
      ∧ (s.run = .running → b.cause = .lift → s.custodyOn b.slot = .closing → s.liftEnded t b.slot
          ({ b with pings := b.pings ++ [r] }.reading.map fun _ => (t.slot b.slot).fill.f))

/-! ## Readers and sessions (chapter 6) -/

/-- A poll without an answer adds to the count, as does one whose answer fails its check or names another slot, and the
third takes the reader to LOST, with the alert READER_LOST; an answer takes it back, with READER_BACK and the seconds it was
LOST, and clears the count. A pending SIGNAL follows the poll with the tone entry as it stands; else, and after a SIGNAL,
the turn passes to the next due reader, or the controller waits. A LOST reader is polled a second after its last poll (R96,
R97, R99, R190).
The model's own: the moment at which an expiry is taken, log entry 10, and when READER_DUE acts, log entry 26. -/
def Obligations.ReadersArePolled : Prop :=
  ∀ (s : State) (k : Slot) (began : Nat),
    (s.readerBus.bus = .polling k began → ∀ (i : Instr),
      (i = .pollTimeout ∨ (∃ bs, i = .readerAnswer bs ∧ (checkGood bs = false ∨ byteAt bs 0 ≠ k.val))
        ∨ i = .readerAnswer (withCheck (encSlot k ++ [0x4E]))) → ∃ t, exec i s = .next t
        ∧ t.now = (if i = .pollTimeout then max s.now (began + 20) else s.now)
        ∧ (i = .readerAnswer (withCheck (encSlot k ++ [0x4E])) →
          (t.slot k).reader.unanswered = 0 ∧ (t.slot k).reader.lost = false
            ∧ ((s.slot k).reader.lost = false → (t.slot k).intake = (s.slot k).intake ∧ t.log = s.log)
            ∧ ((s.slot k).reader.lost = true →
              s.alerted t (.readerBack k (min ((s.now - (s.slot k).reader.lostSince) / 1000) 65535))))
        ∧ (i ≠ .readerAnswer (withCheck (encSlot k ++ [0x4E])) →
          (t.slot k).reader.unanswered = min ((s.slot k).reader.unanswered + 1) 3
          ∧ ((t.slot k).reader.lost = true
            ↔ (s.slot k).reader.lost = true ∨ 2 ≤ (s.slot k).reader.unanswered)
          ∧ ((s.slot k).reader.lost = false → 2 ≤ (s.slot k).reader.unanswered →
            s.alerted t (.readerLost k) ∧ (t.slot k).reader.lostSince = t.now)
          ∧ ((s.slot k).reader.lost = true ∨ (s.slot k).reader.unanswered < 2 → t.log = s.log))
        ∧ (∀ x, (s.slot k).reader.signal = some x → (t.slot k).reader.signal = none
            ∧ t.readerBus = { bus := .signalling k t.now, lastTurn := s.readerBus.lastTurn
                              lastFrame := withCheck (encSlot k ++ [0x53] ++ encTone (s.tones.get x)) })
        ∧ ((s.slot k).reader.signal = none → { s.modSlot k fun u => { u with
            reader := { u.reader with lost := (t.slot k).reader.lost } } with now := t.now }.turnPassed t))
    ∧ (s.readerBus.bus = .signalling k began →
      (∀ j, (turnOrder s.readerBus.lastTurn).find? s.takesTurn = some j → exec .signalSent s = .next
        { s.modSlot j fun u => { u with reader := { u.reader with lastPoll := some s.now } } with
          readerBus := { bus := .polling j s.now, lastTurn := j, lastFrame := withCheck (encSlot j ++ [0x50]) } })
      ∧ ((turnOrder s.readerBus.lastTurn).find? s.takesTurn = none → exec .signalSent s = .next
        { s with readerBus := { s.readerBus with bus := .waiting } }))
    ∧ (s.readerBus.bus = .waiting → (s.slot k).configured = true → (s.slot k).record.readerEnable = true →
      (s.slot k).reader.lost = true → (s.slot k).reader.lastPoll = some began → ∃ t, exec (.readerDue k) s = .next t
        ∧ t.now = max s.now (began + 1000) ∧ (t.slot k).reader = { (s.slot k).reader with lastPoll := some t.now }
        ∧ t.readerBus = { bus := .polling k t.now, lastTurn := k, lastFrame := withCheck (encSlot k ++ [0x50]) })

/-- A grant passes every check: no bar, an admission by the lookup outcome and the offline policy, a record that is ACTIVE,
not expired and permitted for the class, hours, and on a charged slot a quota, a place in the charge queue and the log
reserve; its limit is within the allowance, the bound of the admission and the quota. A bar denies first, by the order of
R15. Without a bar the checks decide in their order: the lookup outcome under the policy (UNKNOWN_CARD, DAMAGED,
STORE_OFFLINE), SUSPENDED, EXPIRED, NO_RIGHT, HOURS, and on a charged slot QUOTA, CHARGE_BACKLOG, LOG_FULL; where all pass
the card is granted, with the smallest of the bounds as its limit. The allowance is the headroom in increments, rounded up,
and at least 1 (R10, R15, R50, R103 to R108, R123, R172). -/
def Obligations.GrantsPassEveryCheck : Prop :=
  ∀ (s : State) (k : Slot) (o : LookupOutcome),
    (∀ a limit, s.decision k o = .grant a limit → (s.slot k).bars.isEmpty = true ∧ s.checkHours k = none
      ∧ limit ≤ (s.slot k).allowance
      ∧ ((s.slot k).record.charged = true → s.reserveHolds = true
          ∧ (s.store.state = .online → s.resolver.charges.length < 8))
      ∧ (match a with
        | .normal => ∃ e b, o = .found e b ∧ limit ≤ (s.profileOf e.record).sessionLimit
        | .offlineCached => ∃ e, o = .storeOffline (some e) ∧ limit ≤ s.config.offlineLimit
          ∧ s.config.policy (s.slot k).record.fraction ≠ .refuse
        | .offlineAny => (o = .damaged ∨ o = .storeOffline none) ∧ limit ≤ s.config.offlineLimit
          ∧ s.config.policy (s.slot k).record.fraction = .admitAny)
      ∧ ∀ e, o.entry = some e → e.record.status = .active ∧ s.expired e.record = false
        ∧ (s.profileOf e.record).permits (s.slot k).record.cls = true
        ∧ ((s.slot k).record.charged = true → 0 < s.remainingQuota e.record ∧ limit ≤ s.remainingQuota e.record))
    ∧ (∀ b, (s.slot k).bars.first = some b → s.decision k o = .deny (.barred b) ∧ (s.slot k).bars.has b = true
      ∧ ∀ b' order, order = [Bar.full, .lift, .service, .flood, .drum, .out, .log, .unmeasured] →
        order.idxOf b' < order.idxOf b → (s.slot k).bars.has b' = false)
    ∧ ((s.slot k).bars.isEmpty = false → ∃ b, (s.slot k).bars.first = some b)
    ∧ (s.slot k).allowance
      = max 1 ⌈((s.slot k).record.headroom (s.slot k).fill.e : ℚ) / (s.slot k).record.increment⌉₊
    ∧ ((s.slot k).bars.isEmpty = true →
      (o = .absent → s.decision k o = .deny .unknownCard)
      ∧ (o = .damaged → s.config.policy (s.slot k).record.fraction ≠ .admitAny → s.decision k o = .deny .damaged)
      ∧ ((∃ e, o = .storeOffline e ∧ (s.config.policy (s.slot k).record.fraction = .refuse
          ∨ e = none ∧ s.config.policy (s.slot k).record.fraction ≠ .admitAny)) → s.decision k o = .deny .storeOffline)
      ∧ ∀ a r, s.lookupAdmits k o a r →
        (∀ x, r = some x →
          (x.status = .suspended → s.decision k o = .deny .suspended)
          ∧ (x.status = .active → s.pastExpiry x → s.decision k o = .deny .expired)
          ∧ (x.status = .active → ¬ s.pastExpiry x →
            (s.profiles[x.profile]).marks.getD (s.slot k).record.cls false = false → s.decision k o = .deny .noRight))
        ∧ ((∀ x, r = some x → x.status = .active ∧ ¬ s.pastExpiry x
            ∧ (s.profiles[x.profile]).marks.getD (s.slot k).record.cls false = true) →
          (s.outsideHours k → s.decision k o = .deny .hours)
          ∧ (¬ s.outsideHours k → (s.slot k).record.charged = false → s.decision k o = .grant a (s.grantBound k a r))
          ∧ (¬ s.outsideHours k → (s.slot k).record.charged = true →
            (∀ x, r = some x → s.quotaLeft x = 0 → s.decision k o = .deny .quota)
            ∧ ((∀ x, r = some x → 0 < s.quotaLeft x) →
              (s.store.state = .online → 8 ≤ s.resolver.charges.length → s.decision k o = .deny .chargeBacklog)
              ∧ (s.store.state ≠ .online ∨ s.resolver.charges.length < 8 →
                (256 - s.log.records.length ≤ s.chargedSessions + s.inPreparation + 8 → s.decision k o = .deny .logFull)
                ∧ (s.chargedSessions + s.inPreparation + 8 < 256 - s.log.records.length →
                  (r = none → s.decision k o = .grant a (s.grantBound k a r))
                  ∧ ∀ x, r = some x → s.decision k o = .grant a (min (s.grantBound k a r) (s.quotaLeft x))))))))

/-- A card at an IDLE slot of the rotation that no other slot holds is decided: from the cache, the grant opens the session
with its limit, releases DRUM_LOCK and starts the idle timer, and a deny leaves the lock; the tone of the decision is
signalled. A card at a BARRED slot is denied with the tone of its first bar, and one that another slot holds DUPLICATE, both
at once and with nothing else changed. The idle timer ends an open session IDLE, with its record (R15, R98, R101, R102,
R107, R108, R112, R115, R117).
The model's own: the moment at which an expiry is taken, log entry 10. -/
def Obligations.CardsAreDecidedAndSessionsEnd : Prop :=
  ∀ (s : State) (k : Slot),
    (∀ (began : Nat) (n : CardNo) (e : CacheEntry), s.readerBus.bus = .polling k began → n ≠ noCard →
      (s.slot k).configured = true → (s.slot k).record.readerEnable = true → (s.slot k).reader.lost = false →
      (s.slot k).intake.state = .idle → (∀ j, j ≠ k → (s.slot j).intake.state.card ≠ some n) → s.cached n = some e →
      s.store.state = .online → s.busyBucket ≠ some (bucketOf n) →
      ∃ t, exec (.readerAnswer (withCheck (encSlot k ++ [0x43] ++ u32 n.toNat))) s = .next t
        ∧ (∀ a limit, s.decision k (.found e false) = .grant a limit →
          (t.slot k).intake = {
            state := .opened { card := n, admission := a, charged := (s.slot k).record.charged, limit := limit
                               startTime := s.stamp }
            idleDeadline := if (s.slot k).drumHome then some (s.now + 1000 * s.config.idleTimeout)
              else (s.slot k).intake.idleDeadline }
          ∧ (t.slot k).locks = { (s.slot k).locks with drumReleased := true }
          ∧ t.readerBus.lastFrame = withCheck (encSlot k ++ [0x53] ++ encTone s.tones.grant))
        ∧ (∀ d, s.decision k (.found e false) = .deny d → (t.slot k).intake.state.busy = false
          ∧ (t.slot k).locks.drumReleased = (s.slot k).locks.drumReleased
          ∧ t.readerBus.lastFrame = withCheck (encSlot k ++ [0x53] ++ encTone (s.tones.get d.tone))))
    ∧ (∀ d : DenyReason, d.tone = (if d = .barred .full then .full
        else if d = .barred .flood ∨ d = .barred .drum ∨ d = .barred .out ∨ d = .barred .unmeasured then .fault else .deny))
    ∧ (∀ (began : Nat) (n : CardNo) (d : DenyReason), s.readerBus.bus = .polling k began → n ≠ noCard →
      (s.slot k).configured = true → (s.slot k).record.readerEnable = true → (s.slot k).reader.lost = false →
      ((∃ b, (s.slot k).intake.state = .barred ∧ (s.slot k).bars.first = some b ∧ d = .barred b)
        ∨ ((s.slot k).intake.state = .idle ∧ (∃ j, j ≠ k ∧ (s.slot j).intake.state.card = some n) ∧ d = .duplicate)) →
      exec (.readerAnswer (withCheck (encSlot k ++ [0x43] ++ u32 n.toNat))) s = .next
        { s.modSlot k fun u => { u with reader := { u.reader with unanswered := 0, signal := none } } with
          readerBus := { bus := .signalling k s.now, lastTurn := s.readerBus.lastTurn
                         lastFrame := withCheck (encSlot k ++ [0x53] ++ encTone (s.tones.get d.tone)) } })
    ∧ (∀ (d : Nat) (c : Session), (s.slot k).intake.state = .opened c → (s.slot k).intake.idleDeadline = some d →
      ∃ t, exec (.idleTimeout k) s = .next t ∧ t.now = max s.now d ∧ (t.slot k).locks.drumReleased = false
        ∧ (t.slot k).intake.idleDeadline = none
        ∧ ((s.slot k).drumHome = false → (t.slot k).intake.state = .closing c .idle)
        ∧ ((s.slot k).drumHome = true → (t.slot k).intake.state = restState (t.slot k).bars
          ∧ ((t.slot k).range.delay = if 1 ≤ c.deposits then some (t.now + 10000) else (s.slot k).range.delay)
          ∧ (c.charged = true → ∃ r ∈ t.log.records, r.body
              = .session k (s.slot k).record.fraction c t.stamp .idle)))

/-- A requester is eligible with a waiting request, in ONLINE or, for BATCH, in FORMATTING, that goes on with its work or
begins on a bucket that no other's work holds. The Store Arbiter grants one transaction at a time, to an eligible requester,
in the order REFILL, CHARGE, BATCH, but to a BATCH request that has been passed over four times; a piece of work begins only
on a bucket that no other holds; it grants whenever it may (R69, R75 to R77). -/
def Obligations.GrantsFollowPriorityAndHazards : Prop :=
  ∀ s : State,
    (∀ r, s.eligible r = true ↔ ∃ q, (s.arbiter.side r).waiting = some q
      ∧ (s.store.state = .online ∨ (s.store.state = .formatting ∧ r = .batch))
      ∧ (q.begins = true → ∀ b, q.op.bucket = some b → ∀ r', r' ≠ r → (s.arbiter.side r').held ≠ some b))
    ∧ (s.arbiter.inFlight ≠ none → s.tryGrant = s)
    ∧ (s.arbiter.inFlight = none → (∀ r, s.eligible r = false) → s.tryGrant = s)
    ∧ (s.arbiter.inFlight = none → (∃ r, s.eligible r = true) →
      ∃ x q, s.tryGrant.arbiter.inFlight = some x ∧ (s.arbiter.side x.requester).waiting = some q
        ∧ s.eligible x.requester = true ∧ x.op = q.op ∧ x.start = s.now
        ∧ (s.tryGrant.arbiter.side x.requester).waiting = none
        ∧ ((s.arbiter.starvation = 4 ∧ s.eligible .batch = true) → x.requester = .batch)
        ∧ (¬ (s.arbiter.starvation = 4 ∧ s.eligible .batch = true) →
          (s.eligible .refill = true → x.requester = .refill)
          ∧ (s.eligible .refill = false → s.eligible .charge = true → x.requester = .charge))
        ∧ s.tryGrant.arbiter.starvation = (if x.requester = .batch then 0
            else if s.arbiter.batch.waiting = none then s.arbiter.starvation else min (s.arbiter.starvation + 1) 4)
        ∧ (∀ b, q.begins = true → q.op.bucket = some b →
          (s.tryGrant.arbiter.side x.requester).held = some b ∧ ∀ r, r ≠ x.requester → (s.arbiter.side r).held ≠ some b)
        ∧ s.tryGrant = { s with arbiter := s.tryGrant.arbiter })

/-! ## Emptying demand and the log (chapters 8 and 11) -/

/-- DEMAND_ADD at a CONFIGURED slot gives it an entry of cause ORDER, new with the present station time and HF or the one it
has, and answers with the entry and its position; other slots' entries stay. DEMAND_LIST returns the entries in queue order
and sets their announced flags (R129, R131, R134, R136).
The model's own: the response of DEMAND_ADD behind DEMAND_RAISED, log entry 18 (the worked sequence of chapter 8 lists the
response first). -/
def Obligations.DemandIsAddedAndListed : Prop :=
  ∀ (s : State) (tag : Byte),
    (∀ k, s.offers .office (frameOf 0x0D tag (encSlot k)) → (s.slot k).configured = true →
      ∃ t e, exec (.demandAdd .office) s = .next t ∧ t.demandOf k = some e ∧ e.cause = .order
        ∧ (s.demandOf k = none → e.raised = s.stamp ∧ e.hf = (s.slot k).fill.hf
          ∧ e.announced = decide ((s.port .office).notices.length < 16))
        ∧ (∀ x, s.demandOf k = some x → e.raised = x.raised ∧ e.hf = x.hf ∧ (x.cause = .order → e = x))
        ∧ s.answeredLast t .office 0x0D tag .ok
          (encSlot k ++ u8 2 ++ encTime e.raised ++ u8 e.hf ++ u8 (t.demandPosition k))
        ∧ (∀ j, j ≠ k → t.demandOf j = s.demandOf j) ∧ t = { s with ports := t.ports, demand := t.demand })
    ∧ (∀ pl : List Byte, pl.length = 1 → (∀ k, slotAt pl 0 = some k → (s.slot k).configured = false) →
      s.offers .office (frameOf 0x0D tag pl) →
      exec (.demandAdd .office) s = .next (s.answered1 .office 0x0D tag .badField []))
    ∧ (s.offers .office (frameOf 0x0F tag []) → exec (.demandList .office) s = .next
      { s.answered1 .office 0x0F tag .ok (u8 s.demand.length ++ s.demand.flatMap fun e =>
          u8 (e.slot.val + 8 * e.cause.code + (if e.announced then 32 else 0) + (if e.raised.isSome then 64 else 0))
            ++ u32 ((e.raised.map BitVec.toNat).getD 0) ++ u8 e.hf) with
        demand := s.demand.map fun e => { e with announced := true } })

/-- DEMAND_CANCEL: a slot without an entry is refused WRONG_STATE, a number above 7 BAD_FIELD; otherwise the entry is
removed, DEMAND_CLEARED is posted, and the response carries the slot and the removed cause (R133, R135, R187).
The model's own: DEMAND_CLEARED ahead of the response, log entry 18 (the worked sequence of chapter 8 lists the response
first). -/
def Obligations.DemandCancelRemovesTheEntry : Prop :=
  ∀ (s : State) (tag : Byte),
    (∀ k, s.offers .office (frameOf 0x0E tag (encSlot k)) →
      (s.demandOf k = none → exec (.demandCancel .office) s = .next (s.answered1 .office 0x0E tag .wrongState []))
      ∧ ∀ e, s.demandOf k = some e → exec (.demandCancel .office) s = .next
        ((({ s with demand := s.demand.filter fun x : DemandEntry => x.slot != k }).notify .office 0xC7
            (encSlot k ++ u8 1 ++ u8 e.cause.code ++ encTime e.raised ++ flag e.announced
              ++ u8 (s.demand.filter fun x : DemandEntry => x.slot != k).length)).answered1 .office 0x0E tag .ok
          (encSlot k ++ u8 e.cause.code)))
    ∧ ∀ n, 8 ≤ n → n < 256 → s.offers .office (frameOf 0x0E tag (u8 n)) →
      exec (.demandCancel .office) s = .next (s.answered1 .office 0x0E tag .badField [])

/-- LOG_FETCH at OFFICE or SERVICE returns as many records from the offset on as fit whole, or one part of an oversize record,
with the number held, the oldest sequence number and the incomplete mark, which is then clear; it removes nothing. A part of
a record that has no such part is refused BAD_FIELD (R174, R191).
The model's own: the form of a part and of the header of the response, log entries 15 and 19. -/
def Obligations.LogFetchReturnsWhatFits : Prop :=
  ∀ (s : State) (p : Port) (tag : Byte) (offset part : Nat), p ≠ .crew → offset < 256 → part < 256 →
    s.offers p (frameOf 0x10 tag (u8 offset ++ u8 part)) →
    (s.log.records.length ≤ offset → exec (.logFetch p) s = .next
      (({ s with log := { s.log with incomplete := false } }).answered1 p 0x10 tag .ok
        (u16 s.log.records.length ++ u16 ((s.log.records.head?.map LogRecord.seq).getD 0) ++ u8 offset ++ u8 0
          ++ flag s.log.incomplete ++ u8 0 ++ u8 0)))
    ∧ ∀ r rs, s.log.records.drop offset = r :: rs →
      (r.bytes.length ≤ 50 → part ≠ 0 → exec (.logFetch p) s = .next (s.answered1 p 0x10 tag .badField []))
      ∧ (r.bytes.length ≤ 50 → part = 0 → ∃ got rest, r :: rs = got ++ rest ∧ 1 ≤ got.length
        ∧ (got.flatMap LogRecord.bytes).length ≤ 50
        ∧ (∀ x xs, rest = x :: xs → 50 < ((got ++ [x]).flatMap LogRecord.bytes).length)
        ∧ exec (.logFetch p) s = .next
          (({ s with log := { s.log with incomplete := false } }).answered1 p 0x10 tag .ok
            (u16 s.log.records.length ++ u16 ((s.log.records.head?.map LogRecord.seq).getD 0) ++ u8 offset
              ++ u8 got.length ++ flag s.log.incomplete ++ u8 0 ++ u8 0 ++ got.flatMap LogRecord.bytes)))
      ∧ (50 < r.bytes.length → part < r.parts → exec (.logFetch p) s = .next
        (({ s with log := { s.log with incomplete := false } }).answered1 p 0x10 tag .ok
          (u16 s.log.records.length ++ u16 ((s.log.records.head?.map LogRecord.seq).getD 0) ++ u8 offset ++ u8 1
            ++ flag s.log.incomplete ++ u8 part ++ u8 r.parts ++ (r.part part).bytes)))
      ∧ (50 < r.bytes.length → r.parts ≤ part →
        exec (.logFetch p) s = .next (s.answered1 p 0x10 tag .badField []))

/-- LOG_RELEASE removes the n oldest records, or all; the numbering goes on; the LOG bar is cleared on every configured slot
where the reserve holds again; the level notice is armed below 128 records (R173, R175, R176).
The model's own: the response behind the BAR_CHANGE notices of the LOG bar, log entry 18. -/
def Obligations.LogReleaseRemovesTheOldest : Prop :=
  ∀ (s : State) (tag : Byte) (n : Nat), n < 65536 → s.offers .office (frameOf 0x11 tag (u16 n)) →
    ∃ t, exec (.logRelease .office) s = .next t
      ∧ t.log = { s.log with
          records := s.log.records.drop n
          spent := s.log.spent && decide (128 ≤ s.log.records.length - n) }
      ∧ s.answeredLast t .office 0x11 tag .ok
        (u16 (min n s.log.records.length) ++ u16 (s.log.records.length - n)
          ++ optional u16 ((s.log.records.drop n).head?.map LogRecord.seq))
      ∧ (∀ k, (s.slot k).configured = true → (t.slot k).bars.log = (!t.reserveHolds && (s.slot k).record.charged))
      ∧ (∀ k, t.slot k = { s.slot k with
          bars := { (s.slot k).bars with log := (t.slot k).bars.log }, intake := (t.slot k).intake })
      ∧ t = { s with ports := t.ports, slots := t.slots, log := t.log }

/-! ## Batches (chapter 10) -/

/-- BATCH_BEGIN opens a batch of 1 to 1024 entries while none is open and the store is ONLINE; its refusals in their order
(R158). BATCH_END and BATCH_ABORT are answered ahead of their effects: a batch without an entry under way is reported at
once and there is none; one with an entry in the Commit slot whose work has begun, or with a closed entry that waits for it,
goes to ENDING and that work goes on. BATCH_END closes an entry that has been started: it waits for the Commit slot or
enters it, MALFORMED or with its search begun. The report carries the first that holds of ABORTED, with its reason, LONG,
EXACT where the entries closed equal the declared count, and SHORT. An abort drops what the staging places hold and an entry
whose work has not begun; its report is ABORTED with the reason REQUEST (R162, R163, R168, R169).
The entry in the Commit slot goes on as its transactions complete: after its search an ADD writes its record, in the place
found, in the lowest damaged one or behind the last, and then the occupancy; SUSPEND, RESUME and SET_USAGE change the record
found; a REVOKE writes the smaller occupancy and moves the highest good record into the freed position; an entry without its
record is rejected NOT_FOUND, and an ADD to a full bucket BUCKET_FULL. When the last write is done the cache takes the
change, the sessions of a card suspended or revoked are withdrawn, and the entry is counted; a closed entry that waits moves
in (R95, R113, R159, R164 to R167).
The model's own: the location of a cached card after an ADD, log entry 29; a charge that waits at a freed position, log
entry 32; the form of the first rejection in BATCH_REPORT, log entry 38. -/
def Obligations.BatchesBeginEndAndAbort : Prop :=
  (∀ b : Batch, (∀ a, b.abort = some a → batchReportPayload b = b.report 3 (match a with | .request => 0 | .store => 1))
    ∧ (b.abort = none → b.long = true → batchReportPayload b = b.report 2 0)
    ∧ (b.abort = none → b.long = false → b.closed = b.declared → batchReportPayload b = b.report 0 0)
    ∧ (b.abort = none → b.long = false → b.closed ≠ b.declared → batchReportPayload b = b.report 1 0))
  ∧ ∀ (s : State) (tag : Byte),
    (∀ id n mode : Nat, id < 65536 → n < 65536 → mode < 256 →
      s.offers .office (frameOf 0x12 tag (u16 id ++ u16 n ++ u8 mode)) →
      (mode ≤ 1 → 1 ≤ n → n ≤ 1024 → s.batch.state = .none → s.store.state = .online →
        exec (.batchBegin .office) s = .next
          (({ s with batch := { state := .opened, id := id, declared := n, packed := mode == 1 } }).answered1
            .office 0x12 tag .ok (u16 id ++ u16 n ++ u8 mode)))
      ∧ (2 ≤ mode ∨ n = 0 ∨ 1024 < n →
        exec (.batchBegin .office) s = .next (s.answered1 .office 0x12 tag .badField []))
      ∧ (mode ≤ 1 → 1 ≤ n → n ≤ 1024 → s.batch.state ≠ .none →
        exec (.batchBegin .office) s = .next (s.answered1 .office 0x12 tag .busy []))
      ∧ (mode ≤ 1 → 1 ≤ n → n ≤ 1024 → s.batch.state = .none → s.store.state ≠ .online →
        exec (.batchBegin .office) s = .next (s.answered1 .office 0x12 tag .storeOffline [])))
    ∧ (s.offers .office (frameOf 0x14 tag []) →
      (s.batch.state ≠ .opened → exec (.batchEnd .office) s = .next (s.answered1 .office 0x14 tag .wrongState []))
      ∧ (s.batch.state = .opened → s.batch.inbox ≠ [] →
        exec (.batchEnd .office) s = .next (s.answered1 .office 0x14 tag .busy []))
      ∧ (s.batch.state = .opened → s.batch.inbox = [] → s.batch.assembler = .empty → s.batch.commit = none →
        exec (.batchEnd .office) s = .next
          { (s.answered1 .office 0x14 tag .accepted []).notify .office 0xCB (batchReportPayload s.batch) with
            batch := { s.batch with state := .none, sepSeen := false } })
      ∧ (s.batch.state = .opened → s.batch.inbox = [] → s.batch.assembler = .empty → s.batch.commit ≠ none →
        exec (.batchEnd .office) s = .next
          { s.answered1 .office 0x14 tag .accepted [] with batch := { s.batch with state := .ending, sepSeen := false } })
      ∧ (∀ bs o i, s.batch.state = .opened → s.batch.inbox = [] → s.batch.assembler = .waiting bs o i →
        exec (.batchEnd .office) s = .next
          { s.answered1 .office 0x14 tag .accepted [] with batch := { s.batch with state := .ending, sepSeen := false } })
      ∧ (∀ bs o, s.batch.state = .opened → s.batch.inbox = [] → s.batch.assembler = .building bs o →
        (s.batch.commit ≠ none → exec (.batchEnd .office) s = .next
          { s.answered1 .office 0x14 tag .accepted [] with batch := { s.batch with
              state := .ending, sepSeen := false, closed := s.batch.closed + 1
              assembler := .waiting bs o (s.batch.closed + 1) } })
        ∧ (s.batch.commit = none → entryAt s.batch.packed o bs = none → exec (.batchEnd .office) s = .next
          (let b := { s.batch with
              state := .none, sepSeen := false, closed := s.batch.closed + 1, assembler := .empty
              rejected := s.batch.rejected + 1
              first := some (s.batch.first.getD (s.batch.closed + 1, .malformed)) }
           { (s.answered1 .office 0x14 tag .accepted []).notify .office 0xCB (batchReportPayload b) with batch := b }))
        ∧ (∀ e, s.batch.commit = none → entryAt s.batch.packed o bs = some e → ∃ t, exec (.batchEnd .office) s = .next t
          ∧ t.batch = { s.batch with
              state := .ending, sepSeen := false, closed := s.batch.closed + 1, assembler := .empty
              commit := some { entry := e, index := s.batch.closed + 1, phase := .searching { card := e.card } } }
          ∧ t = { s.answered1 .office 0x14 tag .accepted [] with batch := t.batch, arbiter := t.arbiter })))
    ∧ (s.offers .office (frameOf 0x15 tag []) →
      (s.batch.state = .none ∨ s.batch.abort ≠ none →
        exec (.batchAbort .office) s = .next (s.answered1 .office 0x15 tag .wrongState []))
      ∧ (s.batch.state ≠ .none → s.batch.abort = none → s.batch.commit = none →
        exec (.batchAbort .office) s = .next
          { (s.answered1 .office 0x15 tag .ok []).notify .office 0xCB (abortReport s.batch) with
            batch := { s.batch with state := .none, abort := some .request, inbox := [], assembler := .empty } })
      ∧ (s.batch.state ≠ .none → s.batch.abort = none → s.batch.commit ≠ none →
        (∀ q ∈ s.arbiter.batch.waiting, q.begins = false) →
        exec (.batchAbort .office) s = .next { s.answered1 .office 0x15 tag .ok [] with batch := { s.batch with
          state := .ending, abort := some .request, inbox := [], assembler := .empty } })
      ∧ (∀ q, s.batch.state ≠ .none → s.batch.abort = none → s.batch.commit ≠ none → s.arbiter.batch.waiting = some q →
        q.begins = true → exec (.batchAbort .office) s = .next
          { (s.answered1 .office 0x15 tag .ok []).notify .office 0xCB (abortReport s.batch) with
            batch := { s.batch with
              state := .none, abort := some .request, inbox := [], assembler := .empty, commit := none }
            arbiter := { s.arbiter with batch := { s.arbiter.batch with waiting := none }, starvation := 0 } }))
    ∧ (∀ (x : Transaction) (c : Commit) (o : Handed), s.run = .running → s.arbiter.inFlight = some x →
      x.requester = .batch → s.store.format = none → s.batch.commit = some c →
      o = x.op.handed (s.store.mem.readBytes x.op.address x.op.size) →
      ∃ t, exec (.transactionComplete .held) s = .next t
        ∧ (∀ q q' p, c.phase = .searching q → q.step o = .read q' p →
          s.commitAsks t c (.searching q') (.recRead (bucketOf c.entry.card) p))
        ∧ (∀ q e, c.phase = .searching q → q.step o = .ended e →
          (∀ n st pr ex ov w, c.entry = .add n st pr ex ov →
            w = { card := n, status := st, profile := pr, usage := 0, stamp := 0, expiry := ex, override := ov } →
            (∀ r p occ, e = .found r p occ → s.commitAsks t c (.writing p none)
              (.recWrite (bucketOf n) p (.asGiven { w with usage := r.usage, stamp := r.stamp })))
            ∧ (∀ occ (h : occ < 16), e = .absent occ →
              s.commitAsks t c (.writing ⟨occ, h⟩ (some (occ + 1))) (.recWrite (bucketOf n) ⟨occ, h⟩ (.newCard w)))
            ∧ (∀ occ, 16 ≤ occ → e = .absent occ → s.entryRejected t c .bucketFull)
            ∧ (∀ occ p, e = .damaged occ (some p) →
              s.commitAsks t c (.writing p none) (.recWrite (bucketOf n) p (.newCard w)))
            ∧ (∀ occ, e = .damaged occ none →
              s.commitAsks t c (.writing 0 (some 1)) (.recWrite (bucketOf n) 0 (.newCard w)))
            ∧ (∀ P b p, (StoreOp.recWrite b p (.newCard w)).formed P = some { w with stamp := P }))
          ∧ (∀ n r p occ, e = .found r p occ →
            (c.entry = .suspend n → s.commitAsks t c (.writing p none)
              (.recWrite (bucketOf n) p (.asGiven { r with status := .suspended })))
            ∧ (c.entry = .resume n → s.commitAsks t c (.writing p none)
              (.recWrite (bucketOf n) p (.asGiven { r with status := .active })))
            ∧ (∀ u v, c.entry = .setUsage n u v → s.commitAsks t c (.writing p none)
              (.recWrite (bucketOf n) p (.asGiven { r with usage := u, stamp := v })))
            ∧ (c.entry = .revoke n →
              (∀ h : occ ≤ 16, ∀ h' : p.val + 1 < occ, s.commitAsks t c (.scanning p ⟨occ - 1, by omega⟩)
                (.recRead (bucketOf n) ⟨occ - 1, by omega⟩))
              ∧ (occ ≤ p.val + 1 → s.commitAsks t c (.shrinking p none) (.dirWrite (bucketOf n) (occ - 1)))))
          ∧ ((∀ n st pr ex ov, c.entry ≠ .add n st pr ex ov) → (∀ r p occ, e ≠ .found r p occ) →
            s.entryRejected t c .notFound))
        ∧ (∀ p q, c.phase = .scanning p q →
          (∀ q' r, o = .record q' (some r) →
            s.commitAsks t c (.shrinking p (some r)) (.dirWrite (bucketOf c.entry.card) q.val))
          ∧ (∀ q' : Position, o = .record q' none → (∀ h : p.val + 1 < q.val,
              s.commitAsks t c (.scanning p ⟨q.val - 1, by omega⟩)
                (.recRead (bucketOf c.entry.card) ⟨q.val - 1, by omega⟩))
            ∧ (q.val ≤ p.val + 1 → s.commitAsks t c (.shrinking p none) (.dirWrite (bucketOf c.entry.card) p.val))))
        ∧ (o = .written →
          (∀ p n, c.phase = .writing p (some n) →
            s.commitAsks t { c with written := x.written } (.writingDir p) (.dirWrite (bucketOf c.entry.card) n))
          ∧ (∀ p r, c.phase = .shrinking p (some r) →
            s.commitAsks t c (.moving p r) (.recWrite (bucketOf c.entry.card) p (.asGiven r)))
          ∧ (∀ n, c.entry = .suspend n → (∃ p, c.phase = .writing p none) → s.cardWithdrawn t n)
          ∧ (∀ n, c.entry = .revoke n → (∃ p, c.phase = .shrinking p none ∨ ∃ r, c.phase = .moving p r) → s.cardWithdrawn t n)
          ∧ (∀ p w, (c.phase = .writing p none ∧ w = x.written) ∨ (c.phase = .writingDir p ∧ w = c.written) →
            s.entryApplied t ∧ ∀ (n : CardNo) (e : CacheEntry) (r : CardRecord), s.cached n = some e → w = some r →
              (∀ st pr ex ov, c.entry = .add n st pr ex ov →
                t.cached n = some { e with record := { e.record with
                  status := r.status, profile := r.profile, expiry := r.expiry, override := r.override } })
              ∧ (c.entry = .suspend n ∨ c.entry = .resume n →
                t.cached n = some { e with record := { e.record with status := r.status } })
              ∧ (∀ u v, c.entry = .setUsage n u v → t.cached n = some { e with
                record := s.withCharges { e.record with usage := r.usage, stamp := r.stamp } }))
          ∧ (∀ n p, c.entry = .revoke n → (c.phase = .shrinking p none ∨ ∃ r, c.phase = .moving p r) →
            s.entryApplied t ∧ t.cached n = none
              ∧ (∀ r e, c.phase = .moving p r → r.card ≠ n → s.cached r.card = some e →
                t.cached r.card = some { e with position := p })
              ∧ ∀ j b q, s.resolver.job = some j → j.phase = .readCached b q →
                (j.charge.card = n ∨ ∃ r, c.phase = .moving p r ∧ j.charge.card = r.card) →
                t.resolver.job = some { j with phase := .readFreed })))

/-- BATCH_DATA of 1 to 48 bytes to an OPEN batch with an empty Inbox is answered OK ahead of its effects and fed to the
parser: only the port, the batch and the Arbiter change, the entries closed count on, the other counters but that of the
rejected entries stay, and the Inbox is empty again unless a closed entry waits. In FRAMED mode a single 0x7E is the
separator seen, also at the end of a payload; a separator and another byte start an entry, and 0x7E doubled is one byte 0x7E
of it; bytes ahead of the first entry are discarded with LEADING_DISCARD, and those behind the 24th of an entry mark it
oversize; a separator and another byte close an entry, and that byte starts the next. A payload that begins with the
separator already seen goes on from there. In PACKED mode the bytes are appended, and the 20th closes the entry. A closed
entry enters the free Commit slot, MALFORMED or with its search begun; while that slot is full it waits and the parser
pauses, with the rest of the bytes, in FRAMED mode with the byte that closed it, left in the Inbox. After the declared
number of entries every byte is discarded and marks the batch LONG. It is refused WRONG_STATE for a batch that is not OPEN,
BAD_LENGTH for another number of bytes and BUSY for bytes left in the Inbox (R157, R159 to R163).
The model's own: the order of the checks, log entry 21; the separator state after the last declared entry, log entry 35. -/
def Obligations.BatchDataFeedsTheParser : Prop :=
  ∀ (s : State) (tag : Byte) (pl : List Byte), pl.length ≤ 61 → s.offers .office (frameOf 0x13 tag pl) →
    (s.batch.state ≠ .opened → exec (.batchData .office) s = .next (s.answered1 .office 0x13 tag .wrongState []))
    ∧ (s.batch.state = .opened → (pl = [] ∨ 48 < pl.length) →
      exec (.batchData .office) s = .next (s.answered1 .office 0x13 tag .badLength []))
    ∧ (s.batch.state = .opened → 1 ≤ pl.length → pl.length ≤ 48 → s.batch.inbox ≠ [] →
      exec (.batchData .office) s = .next (s.answered1 .office 0x13 tag .busy []))
    ∧ (s.batch.state = .opened → 1 ≤ pl.length → pl.length ≤ 48 → s.batch.inbox = [] →
      let taken (b : Batch) : State :=
        { s with batch := b }.answered1 .office 0x13 tag .ok (u16 s.batch.id ++ u16 s.batch.closed)
      (∃ t, exec (.batchData .office) s = .next t ∧ t = { taken t.batch with arbiter := t.arbiter }
        ∧ t.batch = { s.batch with
            closed := t.batch.closed, rejected := t.batch.rejected, first := t.batch.first, long := t.batch.long
            leading := t.batch.leading, sepSeen := t.batch.sepSeen, started := t.batch.started, inbox := t.batch.inbox
            assembler := t.batch.assembler, commit := t.batch.commit }
        ∧ s.batch.closed ≤ t.batch.closed ∧ s.batch.rejected ≤ t.batch.rejected
        ∧ (t.batch.assembler.isWaiting = false → t.batch.inbox = []))
      ∧ (∀ bs o i, s.batch.assembler = .waiting bs o i →
        exec (.batchData .office) s = .next (taken { s.batch with inbox := pl }))
      ∧ (s.batch.closed = s.batch.declared → s.batch.assembler.isWaiting = false →
        exec (.batchData .office) s = .next (taken { s.batch with long := true }))
      ∧ (s.batch.closed ≠ s.batch.declared →
        (s.batch.packed = false →
          (s.batch.assembler.isWaiting = false → s.batch.sepSeen = false → pl = [0x7E] →
            exec (.batchData .office) s = .next (taken { s.batch with sepSeen := true }))
          ∧ (∀ (x : Byte) (bs : List Byte), s.batch.assembler = .empty → x ≠ 0x7E → bs.length ≤ 23 →
            pl = (if s.batch.sepSeen then [] else [0x7E]) ++ x :: bs.flatMap (fun b => if b = 0x7E then [b, b] else [b]) →
            exec (.batchData .office) s
              = .next (taken { s.batch with assembler := .building (x :: bs) false, started := true, sepSeen := false }))
          ∧ (s.batch.assembler.isWaiting = false → s.batch.started = false →
            (s.batch.sepSeen = false ∧ (0x7E : Byte) ∉ pl)
              ∨ (s.batch.sepSeen = true ∧ ∃ rest, pl = 0x7E :: rest ∧ (0x7E : Byte) ∉ rest) →
            exec (.batchData .office) s = .next (taken { s.batch with leading := true, sepSeen := false }))
          ∧ (∀ bs o, s.batch.started = true → s.batch.assembler = .building bs o → bs.length ≤ 24 →
            (s.batch.sepSeen = false ∧ (0x7E : Byte) ∉ pl)
              ∨ (s.batch.sepSeen = true ∧ ∃ rest, pl = 0x7E :: rest ∧ (0x7E : Byte) ∉ rest) →
            exec (.batchData .office) s = .next (taken { s.batch with
              assembler := .building ((bs ++ pl).take 24) (o || decide (24 < bs.length + pl.length)), sepSeen := false }))
          ∧ (∀ bs o x rest, s.batch.assembler = .building bs o → x ≠ 0x7E →
            pl = (if s.batch.sepSeen then [] else [0x7E]) ++ x :: rest →
            (s.batch.commit ≠ none → exec (.batchData .office) s = .next (taken { s.batch with
              closed := s.batch.closed + 1, assembler := .waiting bs o (s.batch.closed + 1), inbox := x :: rest
              sepSeen := true }))
            ∧ (∀ b, s.batch.commit = none → rest = [] → b = { s.batch with
                closed := s.batch.closed + 1
                assembler := if s.batch.closed + 1 = s.batch.declared then .empty else .building [x] false
                started := s.batch.started || decide (s.batch.closed + 1 ≠ s.batch.declared)
                sepSeen := false
                long := s.batch.long || decide (s.batch.closed + 1 = s.batch.declared) } →
              (entryAt false o bs = none → exec (.batchData .office) s = .next (taken { b with
                rejected := s.batch.rejected + 1, first := some (s.batch.first.getD (s.batch.closed + 1, .malformed)) }))
              ∧ (∀ e, entryAt false o bs = some e → ∃ t, exec (.batchData .office) s = .next t
                ∧ t.batch = { b with
                    commit := some { entry := e, index := s.batch.closed + 1, phase := .searching { card := e.card } } }
                ∧ t.beginsWork .batch (.dirRead (bucketOf e.card))
                ∧ t = { taken t.batch with arbiter := t.arbiter }))))
        ∧ (s.batch.packed = true → ∀ bs, s.batch.assembler = .building bs false ∨ (s.batch.assembler = .empty ∧ bs = []) →
          (bs.length + pl.length < 20 → exec (.batchData .office) s
            = .next (taken { s.batch with assembler := .building (bs ++ pl) false, started := true }))
          ∧ ∀ p1 p2, pl = p1 ++ p2 → p1 ≠ [] → bs.length + p1.length = 20 →
            (s.batch.commit ≠ none → exec (.batchData .office) s = .next (taken { s.batch with
              closed := s.batch.closed + 1, assembler := .waiting (bs ++ p1) false (s.batch.closed + 1), started := true
              inbox := p2 }))
            ∧ (∀ b, s.batch.commit = none → p2.length < 20 → b = { s.batch with
                closed := s.batch.closed + 1, started := true
                assembler := if p2 = [] ∨ s.batch.closed + 1 = s.batch.declared then .empty else .building p2 false
                long := s.batch.long || decide (p2 ≠ [] ∧ s.batch.closed + 1 = s.batch.declared) } →
              (entryAt true false (bs ++ p1) = none → exec (.batchData .office) s = .next (taken { b with
                rejected := s.batch.rejected + 1, first := some (s.batch.first.getD (s.batch.closed + 1, .malformed)) }))
              ∧ (∀ e, entryAt true false (bs ++ p1) = some e → ∃ t, exec (.batchData .office) s = .next t
                ∧ t.batch = { b with
                    commit := some { entry := e, index := s.batch.closed + 1, phase := .searching { card := e.card } } }
                ∧ t.beginsWork .batch (.dirRead (bucketOf e.card))
                ∧ t = { taken t.batch with arbiter := t.arbiter })))))

/-! ## Card store and Card Resolver (chapters 4 and 5) -/

/-- The bucket of a card number: each of its 11 bits is the exclusive or of the bits of the number 0, 11 and 22 places above
(R60). A card record read back is the record written: 16 bytes with a good check, and read in the bucket of its card they
give every field back, in another none; with one byte changed the check fails (R61, R63, R189). The search of a bucket reads
the positions below the occupancy in ascending order up to the card's record: FOUND there; ABSENT where all are good and
none holds the card; DAMAGED where an item read is damaged and none holds the card (R67). -/
def Obligations.CardRecordsRoundTrip : Prop :=
  (∀ (n : CardNo) (i : Nat), i < 11 →
    (bucketOf n).getLsbD i = ((n.getLsbD i ^^ n.getLsbD (i + 11)) ^^ n.getLsbD (i + 22)))
  ∧ (∀ (n : CardNo) (items : Position → Option CardRecord) (c : Nat), c ≤ 16 →
    ({ card := n : Search }).step (.directory none) = .ended (.damaged 0 none)
    ∧ (∀ p r, p.val < c → items p = some r → r.card = n → (∀ q < p, ∀ x, items q = some x → x.card ≠ n) →
      searchRun items 16 (({ card := n : Search }).step (.directory (some c))) = some (.found r p c))
    ∧ ((∀ p, p.val < c → ∃ r, items p = some r ∧ r.card ≠ n) →
      searchRun items 16 (({ card := n : Search }).step (.directory (some c))) = some (.absent c))
    ∧ (∀ p, p.val < c → items p = none → (∀ q < p, items q ≠ none) → (∀ q r, q.val < c → items q = some r → r.card ≠ n) →
      searchRun items 16 (({ card := n : Search }).step (.directory (some c))) = some (.damaged c (some p))))
  ∧ ∀ r : CardRecord, r.inRange →
    (encRecord r).length = 16 ∧ checkGood (encRecord r) = true ∧ recordAt (bucketOf r.card) (encRecord r) = some r
      ∧ (∀ b, b ≠ bucketOf r.card → recordAt b (encRecord r) = none)
      ∧ ∀ (i : Nat) (v : Byte), i < 16 → (encRecord r).getD i 0 ≠ v → checkGood ((encRecord r).set i v) = false

/-- A write that completes puts its item down whole, a read leaves the memory; what a memory that was altered answers is
what it holds from then on (log entry 16) (R63 to R65). A transaction that ends TIMEOUT, 5 ms after its start, or BUS_ERROR
takes the store to FAULTED: no header copy, nothing in flight or waiting at the Arbiter, no charge, lookup or refill left,
no batch; the item of a write was written, was not, or was cut off and fails its check, and no other byte of the memory
changes. The alert STORE_FAULT names the failure and the transaction, and STORE_STATE tells OFFICE of the fault (R64, R66,
R70, R84, R94, R170, R171).
The fate of a write is an operand of the command, log entry 30; the moment at which an expiry is taken, log entry 10; the
alert ahead of the notice, and the fields of a header write in it, log entry 25. -/
def Obligations.TransactionsCompleteOrFaultTheStore : Prop :=
  ∀ (s : State) (x : Transaction), s.arbiter.inFlight = some x →
    (x.op.isWrite = true → ∃ t, exec (.transactionComplete .held) s = .next t
      ∧ t.store.mem = s.store.mem.writeBytes x.op.address x.bytes)
    ∧ (x.op.isWrite = false → ∃ t, exec (.transactionComplete .held) s = .next t ∧ t.store.mem = s.store.mem)
    ∧ (∀ bs, x.op.isWrite = false → bs.length = x.op.size → ∃ t, exec (.transactionComplete (.bytes bs)) s = .next t
      ∧ t.store.mem = s.store.mem.writeBytes x.op.address bs)
    ∧ (∀ (fate : WriteFate) (i : Instr),
      i = .transactionTimeout fate ∨ i = .transactionComplete (.busError fate) →
      ∃ t, exec i s = .next t
        ∧ t.store.state = .faulted ∧ t.store.header = none ∧ t.store.format = none
        ∧ t.arbiter = {}
        ∧ t.resolver.charges = [] ∧ t.resolver.job = none ∧ t.resolver.lookups = [] ∧ t.resolver.refill = none
        ∧ t.batch.state = .none
        ∧ s.alerted t (.storeFault (if i = .transactionTimeout fate then .timeout else .busError) x.op.named.1 x.requester
            x.op.named.2.1 x.op.named.2.2)
        ∧ (s.run = .running → s.posted t .office 0xC2 (u8 4 ++ u8 s.store.state.code ++ u8 0))
        ∧ t.now = (if i = .transactionTimeout fate then max s.now (x.start + 5) else s.now)
        ∧ (∀ a, s.memCanonical → a < x.op.address ∨ x.op.address + x.op.size ≤ a →
          t.store.mem.read a = s.store.mem.read a)
        ∧ (x.op.isWrite = false ∨ fate = .unwritten → t.store.mem = s.store.mem)
        ∧ (x.op.isWrite = true → fate = .written → t.store.mem = s.store.mem.writeBytes x.op.address x.bytes)
        ∧ (s.memCanonical → x.op.isWrite = true → fate = .cutOff →
          checkGood (t.store.mem.readBytes x.op.address x.op.size) = false))

/-- The header read of start-up sets the first store state by the eight bytes at address 0, or ABSENT where the memory gives
none, and START goes to all three ports (R62, R68, R185). What a memory that was altered answers is what it holds from then
on.
The model's own: an altered memory and an answer of another length, log entry 16; the moment at which an expiry is taken,
log entry 10. -/
def Obligations.StartUpReadsTheHeader : Prop :=
  ∀ (s : State) (at0 : Nat) (fate : WriteFate), s.store.headerRead = some (.startUp, at0) →
    exec (.headerReadComplete .held) s = .next
      (let bs := s.store.mem.readBytes 0 8
       let st := if headerValid bs then StoreState.online else .unformatted
       let p := u8 s.resetKind.code ++ flag s.clock.valid ++ u8 st.code
       (((({ s with
          run := .running
          store := { s.store with
            state := st, header := if headerValid bs then some (headerAt bs) else none, headerRead := none } }).notify
          .office 0xC0 p).notify .crew 0xC0 p).notify .service 0xC0 p))
    ∧ exec (.headerReadComplete (.busError fate)) s = .next
      (let p := u8 s.resetKind.code ++ flag s.clock.valid ++ u8 0
       (((({ s with
          run := .running
          store := { s.store with state := .absent, header := none, headerRead := none } }).notify
          .office 0xC0 p).notify .crew 0xC0 p).notify .service 0xC0 p))
    ∧ (∀ bs : List Byte, ∃ t, exec (.headerReadComplete (.bytes bs)) s = .next t ∧ t.run = .running
      ∧ (bs.length = 8 → t.store = { s.store with
          mem := s.store.mem.writeBytes 0 bs
          state := if headerValid bs then .online else .unformatted
          header := if headerValid bs then some (headerAt bs) else none, headerRead := none })
      ∧ (bs.length ≠ 8 → t.store = { s.store with state := .absent, header := none, headerRead := none })
      ∧ t.ports = ((({ s with run := .running }.notify .office 0xC0
          (u8 s.resetKind.code ++ flag s.clock.valid ++ u8 t.store.state.code)).notify .crew 0xC0
          (u8 s.resetKind.code ++ flag s.clock.valid ++ u8 t.store.state.code)).notify .service 0xC0
          (u8 s.resetKind.code ++ flag s.clock.valid ++ u8 t.store.state.code)).ports
      ∧ t = { s with run := t.run, store := t.store, ports := t.ports })
    ∧ (s.arbiter.inFlight = none → ∃ t, exec (.transactionTimeout fate) s = .next t ∧ t.run = .running
      ∧ t.store = { s.store with state := .absent, header := none, headerRead := none }
      ∧ t.now = max s.now (at0 + 5))

/-- STORE_ATTACH outside ONLINE and FORMATTING reads the header again; its response comes when the read completes, with the
state that the bytes give, which the store then has. STORE_FORMAT begins where no work stands in the way: FORMATTING, the
cache empty, the first write of the format in flight (R68, R72 to R74). Each write that completes asks for the next: the
header cleared, an empty directory entry for each bucket, the valid header; behind the last the store is ONLINE.
The model's own: the response of STORE_ATTACH behind STORE_STATE and what else its effects post, log entry 18. -/
def Obligations.StoresAreAttachedAndFormatted : Prop :=
  ∀ (s : State) (tag : Byte),
    (s.offers .office (frameOf 0x18 tag []) →
      (s.store.state = .online → exec (.storeAttach .office) s = .next (s.answered1 .office 0x18 tag .wrongState []))
      ∧ (s.store.state = .formatting → exec (.storeAttach .office) s = .next (s.answered1 .office 0x18 tag .busy []))
      ∧ (s.store.state ≠ .online → s.store.state ≠ .formatting → exec (.storeAttach .office) s = .next
        { s.setPort .office { s.port .office with
            requests := (s.port .office).requests.drop 1, inProgress := some (0x18, tag) } with
          store := { s.store with headerRead := some (.attach, s.now) } }))
    ∧ (∀ at0 x, s.store.headerRead = some (.attach, at0) → (s.port .office).inProgress = some x →
      ∃ t before, exec (.headerReadComplete .held) s = .next t ∧ (∀ f ∈ before, f.isNotice = true)
        ∧ t.store.headerRead = none
        ∧ (headerValid (s.store.mem.readBytes 0 8) = true → t.store.state = .online
          ∧ t.store.header = some (headerAt (s.store.mem.readBytes 0 8)))
        ∧ (headerValid (s.store.mem.readBytes 0 8) = false → t.store.state = .unformatted ∧ t.store.header = none)
        ∧ t.store.mem = s.store.mem ∧ (t.port .office).inProgress = none
        ∧ (t.port .office).outbox = (s.port .office).outbox ++ before
          ++ [.response x.1 x.2 0 (s.port .office).overrun (u8 t.store.state.code ++ encHeaderCopy t.store.header)])
    ∧ (s.offers .office (frameOf 0x19 tag []) →
      (s.store.state = .absent ∨ s.store.state = .faulted →
        exec (.storeFormat .office) s = .next (s.answered1 .office 0x19 tag .storeOffline []))
      ∧ (s.store.state = .formatting ∨ (s.store.state = .online ∨ s.store.state = .unformatted) ∧ s.formatBusy = true →
        exec (.storeFormat .office) s = .next (s.answered1 .office 0x19 tag .busy []))
      ∧ (s.store.state = .online ∨ s.store.state = .unformatted → s.formatBusy = false → s.arbiter.inFlight = none →
        ∃ t, exec (.storeFormat .office) s = .next t ∧ s.answeredFirst t .office 0x19 tag .accepted []
          ∧ t.store = { s.store with state := .formatting, header := none, format := some 0 }
          ∧ t.arbiter.inFlight
            = some { requester := .batch, op := .headerWrite false, written := none, start := s.now }
          ∧ t.resolver = { s.resolver with sets := Vector.replicate 32 {} }
          ∧ t = { s with ports := t.ports, store := t.store, arbiter := t.arbiter, resolver := t.resolver }))
    ∧ (∀ (x : Transaction) (n : Nat), s.arbiter.inFlight = some x → x.requester = .batch → x.op.isWrite = true →
      s.store.format = some n → s.store.state = .formatting → ∃ t, exec (.transactionComplete .held) s = .next t
        ∧ (n < 2048 → t.asksFor .batch (.dirWrite (BitVec.ofNat 11 n) 0))
        ∧ (n = 2048 → t.asksFor .batch (.headerWrite true))
        ∧ (n < 2049 → t.store = { s.store with mem := s.store.mem.writeBytes x.op.address x.bytes, format := some (n + 1) })
        ∧ (n = 2049 → t.store = { s.store with
              mem := s.store.mem.writeBytes x.op.address x.bytes, state := .online
              header := some (headerAt (encHeader true)), format := none }
            ∧ t.resolver.sets = Vector.replicate 32 {} ∧ (s.run = .running → s.posted t .office 0xC2 [3, 2, 3])))

/-- CARD_QUERY at OFFICE or SERVICE is ACCEPTED and then answered by CARD_RESULT: STORE_OFFLINE at once for an uncached card
without an ONLINE store, FOUND at once from the cache; an uncached card whose bucket is free starts a refill. The number that
denotes no card is refused BAD_FIELD, a second query BUSY (R80, R81, R84, R86). CACHE_CONTROL: FROZEN and NORMAL set the mode,
FLUSH empties the cache unless a refill is in flight, and the response carries the mode as it then stands; another action is
refused BAD_FIELD (R87).
The model's own: the row of another action, log entry 9; the CARD_RESULT without a record, log entry 19. -/
def Obligations.CardQueriesAndCacheControl : Prop :=
  ∀ (s : State) (tag : Byte),
    (∀ (p : Port) (n : CardNo), p ≠ .crew → s.offers p (frameOf 0x16 tag (u32 n.toNat)) →
      (n = noCard → exec (.cardQuery p) s = .next (s.answered1 p 0x16 tag .badField []))
      ∧ (n ≠ noCard → s.resolver.queryPort ≠ none → exec (.cardQuery p) s = .next (s.answered1 p 0x16 tag .busy []))
      ∧ (n ≠ noCard → s.resolver.queryPort = none → s.cached n = none → s.store.state ≠ .online →
        exec (.cardQuery p) s = .next ((s.answered1 p 0x16 tag .accepted []).notify p 0xC5
          (u32 n.toNat ++ u8 3 ++ [0, 0, 0, 0, 0, 0, 0, 0] ++ [0, 0, 0, 0, 0, 0])))
      ∧ (∀ e, n ≠ noCard → s.resolver.queryPort = none → s.cached n = some e → s.store.state = .online →
        s.busyBucket ≠ some (bucketOf n) → ∃ t, exec (.cardQuery p) s = .next t
          ∧ t.ports = ((s.answered1 p 0x16 tag .accepted []).notify p 0xC5
            (u32 n.toNat ++ u8 0 ++ u8 e.record.status.code ++ u8 e.record.profile.val ++ u16 e.record.usage
              ++ u16 e.record.stamp ++ optional u16 e.record.expiry ++ optional u16 e.record.override
              ++ u16 e.bucket.toNat ++ u8 e.position.val ++ u8 0
              ++ u16 (if e.record.stamp = s.clock.period then e.record.usage else 0))).ports
          ∧ t.cached n = some e ∧ t.resolver = { s.resolver with sets := t.resolver.sets }
          ∧ t = { s with ports := t.ports, resolver := t.resolver })
      ∧ (n ≠ noCard → s.resolver.queryPort = none → s.cached n = none → s.store.state = .online →
        s.busyBucket ≠ some (bucketOf n) → s.resolver.lookups = [] → s.resolver.refill = none →
        ∃ t, exec (.cardQuery p) s = .next t ∧ t.ports = (s.answered1 p 0x16 tag .accepted []).ports
          ∧ t.resolver = { s.resolver with
              queryPort := some p, lookups := [⟨.cardQuery, n⟩], refill := some ⟨some .cardQuery, { card := n }⟩ }
          ∧ t = { s with ports := t.ports, resolver := t.resolver, arbiter := t.arbiter }))
    ∧ (s.offers .office (frameOf 0x17 tag [0]) → exec (.cacheNormal .office) s = .next
      (({ s with resolver := { s.resolver with frozen := false } }).answered1 .office 0x17 tag .ok (flag false)))
    ∧ (s.offers .office (frameOf 0x17 tag [1]) → exec (.cacheFrozen .office) s = .next
      (({ s with resolver := { s.resolver with frozen := true } }).answered1 .office 0x17 tag .ok (flag true)))
    ∧ (s.offers .office (frameOf 0x17 tag [2]) →
      (s.resolver.refill = none → exec (.cacheFlush .office) s = .next
        (({ s with resolver := { s.resolver with sets := Vector.replicate 32 {} } }).answered1 .office 0x17 tag .ok
          (flag s.resolver.frozen)))
      ∧ (s.resolver.refill ≠ none → exec (.cacheFlush .office) s = .next (s.answered1 .office 0x17 tag .busy [])))
    ∧ (∀ a : Byte, 3 ≤ a.toNat → s.offers .office (frameOf 0x17 tag [a]) →
      exec (.cacheNormal .office) s = .next (s.answered1 .office 0x17 tag .badField []))

/-! ## Crew sessions and lifts (chapter 9) -/

/-- CREW_OPEN is ACCEPTED while no session, opening or visit stands and the log has a place, and then decided by the card: a
cached ACTIVE crew card opens the session and its visit, starts the link timer and posts CREW_READY OK with the manifest,
the slots in demand of the truck's fraction in queue order and then the others; any other cached card is NOT_PERMITTED;
without an ONLINE store an uncached one is STORE_OFFLINE; with one its refill begins. A hit points the age marks at its way.
A fraction code above 5 is refused BAD_FIELD (R79 to R81, R137 to R141, R172). A refill goes on as its transactions
complete; when its search ends, mode NORMAL fills the record found, with the charges on their way added, into the lowest
invalid way or else the one that the age marks do not point at, and the outcome goes to the requester: CARD_RESULT, the
decision of the intake, or the decision of the opening (R67, R79, R82, R83, R86, R103, R140).
The model's own: the CREW_READY of a refused opening and the CARD_RESULT without a record, log entry 19. -/
def Obligations.CrewOpenDecidesTheOpening : Prop :=
  (∀ (s : State) (tag : Byte) (truck : Nat) (n : CardNo), truck < 65536 →
    (∀ code, 6 ≤ code → code < 256 → s.offers .crew (frameOf 0x20 tag (u16 truck ++ u32 n.toNat ++ u8 code)) →
      exec (.crewOpen .crew) s = .next ((s.restartLink .crew).answered1 .crew 0x20 tag .badField []))
    ∧ ∀ f : Fraction, s.offers .crew (frameOf 0x20 tag (u16 truck ++ u32 n.toNat ++ u8 f.code)) →
    (n = noCard → exec (.crewOpen .crew) s = .next ((s.restartLink .crew).answered1 .crew 0x20 tag .badField []))
    ∧ (n ≠ noCard → (s.lift.session ≠ none ∨ s.lift.opening ≠ none ∨ s.lift.visit ≠ none) →
      exec (.crewOpen .crew) s = .next ((s.restartLink .crew).answered1 .crew 0x20 tag .busy []))
    ∧ (n ≠ noCard → s.lift.session = none → s.lift.opening = none → s.lift.visit = none →
      (s.logFree ≤ s.chargedSessions + s.inPreparation →
        exec (.crewOpen .crew) s = .next (s.answered1 .crew 0x20 tag .logFull []))
      ∧ (s.chargedSessions + s.inPreparation < s.logFree →
        (s.cached n = none → s.store.state ≠ .online → exec (.crewOpen .crew) s = .next
          ((s.answered1 .crew 0x20 tag .accepted []).notify .crew 0xC8 (u8 9 ++ u16 truck ++ u8 0 ++ u8 0)))
        ∧ (s.cached n = none → s.store.state = .online → s.busyBucket ≠ some (bucketOf n) → s.resolver.lookups = [] →
          s.resolver.refill = none → ∃ t, exec (.crewOpen .crew) s = .next t
            ∧ t.lift = { s.lift with opening := some ⟨truck, n, f⟩ }
            ∧ t.resolver = { s.resolver with
                lookups := [⟨.crewOpen, n⟩], refill := some ⟨some .crewOpen, { card := n }⟩ }
            ∧ t = { s.answered1 .crew 0x20 tag .accepted [] with
                lift := t.lift, resolver := t.resolver, arbiter := t.arbiter })
        ∧ (∀ e w, s.cached n = some e → (s.cacheSet n).find n = some w →
          (s.store.state = .online → s.busyBucket ≠ some (bucketOf n)) →
          ∃ t, exec (.crewOpen .crew) s = .next t ∧ s.answeredFirst t .crew 0x20 tag .accepted []
            ∧ t.resolver = { s.resolver with sets := s.resolver.sets.set (setOf n) ((s.cacheSet n).pointedAt w) }
            ∧ (e.record.status = .active → (s.profiles[e.record.profile]).kind = .crew →
              t.lift = { s.lift with
                session := some { truck := truck, card := n, fraction := f, openTime := s.stamp }
                visit := some { truck := truck, card := n, openTime := s.stamp }
                linkDeadline := some (s.now + 1000 * s.config.linkTimeout) }
              ∧ ∀ xs : List (Slot × Bool), xs
                  = ((t.demand.filter fun d => (t.slot d.slot).record.fraction = f).map fun d => (d.slot, true))
                    ++ ((List.finRange 8).filter fun k => (t.slot k).configured = true ∧ (t.slot k).record.fraction = f
                      ∧ t.demandOf k = none).map (fun k => (k, false)) →
                s.posted t .crew 0xC8 (u8 0 ++ u16 truck ++ u8 f.code ++ u8 xs.length ++ xs.flatMap fun x =>
                  encSlot x.1 ++ u16 (t.slot x.1).fill.f ++ u8 (t.slot x.1).fill.hf ++ encBars (t.slot x.1).bars ++ flag x.2))
            ∧ (e.record.status = .suspended ∨ (s.profiles[e.record.profile]).kind = .resident → t.lift = s.lift
              ∧ t.port .crew = ((s.answered1 .crew 0x20 tag .accepted []).notify .crew 0xC8
                  (u8 3 ++ u16 truck ++ u8 0 ++ u8 0)).port .crew)
            ∧ t.demand = s.demand
            ∧ ∀ k, t.slot k = { s.slot k with
                bars := { (s.slot k).bars with log := (t.slot k).bars.log }, intake := (t.slot k).intake }))))
  ∧ ∀ (s : State) (x : Transaction) (r : Refill) (o : Handed), s.run = .running → s.arbiter.inFlight = some x →
    x.requester = .refill → s.resolver.refill = some r → o = x.op.handed (s.store.mem.readBytes x.op.address x.op.size) →
    ∃ t, exec (.transactionComplete .held) s = .next t
      ∧ (∀ q p, r.search.step o = .read q p →
        t.resolver = { s.resolver with refill := some { r with search := q } }
          ∧ t.asksFor .refill (.recRead (bucketOf r.search.card) p))
      ∧ ∀ e out, r.search.step o = .ended e → (∀ l ∈ s.resolver.lookups, some l.requester = r.requester) →
        (match e with
          | .found y p _ => out = .found ⟨s.withCharges y, bucketOf r.search.card, p⟩ true
          | .absent _ => out = .absent
          | .damaged _ _ => out = .damaged) →
        t.resolver.lookups = [] ∧ t.resolver.refill = none
        ∧ (s.arbiter.refill.waiting = none → t.arbiter.refill.held = none)
        ∧ (match out with
          | .found y _ => if s.resolver.frozen then t.resolver.sets = s.resolver.sets else
              ∃ w, (s.cacheSet r.search.card).isVictim w ∧ t.resolver.sets = s.resolver.sets.set (setOf r.search.card)
                ({ s.cacheSet r.search.card with
                  ways := (s.cacheSet r.search.card).ways.set w (some y) }.pointedAt w)
          | .absent | .damaged | .storeOffline _ => t.resolver.sets = s.resolver.sets)
        ∧ (∀ p, r.requester = some .cardQuery → s.resolver.queryPort = some p → t.resolver.queryPort = none
          ∧ s.posted t p 0xC5 (cardResultPayload s.clock.period r.search.card out))
        ∧ (∀ k, r.requester = some (.intake k) → (s.slot k).intake.state = .verifying r.search.card → out ≠ .damaged →
          (∀ a limit, s.decision k out = .grant a limit → (t.slot k).locks.drumReleased = true
            ∧ (t.slot k).intake.state = .opened {
                card := r.search.card, admission := a, charged := (s.slot k).record.charged, limit := limit
                startTime := s.stamp })
          ∧ (∀ d, s.decision k out = .deny d → (t.slot k).intake.state = restState (t.slot k).bars
            ∧ (t.slot k).locks.drumReleased = (s.slot k).locks.drumReleased))
        ∧ (∀ y, r.requester = some .crewOpen → s.lift.opening = some y →
          (∀ c b, out = .found c b → c.record.status = .active → (s.profiles[c.record.profile]).kind = .crew →
            t.lift = { s.lift with
              opening := none
              session := some { truck := y.truck, card := y.card, fraction := y.fraction, openTime := s.stamp }
              visit := some { truck := y.truck, card := y.card, openTime := s.stamp }
              linkDeadline := some (s.now + 1000 * s.config.linkTimeout) })
          ∧ ((∀ c b, out = .found c b → c.record.status = .suspended ∨ (s.profiles[c.record.profile]).kind = .resident) →
            t.lift = { s.lift with opening := none } ∧ s.posted t .crew 0xC8 (u8 3 ++ u16 y.truck ++ u8 0 ++ u8 0)))
        ∧ (r.requester = none → t.lift = s.lift ∧ ∀ k, (t.slot k).locks = (s.slot k).locks)

/-- CREW_CLOSE and PRESENT: NO_SESSION without a session. PRESENT changes nothing but the link timer. CREW_CLOSE completes
the visit at once where no custody of the session stands; waits for the lift's record in RETURNED and CLOSING; is refused
while the container is raised (R141, R151, R155). Where the released lift can not be measured, under FLOOD or with the
platform off, the lift and with it the visit end within the request (R149, R150).
The model's own: the order of its effects, log entry 23; the response ahead of the notices, log entry 18; the form of its
payload, log entry 19; the platform off, log entry 31. -/
def Obligations.CrewCloseCompletesTheVisit : Prop :=
  ∀ (s : State) (tag : Byte),
    (s.offers .crew (frameOf 0x24 tag []) → exec (.present .crew) s = .next
      ((s.restartLink .crew).answered1 .crew 0x24 tag (if s.lift.session.isSome then .ok else .noSession) []))
    ∧ (s.offers .crew (frameOf 0x21 tag []) →
      (s.lift.session = none → exec (.crewClose .crew) s = .next (s.answered1 .crew 0x21 tag .noSession []))
      ∧ ∀ c, s.lift.session = some c →
        (c.closePending = true → exec (.crewClose .crew) s = .next (s.answered1 .crew 0x21 tag .wrongState []))
        ∧ (c.closePending = false →
          (s.lift.custody.orphaned = false → s.lift.custody.state = .raised →
            exec (.crewClose .crew) s = .next ((s.restartLink .crew).answered1 .crew 0x21 tag .containerOut []))
          ∧ (s.lift.custody.orphaned = false → s.lift.custody.state = .closing →
            exec (.crewClose .crew) s = .next
              (({ s with lift := { s.lift with
                  session := some { c with closePending := true }, linkDeadline := none } }).answered1
                .crew 0x21 tag .ok (flag false)))
          ∧ (∀ v, s.lift.visit = some v → (s.lift.custody.orphaned = true ∨ s.lift.custody.state = .none) →
            ∃ t, exec (.crewClose .crew) s = .next t ∧ s.answeredFirst t .crew 0x21 tag .ok (flag true)
              ∧ t.lift = { s.lift with session := none, visit := none, linkDeadline := none }
              ∧ t.log.records = s.log.records ++ [⟨s.log.seq, .visit v s.stamp⟩]
              ∧ t.log.seq = (s.log.seq + 1) % 65536
              ∧ (∀ k, t.slot k = { s.slot k with
                  bars := { (s.slot k).bars with log := (t.slot k).bars.log }, intake := (t.slot k).intake })
              ∧ t = { s with ports := t.ports, lift := t.lift, log := t.log, slots := t.slots })
          ∧ (∀ v, s.lift.visit = some v → s.lift.custody.orphaned = false →
            (s.lift.custody.state = .waiting ∨ s.lift.custody.state = .granted) →
            ∃ t, exec (.crewClose .crew) s = .next t ∧ s.answeredFirst t .crew 0x21 tag .ok (flag true)
              ∧ t.lift = { opening := s.lift.opening }
              ∧ (t.slot s.lift.custody.slot).locks.hatchReleased = false
              ∧ ((s.slot s.lift.custody.slot).configured = true → (t.slot s.lift.custody.slot).bars.lift = false)
              ∧ t.log.records = s.log.records ++ [⟨s.log.seq, .visit v s.stamp⟩])
          ∧ (s.lift.custody.orphaned = false → s.lift.custody.state = .returned →
            (s.slot s.lift.custody.slot).configured = true →
            ∃ t, exec (.crewClose .crew) s = .next t ∧ s.answeredFirst t .crew 0x21 tag .ok (flag false)
              ∧ ((s.slot s.lift.custody.slot).bars.flood = false →
                (s.slot s.lift.custody.slot).accepted .platform = true →
                t.lift.session = some { c with closePending := true } ∧ t.lift.linkDeadline = none
                  ∧ s.custodyCloses t s.lift.custody.slot)
              ∧ ((s.slot s.lift.custody.slot).bars.flood = true ∨ (s.slot s.lift.custody.slot).accepted .platform = false →
                { s with lift := { s.lift with
                    session := some { c with closePending := true }, linkDeadline := none
                    custody := { s.lift.custody with state := .closing, deadline := none } } }.liftEnded t
                  s.lift.custody.slot none))))

/-- CUSTODY at a configured slot of the session's fraction that passes every check is ACCEPTED: the record names slot, truck
and card, LIFT is set, and custody is GRANTED at once with HATCH_LOCK released where the intake is quiet, or else WAITING. The
refusals of the checks in their order, a slot number above 7 BAD_FIELD as an UNCONFIGURED slot is (R143, R144). -/
def Obligations.CustodyIsGrantedOrWaits : Prop :=
  (∀ (s : State) (tag : Byte) (n : Nat), 8 ≤ n → n < 256 → s.offers .crew (frameOf 0x22 tag (u8 n)) →
    exec (.custody .crew) s = .next ((s.restartLink .crew).answered1 .crew 0x22 tag
      (if s.lift.session.isSome then .badField else .noSession) []))
  ∧ ∀ (s : State) (tag : Byte) (k : Slot), s.offers .crew (frameOf 0x22 tag (encSlot k)) →
    (s.lift.session = none → exec (.custody .crew) s = .next (s.answered1 .crew 0x22 tag .noSession []))
    ∧ ∀ c, s.lift.session = some c →
      ((s.slot k).configured = false →
        exec (.custody .crew) s = .next ((s.restartLink .crew).answered1 .crew 0x22 tag .badField []))
      ∧ ((s.slot k).configured = true →
        ((s.slot k).record.fraction ≠ c.fraction →
          exec (.custody .crew) s = .next ((s.restartLink .crew).answered1 .crew 0x22 tag .wrongFraction []))
        ∧ (∀ v, (s.slot k).record.fraction = c.fraction → s.lift.visit = some v → k ∈ v.lifted →
          exec (.custody .crew) s = .next ((s.restartLink .crew).answered1 .crew 0x22 tag .alreadyLifted []))
        ∧ ((s.slot k).record.fraction = c.fraction → (∀ v, s.lift.visit = some v → k ∉ v.lifted) →
          ((s.slot k).bars.service = true →
            exec (.custody .crew) s = .next ((s.restartLink .crew).answered1 .crew 0x22 tag .serviceHold []))
          ∧ ((s.slot k).bars.service = false → (s.slot k).bars.out = true →
            exec (.custody .crew) s = .next ((s.restartLink .crew).answered1 .crew 0x22 tag .containerOut []))
          ∧ ((s.slot k).bars.service = false → (s.slot k).bars.out = false → s.lift.custody.state ≠ .none →
            exec (.custody .crew) s = .next ((s.restartLink .crew).answered1 .crew 0x22 tag .busy []))
          ∧ ((s.slot k).bars.service = false → (s.slot k).bars.out = false → s.lift.custody.state = .none →
            s.logFree ≤ s.chargedSessions + s.inPreparation →
            exec (.custody .crew) s = .next ((s.restartLink .crew).answered1 .crew 0x22 tag .logFull []))
          ∧ ((s.slot k).bars.service = false → (s.slot k).bars.out = false → s.lift.custody.state = .none →
            s.chargedSessions + s.inPreparation < s.logFree →
            ∃ t, exec (.custody .crew) s = .next t ∧ s.answeredFirst t .crew 0x22 tag .accepted []
              ∧ (t.slot k).bars.lift = true ∧ (t.slot k).locks.drumReleased = (s.slot k).locks.drumReleased
              ∧ t.lift.session = s.lift.session ∧ t.lift.visit = s.lift.visit
              ∧ ((s.slot k).intake.state.busy = true → (t.slot k).locks = (s.slot k).locks
                ∧ t.lift.custody = { state := .waiting, slot := k, truck := c.truck, card := c.card
                                     deadline := some (s.now + 1000 * s.config.custodyWait) })
              ∧ ((s.slot k).intake.state.busy = false → (t.slot k).locks.hatchReleased = true
                ∧ t.lift.custody = { state := .granted, slot := k, truck := c.truck, card := c.card
                                     preFill := (s.slot k).fill.f, grantTime := s.stamp
                                     deadline := some (s.now + 1000 * s.config.raiseTimeout) })
              ∧ (∀ j, j ≠ k → t.slot j = { s.slot j with
                  bars := { (s.slot j).bars with log := (t.slot j).bars.log }, intake := (t.slot j).intake })
              ∧ t = { s with ports := t.ports, lift := t.lift, slots := t.slots })))

/-- CUSTODY_RELEASE by the custody state: WAITING and GRANTED end with the hatch closed and LIFT cleared, RETURNED goes to
CLOSING with a LIFT-class burst asked for, or ends at once under FLOOD or with the platform off, RAISED is refused
CONTAINER_OUT, and any other slot or state, a number above 7, or ORPHANED custody, WRONG_STATE (R149, R150).
The model's own: a slot number above 7, log entry 21; the response ahead of its effects, log entry 18; the platform off, log
entry 31. -/
def Obligations.CustodyReleaseFollowsTheState : Prop :=
  (∀ (s : State) (tag : Byte) (n : Nat), 8 ≤ n → n < 256 → s.offers .crew (frameOf 0x23 tag (u8 n)) →
    exec (.custodyRelease .crew) s = .next ((s.restartLink .crew).answered1 .crew 0x23 tag
      (if s.lift.session.isSome then .wrongState else .noSession) []))
  ∧ ∀ (s : State) (tag : Byte) (k : Slot), s.offers .crew (frameOf 0x23 tag (encSlot k)) →
    (s.lift.session = none → exec (.custodyRelease .crew) s = .next (s.answered1 .crew 0x23 tag .noSession []))
    ∧ (s.lift.session ≠ none →
      (s.lift.custody.orphaned = true ∨ s.custodyOn k = .none ∨ s.custodyOn k = .closing →
        exec (.custodyRelease .crew) s = .next ((s.restartLink .crew).answered1 .crew 0x23 tag .wrongState []))
      ∧ (s.lift.custody.orphaned = false →
        (s.custodyOn k = .raised →
          exec (.custodyRelease .crew) s = .next ((s.restartLink .crew).answered1 .crew 0x23 tag .containerOut []))
        ∧ (s.custodyOn k = .waiting ∨ s.custodyOn k = .granted → (s.slot k).configured = true →
          ∃ t, exec (.custodyRelease .crew) s = .next t ∧ s.answeredFirst t .crew 0x23 tag .ok (u8 0)
            ∧ t.lift.custody = {} ∧ (t.slot k).bars.lift = false ∧ (t.slot k).locks.hatchReleased = false
            ∧ (t.slot k).locks.drumReleased = (s.slot k).locks.drumReleased
            ∧ (t.slot k).track = { (s.slot k).track with tipStart := none }
            ∧ t = { s with ports := t.ports, lift := t.lift, slots := t.slots })
        ∧ (s.custodyOn k = .returned → (s.slot k).configured = true →
          ∃ t, exec (.custodyRelease .crew) s = .next t ∧ s.answeredFirst t .crew 0x23 tag .ok (u8 5)
            ∧ ((s.slot k).bars.flood = false → (s.slot k).accepted .platform = true → s.custodyCloses t k)
            ∧ ((s.slot k).bars.flood = true ∨ (s.slot k).accepted .platform = false →
              { s with lift := { s.lift with
                  linkDeadline := t.lift.linkDeadline
                  custody := { s.lift.custody with state := .closing, deadline := none } } }.liftEnded t k none))))

/-- The timers of custody: at the end of the wait a verification is abandoned, its lookup withdrawn and the card denied
BARRED(LIFT), and a session with the drum home is ended PREEMPTED; the slot is then quiet, and custody is granted, or
refused CONTAINER_OUT under OUT. A session with the drum away, and one in CLOSING, is left and custody refused DRUM_BUSY. A
grant that lapses ends custody LAPSED; overtime is marked and the container stays out (R109, R114, R144 to R147, R156).
The model's own: the moment at which an expiry is taken, log entry 10. -/
def Obligations.CustodyTimersAct : Prop :=
  ∀ (s : State) (d : Nat) (k : Slot), s.lift.custody.deadline = some d → s.lift.custody.slot = k →
    (s.slot k).configured = true →
    (s.lift.custody.state = .waiting →
      ((s.slot k).intake.state.busy = false → ∃ t, exec .custodyWaitExpiry s = .next t ∧ t.now = max s.now d
        ∧ s.custodyDecided t k ∧ (t.slot k).locks.drumReleased = (s.slot k).locks.drumReleased)
      ∧ (∀ n, (s.slot k).intake.state = .verifying n → ∃ t, exec .custodyWaitExpiry s = .next t ∧ t.now = max s.now d
        ∧ s.custodyDecided t k ∧ (t.slot k).intake = { (s.slot k).intake with state := restState (t.slot k).bars }
        ∧ (t.slot k).locks.drumReleased = (s.slot k).locks.drumReleased
        ∧ ((s.slot k).inRotation = true → (t.slot k).reader = { (s.slot k).reader with signal := some .deny })
        ∧ t.resolver = { s.resolver with
            lookups := s.resolver.lookups.filter fun l => decide (l.requester ≠ .intake k)
            refill := s.resolver.refill.map fun x =>
              { x with requester := if x.requester = some (.intake k) then none else x.requester } })
      ∧ (∀ c, (s.slot k).intake.state = .opened c → (s.slot k).drumHome = true →
        ∃ t, exec .custodyWaitExpiry s = .next t ∧ t.now = max s.now d
          ∧ s.custodyDecided t k
          ∧ (t.slot k).intake = { state := restState (t.slot k).bars }
          ∧ (t.slot k).locks.drumReleased = false
          ∧ (c.charged = true → ∃ r ∈ t.log.records, r.body = .session k (s.slot k).record.fraction c t.stamp .preempted))
      ∧ (((s.slot k).intake.state.isOpen = true ∧ (s.slot k).drumHome = false)
          ∨ (∃ c r, (s.slot k).intake.state = .closing c r) →
        ∃ t, exec .custodyWaitExpiry s = .next t ∧ s.custodyRefused t k 2 ∧ (t.slot k).intake = (s.slot k).intake
          ∧ (t.slot k).locks.drumReleased = (s.slot k).locks.drumReleased))
    ∧ (s.lift.custody.state = .granted → ∃ t, exec .raiseTimeout s = .next t ∧ t.now = max s.now d
      ∧ s.custodyRefused t k 0
      ∧ t = { s with now := t.now, clock := t.clock, lift := t.lift, slots := t.slots, ports := t.ports })
    ∧ (s.lift.custody.state = .raised → ∃ t, exec .liftOvertime s = .next t ∧ t.now = max s.now d
      ∧ t.lift = { s.lift with custody := { s.lift.custody with deadline := none, overtime := true } }
      ∧ (s.reserveHolds = true → t.log.records = s.log.records
          ++ [⟨s.log.seq, .alert t.stamp (.liftOvertime k s.lift.custody.truck s.lift.custody.orphaned)⟩])
      ∧ (s.reserveHolds = false → t.log = { s.log with incomplete := true })
      ∧ t = { s with
          now := t.now, clock := t.clock, lift := t.lift, slots := t.slots, ports := t.ports, log := t.log })

/-- LINK_LOSS marks the visit and ends the session: at once where no custody stands, or only ORPHANED custody of an earlier
session, which stays as it is, or a container is raised, which then is ORPHANED; with the wait or the grant cancelled; with
the visit open until the lift's record in CLOSING, which under FLOOD or with the platform off comes within the event (R149,
R150, R152, R155).
The model's own: the moment at which an expiry is taken, log entry 10; the order of its effects, log entry 23; the platform
off, log entry 31. -/
def Obligations.LinkLossEndsTheSession : Prop :=
  ∀ (s : State) (d : Nat) (v : Visit), s.lift.linkDeadline = some d → s.lift.visit = some v →
    ∃ t, exec .linkLoss s = .next t ∧ t.now = max s.now d ∧ t.lift.linkDeadline = none ∧ t.lift.opening = s.lift.opening
      ∧ (s.lift.custody.orphaned = true ∨ s.lift.custody.state = .none →
        t.lift = { s.lift with session := none, visit := none, linkDeadline := none }
          ∧ ∀ k, t.slot k = { s.slot k with
              bars := { (s.slot k).bars with log := (t.slot k).bars.log }, intake := (t.slot k).intake })
      ∧ (s.lift.custody.orphaned = false → s.lift.custody.state = .raised → t.lift = { s.lift with
          session := none, visit := none, linkDeadline := none, custody := { s.lift.custody with orphaned := true } })
      ∧ (s.lift.custody.orphaned = false → s.lift.custody.state = .waiting ∨ s.lift.custody.state = .granted →
        t.lift = { opening := s.lift.opening } ∧ (t.slot s.lift.custody.slot).locks.hatchReleased = false)
      ∧ (s.lift.custody.orphaned = false → s.lift.custody.state = .closing → t.lift = { s.lift with
          session := none, visit := some { v with linkLost := true }, linkDeadline := none })
      ∧ (s.lift.custody.orphaned = true ∨ (s.lift.custody.state ≠ .returned ∧ s.lift.custody.state ≠ .closing) →
          t.log.records = s.log.records ++ [⟨s.log.seq, .visit { v with linkLost := true } t.stamp⟩])
      ∧ (s.lift.custody.orphaned = false → s.lift.custody.state = .returned →
        (s.slot s.lift.custody.slot).configured = true → t.lift.session = none
          ∧ ((s.slot s.lift.custody.slot).bars.flood = false → (s.slot s.lift.custody.slot).accepted .platform = true →
            s.custodyCloses t s.lift.custody.slot)
          ∧ (s.run = .running → (s.slot s.lift.custody.slot).bars.flood = true
              ∨ (s.slot s.lift.custody.slot).accepted .platform = false →
            { s with lift := { s.lift with
                session := none, visit := some { v with linkLost := true }, linkDeadline := none
                custody := { s.lift.custody with state := .closing, deadline := none } } }.liftEnded t
              s.lift.custody.slot none))

/-! ## Service (chapter 12) -/

/-- SERVICE_HOLD sets SERVICE on a configured slot without custody, SERVICE_RELEASE clears it and ends an output test there;
both answer with the bar set as it then stands, and are refused BAD_FIELD for a slot number above 7 and WRONG_STATE where
the slot is UNCONFIGURED, a hold also under custody (R183). Each change of a bar of a configured slot posts one BAR_CHANGE
to OFFICE, and to CREW while a session is OPEN; what is no change posts none and changes nothing (R12 to R14). -/
def Obligations.ServiceHoldsAndReleases : Prop :=
  (∀ (s : State) (k : Slot) (b : Bar) (v : Bool),
    ((s.slot k).configured = false ∨ (s.slot k).bars.has b = v → s.changeBar k b v = s)
    ∧ ∀ x p, (s.slot k).configured = true → (s.slot k).bars.has b = !v → x = (s.slot k).bars.put v b →
      p = encSlot k ++ u8 b.code ++ flag v ++ encBars x →
      s.changeBar k b v = (let u := (s.modSlot k fun y => { y with
          bars := x, intake := { y.intake with state := y.intake.state.follow x } }).notify .office 0xC1 p
        if s.lift.session.isSome then u.notify .crew 0xC1 p else u))
  ∧ (∀ (s : State) (tag : Byte) (n : Nat), 8 ≤ n → n < 256 →
    (s.offers .service (frameOf 0x28 tag (u8 n)) →
      exec (.serviceHold .service) s = .next (s.answered1 .service 0x28 tag .badField []))
    ∧ (s.offers .service (frameOf 0x29 tag (u8 n)) →
      exec (.serviceRelease .service) s = .next (s.answered1 .service 0x29 tag .badField [])))
  ∧ ∀ (s : State) (tag : Byte) (k : Slot),
    (s.offers .service (frameOf 0x28 tag (encSlot k)) →
      ((s.slot k).configured = false ∨ s.custodyOn k ≠ .none →
        exec (.serviceHold .service) s = .next (s.answered1 .service 0x28 tag .wrongState []))
      ∧ ((s.slot k).configured = true → s.custodyOn k = .none → ∃ t, exec (.serviceHold .service) s = .next t
        ∧ (t.slot k).bars.service = true ∧ s.answeredWith t .service 0x28 tag .ok (encBars (t.slot k).bars) [] []
        ∧ (∀ j, (t.slot j).record = (s.slot j).record ∧ (t.slot j).fill = (s.slot j).fill
            ∧ (t.slot j).lines = (s.slot j).lines ∧ (t.slot j).track = (s.slot j).track)
        ∧ t.lift = s.lift ∧ t.demand = s.demand ∧ t.store = s.store ∧ t.batch = s.batch
        ∧ ((s.slot k).bars.service = false → (s.slot k).intake.state.isOpen = false →
          (let p := encSlot k ++ u8 3 ++ u8 1 ++ encBars { (s.slot k).bars with service := true }
           t.port .office = (s.notify .office 0xC1 p).port .office
             ∧ t.port .crew = (if s.lift.session.isSome then s.notify .crew 0xC1 p else s).port .crew))))
    ∧ (s.offers .service (frameOf 0x29 tag (encSlot k)) →
      ((s.slot k).configured = false →
        exec (.serviceRelease .service) s = .next (s.answered1 .service 0x29 tag .wrongState []))
      ∧ ((s.slot k).configured = true → ∃ t, exec (.serviceRelease .service) s = .next t
        ∧ (let p := encSlot k ++ u8 3 ++ u8 0 ++ encBars { (s.slot k).bars with service := false }
           let changed := (s.slot k).bars.service
           t.port .office = (if changed then s.notify .office 0xC1 p else s).port .office
             ∧ t.port .crew = (if changed && s.lift.session.isSome then s.notify .crew 0xC1 p else s).port .crew)
        ∧ (t.slot k).bars = { (s.slot k).bars with service := false }
        ∧ s.answeredWith t .service 0x29 tag .ok (encBars (t.slot k).bars) [] []
        ∧ (t.slot k).locks = { s.slot k |>.locks with
            test := none
            drumReleased := (s.slot k).locks.drumReleased && !(s.slot k).locks.tests .drum
            hatchReleased := (s.slot k).locks.hatchReleased && !(s.slot k).locks.tests .hatch }
        ∧ (∀ j, j ≠ k → t.slot j = s.slot j) ∧ t = { s with ports := t.ports, slots := t.slots }))

/-- OUTPUT_TEST under SERVICE with a quiet intake: a release test commands its lock for 1 to 30 s, a tone asks for its
pattern. The refusals in their order: BAD_FIELD for a slot above 7, an unknown kind or an unknown pattern; WRONG_STATE for a
slot that is UNCONFIGURED or without SERVICE; BUSY for an intake in VERIFYING, OPEN or CLOSING; BUSY for a release test
under a running one; WRONG_STATE for a hatch test with the platform off. The end of a test engages its lock (R19, R99,
R184).
The model's own: the moment at which an expiry is taken, log entry 10; the row of an unknown kind, log entry 9. -/
def Obligations.OutputTestsReleaseAndEngage : Prop :=
  ∀ (s : State) (tag : Byte) (k : Slot) (v : Byte),
    (∀ a kind : Byte, s.offers .service (frameOf 0x2A tag [a, kind, v]) → 8 ≤ a.toNat →
      (kind = 0 → exec (.outputTestDrumRelease .service) s = .next (s.answered1 .service 0x2A tag .badField []))
      ∧ (kind = 1 → exec (.outputTestHatchRelease .service) s = .next (s.answered1 .service 0x2A tag .badField []))
      ∧ (kind = 2 → exec (.outputTestTone .service) s = .next (s.answered1 .service 0x2A tag .badField [])))
    ∧ (∀ a kind : Byte, s.offers .service (frameOf 0x2A tag [a, kind, v]) → 3 ≤ kind.toNat →
      exec (.outputTestDrumRelease .service) s = .next (s.answered1 .service 0x2A tag .badField []))
    ∧ (∀ a : Byte, s.offers .service (frameOf 0x2A tag [a, 2, v]) → 4 ≤ v.toNat →
      exec (.outputTestTone .service) s = .next (s.answered1 .service 0x2A tag .badField []))
    ∧ (∀ (i : Instr) (kind : Byte), (i = .outputTestDrumRelease .service ∧ kind = 0)
        ∨ (i = .outputTestHatchRelease .service ∧ kind = 1) ∨ (i = .outputTestTone .service ∧ kind = 2 ∧ v.toNat < 4) →
      s.offers .service (frameOf 0x2A tag (encSlot k ++ [kind, v])) →
      ((s.slot k).configured = false ∨ (s.slot k).bars.service = false →
        exec i s = .next (s.answered1 .service 0x2A tag .wrongState []))
      ∧ ((s.slot k).configured = true → (s.slot k).bars.service = true → (s.slot k).intake.state.busy = true →
        exec i s = .next (s.answered1 .service 0x2A tag .busy []))
      ∧ ((s.slot k).configured = true → (s.slot k).bars.service = true → (s.slot k).intake.state.busy = false →
        (∀ x, kind = 2 → TonePattern.ofCode v.toNat = some x → exec i s = .next ((s.modSlot k fun u => { u with
          reader := { u.reader with signal := if u.record.readerEnable then some x else u.reader.signal } }).answered1
            .service 0x2A tag .ok []))
        ∧ (kind.toNat < 2 → (s.slot k).locks.test ≠ none →
          exec i s = .next (s.answered1 .service 0x2A tag .busy []))
        ∧ ((s.slot k).locks.test = none →
          (kind = 0 → exec i s = .next ((s.modSlot k fun u => { u with locks := { u.locks with
            drumReleased := true, test := some (.drum, s.now + 1000 * clamp 1 30 v.toNat) } }).answered1
              .service 0x2A tag .ok []))
          ∧ (kind = 1 → (s.slot k).accepted .platform = false →
            exec i s = .next (s.answered1 .service 0x2A tag .wrongState []))
          ∧ (kind = 1 → (s.slot k).accepted .platform = true →
            exec i s = .next ((s.modSlot k fun u => { u with locks := { u.locks with
              hatchReleased := true, test := some (.hatch, s.now + 1000 * clamp 1 30 v.toNat) } }).answered1
                .service 0x2A tag .ok [])))))
    ∧ (∀ d, (s.slot k).locks.test = some (.drum, d) → exec (.outputTestEnd k) s = .next
      ((s.elapse (d - s.now)).modSlot k fun u => { u with locks := { u.locks with drumReleased := false, test := none } }))
    ∧ (∀ d, (s.slot k).locks.test = some (.hatch, d) → exec (.outputTestEnd k) s = .next
      ((s.elapse (d - s.now)).modSlot k fun u => { u with locks := { u.locks with hatchReleased := false, test := none } }))

end
end

