-- ==== Sys2Proof/Laws/Cache.lean ====
section
/-! SUPPORT. What the changes of the card cache leave cached (R78, R95). -/

namespace Sys2Proof.Machine

variable {s : State} {n m : CardNo} {e : CacheEntry}

/-- The way that a set finds for a card is the first that holds it. -/
theorem CacheSet.find_eq (x : CacheSet) (n : CardNo) :
    x.find n = allWays.find? fun w => (x.ways[w].map fun e => e.record.card) == some n := by
  unfold CacheSet.find
  congr 1
  funext w
  cases x.ways[w] <;> simp

@[simp] theorem State.cacheSet_setCacheSet_self (x : CacheSet) : (s.setCacheSet n x).cacheSet n = x := by
  simp [State.cacheSet, State.setCacheSet, State.modResolver]

theorem State.cacheSet_setCacheSet_of_ne (x : CacheSet) (h : setOf m ≠ setOf n) :
    (s.setCacheSet n x).cacheSet m = s.cacheSet m := by
  have h' : ((setOf n : Fin 32) : Nat) ≠ setOf m := fun e => h (Fin.ext e.symm)
  simp [State.cacheSet, State.setCacheSet, State.modResolver, h']

/-- What a card's cached entry is depends on its set alone. -/
theorem State.cached_eq (s : State) (n : CardNo) :
    s.cached n = ((s.cacheSet n).find n).bind fun w => (s.cacheSet n).ways[w] := by
  unfold State.cached
  cases (s.cacheSet n).find n <;> rfl

/-- A set without a card: each way as it was, or invalid where it held the card (R95). -/
theorem CacheSet.ways_without (x : CacheSet) (n : CardNo) (w : Fin 4) :
    (x.without n).ways[w] = x.ways[w].filter fun e => e.record.card != n := by
  simp [CacheSet.without]

/-- A set without a card has no way for it, and the way of each other card is what it was (R95). -/
theorem CacheSet.find_without (x : CacheSet) (n m : CardNo) :
    (x.without n).find m = if m = n then none else x.find m := by
  split
  · rename_i h
    subst h
    simp only [CacheSet.find_eq, List.find?_eq_none, CacheSet.ways_without]
    intro w _
    cases x.ways[w] with
    | none => simp
    | some e => by_cases hc : e.record.card = m <;> simp [Option.filter, hc]
  · rename_i h
    rw [CacheSet.find_eq, CacheSet.find_eq]
    congr 1
    funext w
    rw [CacheSet.ways_without]
    cases x.ways[w] with
    | none => simp
    | some e => by_cases hc : e.record.card = n <;> simp [Option.filter, hc, Ne.symm h]

/-- A card that has left the cache is not cached, whatever its set held (R95). -/
@[simp] theorem State.cached_dropCached (s : State) (n : CardNo) : (s.dropCached n).cached n = none := by
  simp [State.cached_eq, State.dropCached, CacheSet.find_without]

/-- A way that a set finds for a card holds it. -/
theorem CacheSet.card_of_find {x : CacheSet} {w : Fin 4} (h : x.find n = some w) :
    ∃ e, x.ways[w] = some e ∧ e.record.card = n := by
  rw [CacheSet.find_eq] at h
  have := List.find?_some h
  cases he : x.ways[w] with
  | none => rw [he] at this; simp at this
  | some e => rw [he] at this; exact ⟨e, rfl, by simpa using this⟩

/-- Every other card stays cached as it was (R95). -/
theorem State.cached_dropCached_of_ne (s : State) (h : m ≠ n) : (s.dropCached n).cached m = s.cached m := by
  rw [State.cached_eq, State.cached_eq, State.dropCached]
  by_cases hs : setOf m = setOf n
  · have hc : ∀ u : State, u.cacheSet m = u.cacheSet n := fun u => by simp only [State.cacheSet, hs]
    rw [hc, hc, State.cacheSet_setCacheSet_self, CacheSet.find_without, if_neg h]
    cases hf : (s.cacheSet n).find m with
    | none => rfl
    | some w =>
      obtain ⟨e, he, hm⟩ := CacheSet.card_of_find hf
      change (CacheSet.without n (s.cacheSet n)).ways[w] = (s.cacheSet n).ways[w]
      rw [CacheSet.ways_without, he]
      simp [Option.filter, hm, h]
  · rw [State.cacheSet_setCacheSet_of_ne _ hs]

/-- A change of a card's entry that leaves its card number is seen in the cache as that change, whatever the set holds besides
(R88, R92, R95). -/
theorem State.cached_modCached (s : State) (f : CacheEntry → CacheEntry) (hf : ∀ e, (f e).record.card = e.record.card) :
    (s.modCached n f).cached n = (s.cached n).map f := by
  unfold State.modCached
  cases hw : (s.cacheSet n).find n with
  | none => simp [State.cached_eq, hw]
  | some w =>
    obtain ⟨e, he, hn⟩ := CacheSet.card_of_find hw
    have hc : s.cached n = some e := by rw [State.cached_eq, hw]; exact he
    have hfind : ({ s.cacheSet n with ways := (s.cacheSet n).ways.set w (some (f e)) } : CacheSet).find n = some w := by
      rw [← hw, CacheSet.find_eq, CacheSet.find_eq]
      congr 1
      funext v
      by_cases hv : w = v
      · subst hv
        rw [he]
        simp [hf]
      · have : (w : Nat) ≠ v := fun h => hv (Fin.ext h)
        simp [this]
    simp [State.cached_eq (s := State.setCacheSet _ _ _), hfind, hc]

end Sys2Proof.Machine
end

