-- ==== Sys2Proof/Laws/State.lean ====
section
/-! SUPPORT. What each plain update of the state leaves: one lemma per field per update. -/

namespace Sys2Proof.Machine

/-! ## setSlot -/

@[simp] theorem State.setSlot_run (s : State) (k : Slot) (u : SlotUnit) : (s.setSlot k u).run = s.run := rfl
@[simp] theorem State.setSlot_resetKind (s : State) (k : Slot) (u : SlotUnit) : (s.setSlot k u).resetKind = s.resetKind := rfl
@[simp] theorem State.setSlot_now (s : State) (k : Slot) (u : SlotUnit) : (s.setSlot k u).now = s.now := rfl
@[simp] theorem State.setSlot_ports (s : State) (k : Slot) (u : SlotUnit) : (s.setSlot k u).ports = s.ports := rfl
@[simp] theorem State.setSlot_config (s : State) (k : Slot) (u : SlotUnit) : (s.setSlot k u).config = s.config := rfl
@[simp] theorem State.setSlot_profiles (s : State) (k : Slot) (u : SlotUnit) : (s.setSlot k u).profiles = s.profiles := rfl
@[simp] theorem State.setSlot_hours (s : State) (k : Slot) (u : SlotUnit) : (s.setSlot k u).hours = s.hours := rfl
@[simp] theorem State.setSlot_tones (s : State) (k : Slot) (u : SlotUnit) : (s.setSlot k u).tones = s.tones := rfl
@[simp] theorem State.setSlot_readerBus (s : State) (k : Slot) (u : SlotUnit) : (s.setSlot k u).readerBus = s.readerBus := rfl
@[simp] theorem State.setSlot_ranging (s : State) (k : Slot) (u : SlotUnit) : (s.setSlot k u).ranging = s.ranging := rfl
@[simp] theorem State.setSlot_demand (s : State) (k : Slot) (u : SlotUnit) : (s.setSlot k u).demand = s.demand := rfl
@[simp] theorem State.setSlot_store (s : State) (k : Slot) (u : SlotUnit) : (s.setSlot k u).store = s.store := rfl
@[simp] theorem State.setSlot_arbiter (s : State) (k : Slot) (u : SlotUnit) : (s.setSlot k u).arbiter = s.arbiter := rfl
@[simp] theorem State.setSlot_resolver (s : State) (k : Slot) (u : SlotUnit) : (s.setSlot k u).resolver = s.resolver := rfl
@[simp] theorem State.setSlot_clock (s : State) (k : Slot) (u : SlotUnit) : (s.setSlot k u).clock = s.clock := rfl
@[simp] theorem State.setSlot_lift (s : State) (k : Slot) (u : SlotUnit) : (s.setSlot k u).lift = s.lift := rfl
@[simp] theorem State.setSlot_batch (s : State) (k : Slot) (u : SlotUnit) : (s.setSlot k u).batch = s.batch := rfl
@[simp] theorem State.setSlot_log (s : State) (k : Slot) (u : SlotUnit) : (s.setSlot k u).log = s.log := rfl
@[simp] theorem State.setSlot_probe (s : State) (k : Slot) (u : SlotUnit) : (s.setSlot k u).probe = s.probe := rfl
@[simp] theorem State.setSlot_freeIndex (s : State) (k : Slot) (u : SlotUnit) : (s.setSlot k u).freeIndex = s.freeIndex := rfl
@[simp] theorem State.setSlot_pending (s : State) (k : Slot) (u : SlotUnit) : (s.setSlot k u).pending = s.pending := rfl

/-! ## modSlot -/

@[simp] theorem State.modSlot_run (s : State) (k : Slot) (f : SlotUnit → SlotUnit) : (s.modSlot k f).run = s.run := rfl
@[simp] theorem State.modSlot_resetKind (s : State) (k : Slot) (f : SlotUnit → SlotUnit) : (s.modSlot k f).resetKind = s.resetKind := rfl
@[simp] theorem State.modSlot_now (s : State) (k : Slot) (f : SlotUnit → SlotUnit) : (s.modSlot k f).now = s.now := rfl
@[simp] theorem State.modSlot_ports (s : State) (k : Slot) (f : SlotUnit → SlotUnit) : (s.modSlot k f).ports = s.ports := rfl
@[simp] theorem State.modSlot_config (s : State) (k : Slot) (f : SlotUnit → SlotUnit) : (s.modSlot k f).config = s.config := rfl
@[simp] theorem State.modSlot_profiles (s : State) (k : Slot) (f : SlotUnit → SlotUnit) : (s.modSlot k f).profiles = s.profiles := rfl
@[simp] theorem State.modSlot_hours (s : State) (k : Slot) (f : SlotUnit → SlotUnit) : (s.modSlot k f).hours = s.hours := rfl
@[simp] theorem State.modSlot_tones (s : State) (k : Slot) (f : SlotUnit → SlotUnit) : (s.modSlot k f).tones = s.tones := rfl
@[simp] theorem State.modSlot_readerBus (s : State) (k : Slot) (f : SlotUnit → SlotUnit) : (s.modSlot k f).readerBus = s.readerBus := rfl
@[simp] theorem State.modSlot_ranging (s : State) (k : Slot) (f : SlotUnit → SlotUnit) : (s.modSlot k f).ranging = s.ranging := rfl
@[simp] theorem State.modSlot_demand (s : State) (k : Slot) (f : SlotUnit → SlotUnit) : (s.modSlot k f).demand = s.demand := rfl
@[simp] theorem State.modSlot_store (s : State) (k : Slot) (f : SlotUnit → SlotUnit) : (s.modSlot k f).store = s.store := rfl
@[simp] theorem State.modSlot_arbiter (s : State) (k : Slot) (f : SlotUnit → SlotUnit) : (s.modSlot k f).arbiter = s.arbiter := rfl
@[simp] theorem State.modSlot_resolver (s : State) (k : Slot) (f : SlotUnit → SlotUnit) : (s.modSlot k f).resolver = s.resolver := rfl
@[simp] theorem State.modSlot_clock (s : State) (k : Slot) (f : SlotUnit → SlotUnit) : (s.modSlot k f).clock = s.clock := rfl
@[simp] theorem State.modSlot_lift (s : State) (k : Slot) (f : SlotUnit → SlotUnit) : (s.modSlot k f).lift = s.lift := rfl
@[simp] theorem State.modSlot_batch (s : State) (k : Slot) (f : SlotUnit → SlotUnit) : (s.modSlot k f).batch = s.batch := rfl
@[simp] theorem State.modSlot_log (s : State) (k : Slot) (f : SlotUnit → SlotUnit) : (s.modSlot k f).log = s.log := rfl
@[simp] theorem State.modSlot_probe (s : State) (k : Slot) (f : SlotUnit → SlotUnit) : (s.modSlot k f).probe = s.probe := rfl
@[simp] theorem State.modSlot_freeIndex (s : State) (k : Slot) (f : SlotUnit → SlotUnit) : (s.modSlot k f).freeIndex = s.freeIndex := rfl
@[simp] theorem State.modSlot_pending (s : State) (k : Slot) (f : SlotUnit → SlotUnit) : (s.modSlot k f).pending = s.pending := rfl

/-! ## setPort -/

@[simp] theorem State.setPort_run (s : State) (p : Port) (q : PortState) : (s.setPort p q).run = s.run := rfl
@[simp] theorem State.setPort_resetKind (s : State) (p : Port) (q : PortState) : (s.setPort p q).resetKind = s.resetKind := rfl
@[simp] theorem State.setPort_now (s : State) (p : Port) (q : PortState) : (s.setPort p q).now = s.now := rfl
@[simp] theorem State.setPort_config (s : State) (p : Port) (q : PortState) : (s.setPort p q).config = s.config := rfl
@[simp] theorem State.setPort_profiles (s : State) (p : Port) (q : PortState) : (s.setPort p q).profiles = s.profiles := rfl
@[simp] theorem State.setPort_hours (s : State) (p : Port) (q : PortState) : (s.setPort p q).hours = s.hours := rfl
@[simp] theorem State.setPort_tones (s : State) (p : Port) (q : PortState) : (s.setPort p q).tones = s.tones := rfl
@[simp] theorem State.setPort_slots (s : State) (p : Port) (q : PortState) : (s.setPort p q).slots = s.slots := rfl
@[simp] theorem State.setPort_readerBus (s : State) (p : Port) (q : PortState) : (s.setPort p q).readerBus = s.readerBus := rfl
@[simp] theorem State.setPort_ranging (s : State) (p : Port) (q : PortState) : (s.setPort p q).ranging = s.ranging := rfl
@[simp] theorem State.setPort_demand (s : State) (p : Port) (q : PortState) : (s.setPort p q).demand = s.demand := rfl
@[simp] theorem State.setPort_store (s : State) (p : Port) (q : PortState) : (s.setPort p q).store = s.store := rfl
@[simp] theorem State.setPort_arbiter (s : State) (p : Port) (q : PortState) : (s.setPort p q).arbiter = s.arbiter := rfl
@[simp] theorem State.setPort_resolver (s : State) (p : Port) (q : PortState) : (s.setPort p q).resolver = s.resolver := rfl
@[simp] theorem State.setPort_clock (s : State) (p : Port) (q : PortState) : (s.setPort p q).clock = s.clock := rfl
@[simp] theorem State.setPort_lift (s : State) (p : Port) (q : PortState) : (s.setPort p q).lift = s.lift := rfl
@[simp] theorem State.setPort_batch (s : State) (p : Port) (q : PortState) : (s.setPort p q).batch = s.batch := rfl
@[simp] theorem State.setPort_log (s : State) (p : Port) (q : PortState) : (s.setPort p q).log = s.log := rfl
@[simp] theorem State.setPort_probe (s : State) (p : Port) (q : PortState) : (s.setPort p q).probe = s.probe := rfl
@[simp] theorem State.setPort_freeIndex (s : State) (p : Port) (q : PortState) : (s.setPort p q).freeIndex = s.freeIndex := rfl
@[simp] theorem State.setPort_pending (s : State) (p : Port) (q : PortState) : (s.setPort p q).pending = s.pending := rfl

/-! ## elapse -/

@[simp] theorem State.elapse_run (s : State) (ms : Nat) : (s.elapse ms).run = s.run := rfl
@[simp] theorem State.elapse_resetKind (s : State) (ms : Nat) : (s.elapse ms).resetKind = s.resetKind := rfl
@[simp] theorem State.elapse_ports (s : State) (ms : Nat) : (s.elapse ms).ports = s.ports := rfl
@[simp] theorem State.elapse_config (s : State) (ms : Nat) : (s.elapse ms).config = s.config := rfl
@[simp] theorem State.elapse_profiles (s : State) (ms : Nat) : (s.elapse ms).profiles = s.profiles := rfl
@[simp] theorem State.elapse_hours (s : State) (ms : Nat) : (s.elapse ms).hours = s.hours := rfl
@[simp] theorem State.elapse_tones (s : State) (ms : Nat) : (s.elapse ms).tones = s.tones := rfl
@[simp] theorem State.elapse_slots (s : State) (ms : Nat) : (s.elapse ms).slots = s.slots := rfl
@[simp] theorem State.elapse_readerBus (s : State) (ms : Nat) : (s.elapse ms).readerBus = s.readerBus := rfl
@[simp] theorem State.elapse_ranging (s : State) (ms : Nat) : (s.elapse ms).ranging = s.ranging := rfl
@[simp] theorem State.elapse_demand (s : State) (ms : Nat) : (s.elapse ms).demand = s.demand := rfl
@[simp] theorem State.elapse_store (s : State) (ms : Nat) : (s.elapse ms).store = s.store := rfl
@[simp] theorem State.elapse_arbiter (s : State) (ms : Nat) : (s.elapse ms).arbiter = s.arbiter := rfl
@[simp] theorem State.elapse_resolver (s : State) (ms : Nat) : (s.elapse ms).resolver = s.resolver := rfl
@[simp] theorem State.elapse_lift (s : State) (ms : Nat) : (s.elapse ms).lift = s.lift := rfl
@[simp] theorem State.elapse_batch (s : State) (ms : Nat) : (s.elapse ms).batch = s.batch := rfl
@[simp] theorem State.elapse_log (s : State) (ms : Nat) : (s.elapse ms).log = s.log := rfl
@[simp] theorem State.elapse_probe (s : State) (ms : Nat) : (s.elapse ms).probe = s.probe := rfl
@[simp] theorem State.elapse_freeIndex (s : State) (ms : Nat) : (s.elapse ms).freeIndex = s.freeIndex := rfl
@[simp] theorem State.elapse_pending (s : State) (ms : Nat) : (s.elapse ms).pending = s.pending := rfl

/-! ## elapseTo -/

@[simp] theorem State.elapseTo_run (s : State) (d : Nat) : (s.elapseTo d).run = s.run := rfl
@[simp] theorem State.elapseTo_resetKind (s : State) (d : Nat) : (s.elapseTo d).resetKind = s.resetKind := rfl
@[simp] theorem State.elapseTo_ports (s : State) (d : Nat) : (s.elapseTo d).ports = s.ports := rfl
@[simp] theorem State.elapseTo_config (s : State) (d : Nat) : (s.elapseTo d).config = s.config := rfl
@[simp] theorem State.elapseTo_profiles (s : State) (d : Nat) : (s.elapseTo d).profiles = s.profiles := rfl
@[simp] theorem State.elapseTo_hours (s : State) (d : Nat) : (s.elapseTo d).hours = s.hours := rfl
@[simp] theorem State.elapseTo_tones (s : State) (d : Nat) : (s.elapseTo d).tones = s.tones := rfl
@[simp] theorem State.elapseTo_slots (s : State) (d : Nat) : (s.elapseTo d).slots = s.slots := rfl
@[simp] theorem State.elapseTo_readerBus (s : State) (d : Nat) : (s.elapseTo d).readerBus = s.readerBus := rfl
@[simp] theorem State.elapseTo_ranging (s : State) (d : Nat) : (s.elapseTo d).ranging = s.ranging := rfl
@[simp] theorem State.elapseTo_demand (s : State) (d : Nat) : (s.elapseTo d).demand = s.demand := rfl
@[simp] theorem State.elapseTo_store (s : State) (d : Nat) : (s.elapseTo d).store = s.store := rfl
@[simp] theorem State.elapseTo_arbiter (s : State) (d : Nat) : (s.elapseTo d).arbiter = s.arbiter := rfl
@[simp] theorem State.elapseTo_resolver (s : State) (d : Nat) : (s.elapseTo d).resolver = s.resolver := rfl
@[simp] theorem State.elapseTo_lift (s : State) (d : Nat) : (s.elapseTo d).lift = s.lift := rfl
@[simp] theorem State.elapseTo_batch (s : State) (d : Nat) : (s.elapseTo d).batch = s.batch := rfl
@[simp] theorem State.elapseTo_log (s : State) (d : Nat) : (s.elapseTo d).log = s.log := rfl
@[simp] theorem State.elapseTo_probe (s : State) (d : Nat) : (s.elapseTo d).probe = s.probe := rfl
@[simp] theorem State.elapseTo_freeIndex (s : State) (d : Nat) : (s.elapseTo d).freeIndex = s.freeIndex := rfl
@[simp] theorem State.elapseTo_pending (s : State) (d : Nat) : (s.elapseTo d).pending = s.pending := rfl

/-! ## respond -/

@[simp] theorem State.respond_run (s : State) (t : Taken) (n : Nat) (bs : List Byte) : (s.respond t n bs).run = s.run := rfl
@[simp] theorem State.respond_resetKind (s : State) (t : Taken) (n : Nat) (bs : List Byte) : (s.respond t n bs).resetKind = s.resetKind := rfl
@[simp] theorem State.respond_now (s : State) (t : Taken) (n : Nat) (bs : List Byte) : (s.respond t n bs).now = s.now := rfl
@[simp] theorem State.respond_config (s : State) (t : Taken) (n : Nat) (bs : List Byte) : (s.respond t n bs).config = s.config := rfl
@[simp] theorem State.respond_profiles (s : State) (t : Taken) (n : Nat) (bs : List Byte) : (s.respond t n bs).profiles = s.profiles := rfl
@[simp] theorem State.respond_hours (s : State) (t : Taken) (n : Nat) (bs : List Byte) : (s.respond t n bs).hours = s.hours := rfl
@[simp] theorem State.respond_tones (s : State) (t : Taken) (n : Nat) (bs : List Byte) : (s.respond t n bs).tones = s.tones := rfl
@[simp] theorem State.respond_slots (s : State) (t : Taken) (n : Nat) (bs : List Byte) : (s.respond t n bs).slots = s.slots := rfl
@[simp] theorem State.respond_readerBus (s : State) (t : Taken) (n : Nat) (bs : List Byte) : (s.respond t n bs).readerBus = s.readerBus := rfl
@[simp] theorem State.respond_ranging (s : State) (t : Taken) (n : Nat) (bs : List Byte) : (s.respond t n bs).ranging = s.ranging := rfl
@[simp] theorem State.respond_demand (s : State) (t : Taken) (n : Nat) (bs : List Byte) : (s.respond t n bs).demand = s.demand := rfl
@[simp] theorem State.respond_store (s : State) (t : Taken) (n : Nat) (bs : List Byte) : (s.respond t n bs).store = s.store := rfl
@[simp] theorem State.respond_arbiter (s : State) (t : Taken) (n : Nat) (bs : List Byte) : (s.respond t n bs).arbiter = s.arbiter := rfl
@[simp] theorem State.respond_resolver (s : State) (t : Taken) (n : Nat) (bs : List Byte) : (s.respond t n bs).resolver = s.resolver := rfl
@[simp] theorem State.respond_clock (s : State) (t : Taken) (n : Nat) (bs : List Byte) : (s.respond t n bs).clock = s.clock := rfl
@[simp] theorem State.respond_lift (s : State) (t : Taken) (n : Nat) (bs : List Byte) : (s.respond t n bs).lift = s.lift := rfl
@[simp] theorem State.respond_batch (s : State) (t : Taken) (n : Nat) (bs : List Byte) : (s.respond t n bs).batch = s.batch := rfl
@[simp] theorem State.respond_log (s : State) (t : Taken) (n : Nat) (bs : List Byte) : (s.respond t n bs).log = s.log := rfl
@[simp] theorem State.respond_probe (s : State) (t : Taken) (n : Nat) (bs : List Byte) : (s.respond t n bs).probe = s.probe := rfl
@[simp] theorem State.respond_freeIndex (s : State) (t : Taken) (n : Nat) (bs : List Byte) : (s.respond t n bs).freeIndex = s.freeIndex := rfl
@[simp] theorem State.respond_pending (s : State) (t : Taken) (n : Nat) (bs : List Byte) : (s.respond t n bs).pending = s.pending := rfl

/-! ## answer -/

@[simp] theorem State.answer_run (s : State) (t : Taken) (n : Status) (bs : List Byte) : (s.answer t n bs).run = s.run := rfl
@[simp] theorem State.answer_resetKind (s : State) (t : Taken) (n : Status) (bs : List Byte) : (s.answer t n bs).resetKind = s.resetKind := rfl
@[simp] theorem State.answer_now (s : State) (t : Taken) (n : Status) (bs : List Byte) : (s.answer t n bs).now = s.now := rfl
@[simp] theorem State.answer_config (s : State) (t : Taken) (n : Status) (bs : List Byte) : (s.answer t n bs).config = s.config := rfl
@[simp] theorem State.answer_profiles (s : State) (t : Taken) (n : Status) (bs : List Byte) : (s.answer t n bs).profiles = s.profiles := rfl
@[simp] theorem State.answer_hours (s : State) (t : Taken) (n : Status) (bs : List Byte) : (s.answer t n bs).hours = s.hours := rfl
@[simp] theorem State.answer_tones (s : State) (t : Taken) (n : Status) (bs : List Byte) : (s.answer t n bs).tones = s.tones := rfl
@[simp] theorem State.answer_slots (s : State) (t : Taken) (n : Status) (bs : List Byte) : (s.answer t n bs).slots = s.slots := rfl
@[simp] theorem State.answer_readerBus (s : State) (t : Taken) (n : Status) (bs : List Byte) : (s.answer t n bs).readerBus = s.readerBus := rfl
@[simp] theorem State.answer_ranging (s : State) (t : Taken) (n : Status) (bs : List Byte) : (s.answer t n bs).ranging = s.ranging := rfl
@[simp] theorem State.answer_demand (s : State) (t : Taken) (n : Status) (bs : List Byte) : (s.answer t n bs).demand = s.demand := rfl
@[simp] theorem State.answer_store (s : State) (t : Taken) (n : Status) (bs : List Byte) : (s.answer t n bs).store = s.store := rfl
@[simp] theorem State.answer_arbiter (s : State) (t : Taken) (n : Status) (bs : List Byte) : (s.answer t n bs).arbiter = s.arbiter := rfl
@[simp] theorem State.answer_resolver (s : State) (t : Taken) (n : Status) (bs : List Byte) : (s.answer t n bs).resolver = s.resolver := rfl
@[simp] theorem State.answer_clock (s : State) (t : Taken) (n : Status) (bs : List Byte) : (s.answer t n bs).clock = s.clock := rfl
@[simp] theorem State.answer_lift (s : State) (t : Taken) (n : Status) (bs : List Byte) : (s.answer t n bs).lift = s.lift := rfl
@[simp] theorem State.answer_batch (s : State) (t : Taken) (n : Status) (bs : List Byte) : (s.answer t n bs).batch = s.batch := rfl
@[simp] theorem State.answer_log (s : State) (t : Taken) (n : Status) (bs : List Byte) : (s.answer t n bs).log = s.log := rfl
@[simp] theorem State.answer_probe (s : State) (t : Taken) (n : Status) (bs : List Byte) : (s.answer t n bs).probe = s.probe := rfl
@[simp] theorem State.answer_freeIndex (s : State) (t : Taken) (n : Status) (bs : List Byte) : (s.answer t n bs).freeIndex = s.freeIndex := rfl
@[simp] theorem State.answer_pending (s : State) (t : Taken) (n : Status) (bs : List Byte) : (s.answer t n bs).pending = s.pending := rfl

/-! ## refuse -/

@[simp] theorem State.refuse_run (s : State) (t : Taken) (n : Status) : (s.refuse t n).run = s.run := rfl
@[simp] theorem State.refuse_resetKind (s : State) (t : Taken) (n : Status) : (s.refuse t n).resetKind = s.resetKind := rfl
@[simp] theorem State.refuse_now (s : State) (t : Taken) (n : Status) : (s.refuse t n).now = s.now := rfl
@[simp] theorem State.refuse_config (s : State) (t : Taken) (n : Status) : (s.refuse t n).config = s.config := rfl
@[simp] theorem State.refuse_profiles (s : State) (t : Taken) (n : Status) : (s.refuse t n).profiles = s.profiles := rfl
@[simp] theorem State.refuse_hours (s : State) (t : Taken) (n : Status) : (s.refuse t n).hours = s.hours := rfl
@[simp] theorem State.refuse_tones (s : State) (t : Taken) (n : Status) : (s.refuse t n).tones = s.tones := rfl
@[simp] theorem State.refuse_slots (s : State) (t : Taken) (n : Status) : (s.refuse t n).slots = s.slots := rfl
@[simp] theorem State.refuse_readerBus (s : State) (t : Taken) (n : Status) : (s.refuse t n).readerBus = s.readerBus := rfl
@[simp] theorem State.refuse_ranging (s : State) (t : Taken) (n : Status) : (s.refuse t n).ranging = s.ranging := rfl
@[simp] theorem State.refuse_demand (s : State) (t : Taken) (n : Status) : (s.refuse t n).demand = s.demand := rfl
@[simp] theorem State.refuse_store (s : State) (t : Taken) (n : Status) : (s.refuse t n).store = s.store := rfl
@[simp] theorem State.refuse_arbiter (s : State) (t : Taken) (n : Status) : (s.refuse t n).arbiter = s.arbiter := rfl
@[simp] theorem State.refuse_resolver (s : State) (t : Taken) (n : Status) : (s.refuse t n).resolver = s.resolver := rfl
@[simp] theorem State.refuse_clock (s : State) (t : Taken) (n : Status) : (s.refuse t n).clock = s.clock := rfl
@[simp] theorem State.refuse_lift (s : State) (t : Taken) (n : Status) : (s.refuse t n).lift = s.lift := rfl
@[simp] theorem State.refuse_batch (s : State) (t : Taken) (n : Status) : (s.refuse t n).batch = s.batch := rfl
@[simp] theorem State.refuse_log (s : State) (t : Taken) (n : Status) : (s.refuse t n).log = s.log := rfl
@[simp] theorem State.refuse_probe (s : State) (t : Taken) (n : Status) : (s.refuse t n).probe = s.probe := rfl
@[simp] theorem State.refuse_freeIndex (s : State) (t : Taken) (n : Status) : (s.refuse t n).freeIndex = s.freeIndex := rfl
@[simp] theorem State.refuse_pending (s : State) (t : Taken) (n : Status) : (s.refuse t n).pending = s.pending := rfl

/-! ## modRanging -/

@[simp] theorem State.modRanging_run (s : State) (f : Ranging → Ranging) : (s.modRanging f).run = s.run := rfl
@[simp] theorem State.modRanging_resetKind (s : State) (f : Ranging → Ranging) : (s.modRanging f).resetKind = s.resetKind := rfl
@[simp] theorem State.modRanging_now (s : State) (f : Ranging → Ranging) : (s.modRanging f).now = s.now := rfl
@[simp] theorem State.modRanging_ports (s : State) (f : Ranging → Ranging) : (s.modRanging f).ports = s.ports := rfl
@[simp] theorem State.modRanging_config (s : State) (f : Ranging → Ranging) : (s.modRanging f).config = s.config := rfl
@[simp] theorem State.modRanging_profiles (s : State) (f : Ranging → Ranging) : (s.modRanging f).profiles = s.profiles := rfl
@[simp] theorem State.modRanging_hours (s : State) (f : Ranging → Ranging) : (s.modRanging f).hours = s.hours := rfl
@[simp] theorem State.modRanging_tones (s : State) (f : Ranging → Ranging) : (s.modRanging f).tones = s.tones := rfl
@[simp] theorem State.modRanging_slots (s : State) (f : Ranging → Ranging) : (s.modRanging f).slots = s.slots := rfl
@[simp] theorem State.modRanging_readerBus (s : State) (f : Ranging → Ranging) : (s.modRanging f).readerBus = s.readerBus := rfl
@[simp] theorem State.modRanging_demand (s : State) (f : Ranging → Ranging) : (s.modRanging f).demand = s.demand := rfl
@[simp] theorem State.modRanging_store (s : State) (f : Ranging → Ranging) : (s.modRanging f).store = s.store := rfl
@[simp] theorem State.modRanging_arbiter (s : State) (f : Ranging → Ranging) : (s.modRanging f).arbiter = s.arbiter := rfl
@[simp] theorem State.modRanging_resolver (s : State) (f : Ranging → Ranging) : (s.modRanging f).resolver = s.resolver := rfl
@[simp] theorem State.modRanging_clock (s : State) (f : Ranging → Ranging) : (s.modRanging f).clock = s.clock := rfl
@[simp] theorem State.modRanging_lift (s : State) (f : Ranging → Ranging) : (s.modRanging f).lift = s.lift := rfl
@[simp] theorem State.modRanging_batch (s : State) (f : Ranging → Ranging) : (s.modRanging f).batch = s.batch := rfl
@[simp] theorem State.modRanging_log (s : State) (f : Ranging → Ranging) : (s.modRanging f).log = s.log := rfl
@[simp] theorem State.modRanging_probe (s : State) (f : Ranging → Ranging) : (s.modRanging f).probe = s.probe := rfl
@[simp] theorem State.modRanging_freeIndex (s : State) (f : Ranging → Ranging) : (s.modRanging f).freeIndex = s.freeIndex := rfl
@[simp] theorem State.modRanging_pending (s : State) (f : Ranging → Ranging) : (s.modRanging f).pending = s.pending := rfl

/-! ## modLift -/

@[simp] theorem State.modLift_run (s : State) (f : Lift → Lift) : (s.modLift f).run = s.run := rfl
@[simp] theorem State.modLift_resetKind (s : State) (f : Lift → Lift) : (s.modLift f).resetKind = s.resetKind := rfl
@[simp] theorem State.modLift_now (s : State) (f : Lift → Lift) : (s.modLift f).now = s.now := rfl
@[simp] theorem State.modLift_ports (s : State) (f : Lift → Lift) : (s.modLift f).ports = s.ports := rfl
@[simp] theorem State.modLift_config (s : State) (f : Lift → Lift) : (s.modLift f).config = s.config := rfl
@[simp] theorem State.modLift_profiles (s : State) (f : Lift → Lift) : (s.modLift f).profiles = s.profiles := rfl
@[simp] theorem State.modLift_hours (s : State) (f : Lift → Lift) : (s.modLift f).hours = s.hours := rfl
@[simp] theorem State.modLift_tones (s : State) (f : Lift → Lift) : (s.modLift f).tones = s.tones := rfl
@[simp] theorem State.modLift_slots (s : State) (f : Lift → Lift) : (s.modLift f).slots = s.slots := rfl
@[simp] theorem State.modLift_readerBus (s : State) (f : Lift → Lift) : (s.modLift f).readerBus = s.readerBus := rfl
@[simp] theorem State.modLift_ranging (s : State) (f : Lift → Lift) : (s.modLift f).ranging = s.ranging := rfl
@[simp] theorem State.modLift_demand (s : State) (f : Lift → Lift) : (s.modLift f).demand = s.demand := rfl
@[simp] theorem State.modLift_store (s : State) (f : Lift → Lift) : (s.modLift f).store = s.store := rfl
@[simp] theorem State.modLift_arbiter (s : State) (f : Lift → Lift) : (s.modLift f).arbiter = s.arbiter := rfl
@[simp] theorem State.modLift_resolver (s : State) (f : Lift → Lift) : (s.modLift f).resolver = s.resolver := rfl
@[simp] theorem State.modLift_clock (s : State) (f : Lift → Lift) : (s.modLift f).clock = s.clock := rfl
@[simp] theorem State.modLift_batch (s : State) (f : Lift → Lift) : (s.modLift f).batch = s.batch := rfl
@[simp] theorem State.modLift_log (s : State) (f : Lift → Lift) : (s.modLift f).log = s.log := rfl
@[simp] theorem State.modLift_probe (s : State) (f : Lift → Lift) : (s.modLift f).probe = s.probe := rfl
@[simp] theorem State.modLift_freeIndex (s : State) (f : Lift → Lift) : (s.modLift f).freeIndex = s.freeIndex := rfl
@[simp] theorem State.modLift_pending (s : State) (f : Lift → Lift) : (s.modLift f).pending = s.pending := rfl

/-! ## modCustody -/

@[simp] theorem State.modCustody_run (s : State) (f : Custody → Custody) : (s.modCustody f).run = s.run := rfl
@[simp] theorem State.modCustody_resetKind (s : State) (f : Custody → Custody) : (s.modCustody f).resetKind = s.resetKind := rfl
@[simp] theorem State.modCustody_now (s : State) (f : Custody → Custody) : (s.modCustody f).now = s.now := rfl
@[simp] theorem State.modCustody_ports (s : State) (f : Custody → Custody) : (s.modCustody f).ports = s.ports := rfl
@[simp] theorem State.modCustody_config (s : State) (f : Custody → Custody) : (s.modCustody f).config = s.config := rfl
@[simp] theorem State.modCustody_profiles (s : State) (f : Custody → Custody) : (s.modCustody f).profiles = s.profiles := rfl
@[simp] theorem State.modCustody_hours (s : State) (f : Custody → Custody) : (s.modCustody f).hours = s.hours := rfl
@[simp] theorem State.modCustody_tones (s : State) (f : Custody → Custody) : (s.modCustody f).tones = s.tones := rfl
@[simp] theorem State.modCustody_slots (s : State) (f : Custody → Custody) : (s.modCustody f).slots = s.slots := rfl
@[simp] theorem State.modCustody_readerBus (s : State) (f : Custody → Custody) : (s.modCustody f).readerBus = s.readerBus := rfl
@[simp] theorem State.modCustody_ranging (s : State) (f : Custody → Custody) : (s.modCustody f).ranging = s.ranging := rfl
@[simp] theorem State.modCustody_demand (s : State) (f : Custody → Custody) : (s.modCustody f).demand = s.demand := rfl
@[simp] theorem State.modCustody_store (s : State) (f : Custody → Custody) : (s.modCustody f).store = s.store := rfl
@[simp] theorem State.modCustody_arbiter (s : State) (f : Custody → Custody) : (s.modCustody f).arbiter = s.arbiter := rfl
@[simp] theorem State.modCustody_resolver (s : State) (f : Custody → Custody) : (s.modCustody f).resolver = s.resolver := rfl
@[simp] theorem State.modCustody_clock (s : State) (f : Custody → Custody) : (s.modCustody f).clock = s.clock := rfl
@[simp] theorem State.modCustody_batch (s : State) (f : Custody → Custody) : (s.modCustody f).batch = s.batch := rfl
@[simp] theorem State.modCustody_log (s : State) (f : Custody → Custody) : (s.modCustody f).log = s.log := rfl
@[simp] theorem State.modCustody_probe (s : State) (f : Custody → Custody) : (s.modCustody f).probe = s.probe := rfl
@[simp] theorem State.modCustody_freeIndex (s : State) (f : Custody → Custody) : (s.modCustody f).freeIndex = s.freeIndex := rfl
@[simp] theorem State.modCustody_pending (s : State) (f : Custody → Custody) : (s.modCustody f).pending = s.pending := rfl

/-! ## modResolver -/

@[simp] theorem State.modResolver_run (s : State) (f : Resolver → Resolver) : (s.modResolver f).run = s.run := rfl
@[simp] theorem State.modResolver_resetKind (s : State) (f : Resolver → Resolver) : (s.modResolver f).resetKind = s.resetKind := rfl
@[simp] theorem State.modResolver_now (s : State) (f : Resolver → Resolver) : (s.modResolver f).now = s.now := rfl
@[simp] theorem State.modResolver_ports (s : State) (f : Resolver → Resolver) : (s.modResolver f).ports = s.ports := rfl
@[simp] theorem State.modResolver_config (s : State) (f : Resolver → Resolver) : (s.modResolver f).config = s.config := rfl
@[simp] theorem State.modResolver_profiles (s : State) (f : Resolver → Resolver) : (s.modResolver f).profiles = s.profiles := rfl
@[simp] theorem State.modResolver_hours (s : State) (f : Resolver → Resolver) : (s.modResolver f).hours = s.hours := rfl
@[simp] theorem State.modResolver_tones (s : State) (f : Resolver → Resolver) : (s.modResolver f).tones = s.tones := rfl
@[simp] theorem State.modResolver_slots (s : State) (f : Resolver → Resolver) : (s.modResolver f).slots = s.slots := rfl
@[simp] theorem State.modResolver_readerBus (s : State) (f : Resolver → Resolver) : (s.modResolver f).readerBus = s.readerBus := rfl
@[simp] theorem State.modResolver_ranging (s : State) (f : Resolver → Resolver) : (s.modResolver f).ranging = s.ranging := rfl
@[simp] theorem State.modResolver_demand (s : State) (f : Resolver → Resolver) : (s.modResolver f).demand = s.demand := rfl
@[simp] theorem State.modResolver_store (s : State) (f : Resolver → Resolver) : (s.modResolver f).store = s.store := rfl
@[simp] theorem State.modResolver_arbiter (s : State) (f : Resolver → Resolver) : (s.modResolver f).arbiter = s.arbiter := rfl
@[simp] theorem State.modResolver_clock (s : State) (f : Resolver → Resolver) : (s.modResolver f).clock = s.clock := rfl
@[simp] theorem State.modResolver_lift (s : State) (f : Resolver → Resolver) : (s.modResolver f).lift = s.lift := rfl
@[simp] theorem State.modResolver_batch (s : State) (f : Resolver → Resolver) : (s.modResolver f).batch = s.batch := rfl
@[simp] theorem State.modResolver_log (s : State) (f : Resolver → Resolver) : (s.modResolver f).log = s.log := rfl
@[simp] theorem State.modResolver_probe (s : State) (f : Resolver → Resolver) : (s.modResolver f).probe = s.probe := rfl
@[simp] theorem State.modResolver_freeIndex (s : State) (f : Resolver → Resolver) : (s.modResolver f).freeIndex = s.freeIndex := rfl
@[simp] theorem State.modResolver_pending (s : State) (f : Resolver → Resolver) : (s.modResolver f).pending = s.pending := rfl

/-! ## modBatch -/

@[simp] theorem State.modBatch_run (s : State) (f : Batch → Batch) : (s.modBatch f).run = s.run := rfl
@[simp] theorem State.modBatch_resetKind (s : State) (f : Batch → Batch) : (s.modBatch f).resetKind = s.resetKind := rfl
@[simp] theorem State.modBatch_now (s : State) (f : Batch → Batch) : (s.modBatch f).now = s.now := rfl
@[simp] theorem State.modBatch_ports (s : State) (f : Batch → Batch) : (s.modBatch f).ports = s.ports := rfl
@[simp] theorem State.modBatch_config (s : State) (f : Batch → Batch) : (s.modBatch f).config = s.config := rfl
@[simp] theorem State.modBatch_profiles (s : State) (f : Batch → Batch) : (s.modBatch f).profiles = s.profiles := rfl
@[simp] theorem State.modBatch_hours (s : State) (f : Batch → Batch) : (s.modBatch f).hours = s.hours := rfl
@[simp] theorem State.modBatch_tones (s : State) (f : Batch → Batch) : (s.modBatch f).tones = s.tones := rfl
@[simp] theorem State.modBatch_slots (s : State) (f : Batch → Batch) : (s.modBatch f).slots = s.slots := rfl
@[simp] theorem State.modBatch_readerBus (s : State) (f : Batch → Batch) : (s.modBatch f).readerBus = s.readerBus := rfl
@[simp] theorem State.modBatch_ranging (s : State) (f : Batch → Batch) : (s.modBatch f).ranging = s.ranging := rfl
@[simp] theorem State.modBatch_demand (s : State) (f : Batch → Batch) : (s.modBatch f).demand = s.demand := rfl
@[simp] theorem State.modBatch_store (s : State) (f : Batch → Batch) : (s.modBatch f).store = s.store := rfl
@[simp] theorem State.modBatch_arbiter (s : State) (f : Batch → Batch) : (s.modBatch f).arbiter = s.arbiter := rfl
@[simp] theorem State.modBatch_resolver (s : State) (f : Batch → Batch) : (s.modBatch f).resolver = s.resolver := rfl
@[simp] theorem State.modBatch_clock (s : State) (f : Batch → Batch) : (s.modBatch f).clock = s.clock := rfl
@[simp] theorem State.modBatch_lift (s : State) (f : Batch → Batch) : (s.modBatch f).lift = s.lift := rfl
@[simp] theorem State.modBatch_log (s : State) (f : Batch → Batch) : (s.modBatch f).log = s.log := rfl
@[simp] theorem State.modBatch_probe (s : State) (f : Batch → Batch) : (s.modBatch f).probe = s.probe := rfl
@[simp] theorem State.modBatch_freeIndex (s : State) (f : Batch → Batch) : (s.modBatch f).freeIndex = s.freeIndex := rfl
@[simp] theorem State.modBatch_pending (s : State) (f : Batch → Batch) : (s.modBatch f).pending = s.pending := rfl

/-! ## modStore -/

@[simp] theorem State.modStore_run (s : State) (f : Store → Store) : (s.modStore f).run = s.run := rfl
@[simp] theorem State.modStore_resetKind (s : State) (f : Store → Store) : (s.modStore f).resetKind = s.resetKind := rfl
@[simp] theorem State.modStore_now (s : State) (f : Store → Store) : (s.modStore f).now = s.now := rfl
@[simp] theorem State.modStore_ports (s : State) (f : Store → Store) : (s.modStore f).ports = s.ports := rfl
@[simp] theorem State.modStore_config (s : State) (f : Store → Store) : (s.modStore f).config = s.config := rfl
@[simp] theorem State.modStore_profiles (s : State) (f : Store → Store) : (s.modStore f).profiles = s.profiles := rfl
@[simp] theorem State.modStore_hours (s : State) (f : Store → Store) : (s.modStore f).hours = s.hours := rfl
@[simp] theorem State.modStore_tones (s : State) (f : Store → Store) : (s.modStore f).tones = s.tones := rfl
@[simp] theorem State.modStore_slots (s : State) (f : Store → Store) : (s.modStore f).slots = s.slots := rfl
@[simp] theorem State.modStore_readerBus (s : State) (f : Store → Store) : (s.modStore f).readerBus = s.readerBus := rfl
@[simp] theorem State.modStore_ranging (s : State) (f : Store → Store) : (s.modStore f).ranging = s.ranging := rfl
@[simp] theorem State.modStore_demand (s : State) (f : Store → Store) : (s.modStore f).demand = s.demand := rfl
@[simp] theorem State.modStore_arbiter (s : State) (f : Store → Store) : (s.modStore f).arbiter = s.arbiter := rfl
@[simp] theorem State.modStore_resolver (s : State) (f : Store → Store) : (s.modStore f).resolver = s.resolver := rfl
@[simp] theorem State.modStore_clock (s : State) (f : Store → Store) : (s.modStore f).clock = s.clock := rfl
@[simp] theorem State.modStore_lift (s : State) (f : Store → Store) : (s.modStore f).lift = s.lift := rfl
@[simp] theorem State.modStore_batch (s : State) (f : Store → Store) : (s.modStore f).batch = s.batch := rfl
@[simp] theorem State.modStore_log (s : State) (f : Store → Store) : (s.modStore f).log = s.log := rfl
@[simp] theorem State.modStore_probe (s : State) (f : Store → Store) : (s.modStore f).probe = s.probe := rfl
@[simp] theorem State.modStore_freeIndex (s : State) (f : Store → Store) : (s.modStore f).freeIndex = s.freeIndex := rfl
@[simp] theorem State.modStore_pending (s : State) (f : Store → Store) : (s.modStore f).pending = s.pending := rfl

/-! ## modBus -/

@[simp] theorem State.modBus_run (s : State) (f : ReaderBus → ReaderBus) : (s.modBus f).run = s.run := rfl
@[simp] theorem State.modBus_resetKind (s : State) (f : ReaderBus → ReaderBus) : (s.modBus f).resetKind = s.resetKind := rfl
@[simp] theorem State.modBus_now (s : State) (f : ReaderBus → ReaderBus) : (s.modBus f).now = s.now := rfl
@[simp] theorem State.modBus_ports (s : State) (f : ReaderBus → ReaderBus) : (s.modBus f).ports = s.ports := rfl
@[simp] theorem State.modBus_config (s : State) (f : ReaderBus → ReaderBus) : (s.modBus f).config = s.config := rfl
@[simp] theorem State.modBus_profiles (s : State) (f : ReaderBus → ReaderBus) : (s.modBus f).profiles = s.profiles := rfl
@[simp] theorem State.modBus_hours (s : State) (f : ReaderBus → ReaderBus) : (s.modBus f).hours = s.hours := rfl
@[simp] theorem State.modBus_tones (s : State) (f : ReaderBus → ReaderBus) : (s.modBus f).tones = s.tones := rfl
@[simp] theorem State.modBus_slots (s : State) (f : ReaderBus → ReaderBus) : (s.modBus f).slots = s.slots := rfl
@[simp] theorem State.modBus_ranging (s : State) (f : ReaderBus → ReaderBus) : (s.modBus f).ranging = s.ranging := rfl
@[simp] theorem State.modBus_demand (s : State) (f : ReaderBus → ReaderBus) : (s.modBus f).demand = s.demand := rfl
@[simp] theorem State.modBus_store (s : State) (f : ReaderBus → ReaderBus) : (s.modBus f).store = s.store := rfl
@[simp] theorem State.modBus_arbiter (s : State) (f : ReaderBus → ReaderBus) : (s.modBus f).arbiter = s.arbiter := rfl
@[simp] theorem State.modBus_resolver (s : State) (f : ReaderBus → ReaderBus) : (s.modBus f).resolver = s.resolver := rfl
@[simp] theorem State.modBus_clock (s : State) (f : ReaderBus → ReaderBus) : (s.modBus f).clock = s.clock := rfl
@[simp] theorem State.modBus_lift (s : State) (f : ReaderBus → ReaderBus) : (s.modBus f).lift = s.lift := rfl
@[simp] theorem State.modBus_batch (s : State) (f : ReaderBus → ReaderBus) : (s.modBus f).batch = s.batch := rfl
@[simp] theorem State.modBus_log (s : State) (f : ReaderBus → ReaderBus) : (s.modBus f).log = s.log := rfl
@[simp] theorem State.modBus_probe (s : State) (f : ReaderBus → ReaderBus) : (s.modBus f).probe = s.probe := rfl
@[simp] theorem State.modBus_freeIndex (s : State) (f : ReaderBus → ReaderBus) : (s.modBus f).freeIndex = s.freeIndex := rfl
@[simp] theorem State.modBus_pending (s : State) (f : ReaderBus → ReaderBus) : (s.modBus f).pending = s.pending := rfl

/-! ## sampleProbe -/

@[simp] theorem State.sampleProbe_run (s : State) : (s.sampleProbe).run = s.run := rfl
@[simp] theorem State.sampleProbe_resetKind (s : State) : (s.sampleProbe).resetKind = s.resetKind := rfl
@[simp] theorem State.sampleProbe_now (s : State) : (s.sampleProbe).now = s.now := rfl
@[simp] theorem State.sampleProbe_ports (s : State) : (s.sampleProbe).ports = s.ports := rfl
@[simp] theorem State.sampleProbe_config (s : State) : (s.sampleProbe).config = s.config := rfl
@[simp] theorem State.sampleProbe_profiles (s : State) : (s.sampleProbe).profiles = s.profiles := rfl
@[simp] theorem State.sampleProbe_hours (s : State) : (s.sampleProbe).hours = s.hours := rfl
@[simp] theorem State.sampleProbe_tones (s : State) : (s.sampleProbe).tones = s.tones := rfl
@[simp] theorem State.sampleProbe_slots (s : State) : (s.sampleProbe).slots = s.slots := rfl
@[simp] theorem State.sampleProbe_readerBus (s : State) : (s.sampleProbe).readerBus = s.readerBus := rfl
@[simp] theorem State.sampleProbe_ranging (s : State) : (s.sampleProbe).ranging = s.ranging := rfl
@[simp] theorem State.sampleProbe_demand (s : State) : (s.sampleProbe).demand = s.demand := rfl
@[simp] theorem State.sampleProbe_store (s : State) : (s.sampleProbe).store = s.store := rfl
@[simp] theorem State.sampleProbe_arbiter (s : State) : (s.sampleProbe).arbiter = s.arbiter := rfl
@[simp] theorem State.sampleProbe_resolver (s : State) : (s.sampleProbe).resolver = s.resolver := rfl
@[simp] theorem State.sampleProbe_clock (s : State) : (s.sampleProbe).clock = s.clock := rfl
@[simp] theorem State.sampleProbe_lift (s : State) : (s.sampleProbe).lift = s.lift := rfl
@[simp] theorem State.sampleProbe_batch (s : State) : (s.sampleProbe).batch = s.batch := rfl
@[simp] theorem State.sampleProbe_log (s : State) : (s.sampleProbe).log = s.log := rfl
@[simp] theorem State.sampleProbe_pending (s : State) : (s.sampleProbe).pending = s.pending := rfl

/-! ## The changed fields -/

@[simp] theorem State.modRanging_ranging (s : State) (f : Ranging → Ranging) : (s.modRanging f).ranging = f s.ranging := rfl
@[simp] theorem State.modLift_lift (s : State) (f : Lift → Lift) : (s.modLift f).lift = f s.lift := rfl
@[simp] theorem State.modCustody_custody (s : State) (f : Custody → Custody) :
    (s.modCustody f).lift.custody = f s.lift.custody := rfl
@[simp] theorem State.modCustody_session (s : State) (f : Custody → Custody) :
    (s.modCustody f).lift.session = s.lift.session := rfl
@[simp] theorem State.modCustody_opening (s : State) (f : Custody → Custody) :
    (s.modCustody f).lift.opening = s.lift.opening := rfl
@[simp] theorem State.modCustody_visit (s : State) (f : Custody → Custody) :
    (s.modCustody f).lift.visit = s.lift.visit := rfl
@[simp] theorem State.modCustody_linkDeadline (s : State) (f : Custody → Custody) :
    (s.modCustody f).lift.linkDeadline = s.lift.linkDeadline := rfl
@[simp] theorem State.modResolver_resolver (s : State) (f : Resolver → Resolver) :
    (s.modResolver f).resolver = f s.resolver := rfl
@[simp] theorem State.modBatch_batch (s : State) (f : Batch → Batch) : (s.modBatch f).batch = f s.batch := rfl
@[simp] theorem State.modStore_store (s : State) (f : Store → Store) : (s.modStore f).store = f s.store := rfl
@[simp] theorem State.modBus_readerBus (s : State) (f : ReaderBus → ReaderBus) :
    (s.modBus f).readerBus = f s.readerBus := rfl
@[simp] theorem State.elapse_now (s : State) (ms : Nat) : (s.elapse ms).now = s.now + ms := rfl
@[simp] theorem State.elapse_clock (s : State) (ms : Nat) : (s.elapse ms).clock = s.clock.advance ms := rfl

/-! ## A notice changes the ports alone -/

/-- A notice changes the ports alone. -/
theorem State.notify_frame (s : State) (p : Port) (n : Nat) (bs : List Byte) :
    s.notify p n bs = { s with ports := (s.notify p n bs).ports } := by
  unfold State.notify
  dsimp only
  split
  · rfl
  · split <;> rfl

@[simp] theorem State.notify_run (s : State) (p : Port) (n : Nat) (bs : List Byte) : (s.notify p n bs).run = s.run :=
  (congrArg State.run (State.notify_frame s p n bs) :)
@[simp] theorem State.notify_resetKind (s : State) (p : Port) (n : Nat) (bs : List Byte) : (s.notify p n bs).resetKind = s.resetKind :=
  (congrArg State.resetKind (State.notify_frame s p n bs) :)
@[simp] theorem State.notify_now (s : State) (p : Port) (n : Nat) (bs : List Byte) : (s.notify p n bs).now = s.now :=
  (congrArg State.now (State.notify_frame s p n bs) :)
@[simp] theorem State.notify_config (s : State) (p : Port) (n : Nat) (bs : List Byte) : (s.notify p n bs).config = s.config :=
  (congrArg State.config (State.notify_frame s p n bs) :)
@[simp] theorem State.notify_profiles (s : State) (p : Port) (n : Nat) (bs : List Byte) : (s.notify p n bs).profiles = s.profiles :=
  (congrArg State.profiles (State.notify_frame s p n bs) :)
@[simp] theorem State.notify_hours (s : State) (p : Port) (n : Nat) (bs : List Byte) : (s.notify p n bs).hours = s.hours :=
  (congrArg State.hours (State.notify_frame s p n bs) :)
@[simp] theorem State.notify_tones (s : State) (p : Port) (n : Nat) (bs : List Byte) : (s.notify p n bs).tones = s.tones :=
  (congrArg State.tones (State.notify_frame s p n bs) :)
@[simp] theorem State.notify_slots (s : State) (p : Port) (n : Nat) (bs : List Byte) : (s.notify p n bs).slots = s.slots :=
  (congrArg State.slots (State.notify_frame s p n bs) :)
@[simp] theorem State.notify_readerBus (s : State) (p : Port) (n : Nat) (bs : List Byte) : (s.notify p n bs).readerBus = s.readerBus :=
  (congrArg State.readerBus (State.notify_frame s p n bs) :)
@[simp] theorem State.notify_ranging (s : State) (p : Port) (n : Nat) (bs : List Byte) : (s.notify p n bs).ranging = s.ranging :=
  (congrArg State.ranging (State.notify_frame s p n bs) :)
@[simp] theorem State.notify_demand (s : State) (p : Port) (n : Nat) (bs : List Byte) : (s.notify p n bs).demand = s.demand :=
  (congrArg State.demand (State.notify_frame s p n bs) :)
@[simp] theorem State.notify_store (s : State) (p : Port) (n : Nat) (bs : List Byte) : (s.notify p n bs).store = s.store :=
  (congrArg State.store (State.notify_frame s p n bs) :)
@[simp] theorem State.notify_arbiter (s : State) (p : Port) (n : Nat) (bs : List Byte) : (s.notify p n bs).arbiter = s.arbiter :=
  (congrArg State.arbiter (State.notify_frame s p n bs) :)
@[simp] theorem State.notify_resolver (s : State) (p : Port) (n : Nat) (bs : List Byte) : (s.notify p n bs).resolver = s.resolver :=
  (congrArg State.resolver (State.notify_frame s p n bs) :)
@[simp] theorem State.notify_clock (s : State) (p : Port) (n : Nat) (bs : List Byte) : (s.notify p n bs).clock = s.clock :=
  (congrArg State.clock (State.notify_frame s p n bs) :)
@[simp] theorem State.notify_lift (s : State) (p : Port) (n : Nat) (bs : List Byte) : (s.notify p n bs).lift = s.lift :=
  (congrArg State.lift (State.notify_frame s p n bs) :)
@[simp] theorem State.notify_batch (s : State) (p : Port) (n : Nat) (bs : List Byte) : (s.notify p n bs).batch = s.batch :=
  (congrArg State.batch (State.notify_frame s p n bs) :)
@[simp] theorem State.notify_log (s : State) (p : Port) (n : Nat) (bs : List Byte) : (s.notify p n bs).log = s.log :=
  (congrArg State.log (State.notify_frame s p n bs) :)
@[simp] theorem State.notify_probe (s : State) (p : Port) (n : Nat) (bs : List Byte) : (s.notify p n bs).probe = s.probe :=
  (congrArg State.probe (State.notify_frame s p n bs) :)
@[simp] theorem State.notify_freeIndex (s : State) (p : Port) (n : Nat) (bs : List Byte) : (s.notify p n bs).freeIndex = s.freeIndex :=
  (congrArg State.freeIndex (State.notify_frame s p n bs) :)
@[simp] theorem State.notify_pending (s : State) (p : Port) (n : Nat) (bs : List Byte) : (s.notify p n bs).pending = s.pending :=
  (congrArg State.pending (State.notify_frame s p n bs) :)
@[simp] theorem State.post_run (s : State) (p : Port) (n : NoticeKind) (bs : List Byte) : (s.post p n bs).run = s.run := State.notify_run ..
@[simp] theorem State.post_resetKind (s : State) (p : Port) (n : NoticeKind) (bs : List Byte) : (s.post p n bs).resetKind = s.resetKind := State.notify_resetKind ..
@[simp] theorem State.post_now (s : State) (p : Port) (n : NoticeKind) (bs : List Byte) : (s.post p n bs).now = s.now := State.notify_now ..
@[simp] theorem State.post_config (s : State) (p : Port) (n : NoticeKind) (bs : List Byte) : (s.post p n bs).config = s.config := State.notify_config ..
@[simp] theorem State.post_profiles (s : State) (p : Port) (n : NoticeKind) (bs : List Byte) : (s.post p n bs).profiles = s.profiles := State.notify_profiles ..
@[simp] theorem State.post_hours (s : State) (p : Port) (n : NoticeKind) (bs : List Byte) : (s.post p n bs).hours = s.hours := State.notify_hours ..
@[simp] theorem State.post_tones (s : State) (p : Port) (n : NoticeKind) (bs : List Byte) : (s.post p n bs).tones = s.tones := State.notify_tones ..
@[simp] theorem State.post_slots (s : State) (p : Port) (n : NoticeKind) (bs : List Byte) : (s.post p n bs).slots = s.slots := State.notify_slots ..
@[simp] theorem State.post_readerBus (s : State) (p : Port) (n : NoticeKind) (bs : List Byte) : (s.post p n bs).readerBus = s.readerBus := State.notify_readerBus ..
@[simp] theorem State.post_ranging (s : State) (p : Port) (n : NoticeKind) (bs : List Byte) : (s.post p n bs).ranging = s.ranging := State.notify_ranging ..
@[simp] theorem State.post_demand (s : State) (p : Port) (n : NoticeKind) (bs : List Byte) : (s.post p n bs).demand = s.demand := State.notify_demand ..
@[simp] theorem State.post_store (s : State) (p : Port) (n : NoticeKind) (bs : List Byte) : (s.post p n bs).store = s.store := State.notify_store ..
@[simp] theorem State.post_arbiter (s : State) (p : Port) (n : NoticeKind) (bs : List Byte) : (s.post p n bs).arbiter = s.arbiter := State.notify_arbiter ..
@[simp] theorem State.post_resolver (s : State) (p : Port) (n : NoticeKind) (bs : List Byte) : (s.post p n bs).resolver = s.resolver := State.notify_resolver ..
@[simp] theorem State.post_clock (s : State) (p : Port) (n : NoticeKind) (bs : List Byte) : (s.post p n bs).clock = s.clock := State.notify_clock ..
@[simp] theorem State.post_lift (s : State) (p : Port) (n : NoticeKind) (bs : List Byte) : (s.post p n bs).lift = s.lift := State.notify_lift ..
@[simp] theorem State.post_batch (s : State) (p : Port) (n : NoticeKind) (bs : List Byte) : (s.post p n bs).batch = s.batch := State.notify_batch ..
@[simp] theorem State.post_log (s : State) (p : Port) (n : NoticeKind) (bs : List Byte) : (s.post p n bs).log = s.log := State.notify_log ..
@[simp] theorem State.post_probe (s : State) (p : Port) (n : NoticeKind) (bs : List Byte) : (s.post p n bs).probe = s.probe := State.notify_probe ..
@[simp] theorem State.post_freeIndex (s : State) (p : Port) (n : NoticeKind) (bs : List Byte) : (s.post p n bs).freeIndex = s.freeIndex := State.notify_freeIndex ..
@[simp] theorem State.post_pending (s : State) (p : Port) (n : NoticeKind) (bs : List Byte) : (s.post p n bs).pending = s.pending := State.notify_pending ..

/-! ## Slots -/

/-- The slot that was changed reads as changed. -/
@[simp] theorem State.slot_modSlot_same (s : State) (k : Slot) (f : SlotUnit → SlotUnit) :
    (s.modSlot k f).slot k = f (s.slot k) := by simp [State.modSlot, State.setSlot, State.slot]

/-- Every other slot reads as before. -/
theorem State.slot_modSlot_other (s : State) {k j : Slot} (f : SlotUnit → SlotUnit) (h : j ≠ k) :
    (s.modSlot k f).slot j = s.slot j := by
  have h' : k.val ≠ j.val := fun e => h (Fin.ext e.symm)
  simp [State.modSlot, State.setSlot, State.slot, h']

/-- A slot after a change of slot k. -/
theorem State.slot_modSlot (s : State) (k j : Slot) (f : SlotUnit → SlotUnit) :
    (s.modSlot k f).slot j = if j = k then f (s.slot j) else s.slot j := by
  split
  · rename_i h; subst h; exact s.slot_modSlot_same ..
  · exact s.slot_modSlot_other f ‹_›

/-- Two changes of one slot are one. -/
theorem State.modSlot_modSlot (s : State) (k : Slot) (f g : SlotUnit → SlotUnit) :
    (s.modSlot k f).modSlot k g = s.modSlot k (fun u => g (f u)) := by
  simp [State.modSlot, State.setSlot, State.slot]

/-- What a state with other slots holds for slot k. -/
theorem State.slot_congr {s t : State} (h : t.slots = s.slots) (k : Slot) : t.slot k = s.slot k := by
  simp [State.slot, h]

/-! ## Ports -/

@[simp] theorem Ports.get_set_same (x : Ports) (q : PortState) (p : Port) : (x.set q p).get p = q := by cases p <;> rfl

theorem Ports.get_set_other (x : Ports) (q : PortState) {p r : Port} (h : r ≠ p) : (x.set q p).get r = x.get r := by
  cases p <;> cases r <;> first | rfl | exact absurd rfl h

@[simp] theorem State.port_setPort_same (s : State) (p : Port) (q : PortState) : (s.setPort p q).port p = q :=
  Ports.get_set_same ..

theorem State.port_setPort_other (s : State) (q : PortState) {p r : Port} (h : r ≠ p) :
    (s.setPort p q).port r = s.port r := Ports.get_set_other _ _ h

/-- A port of a state with the same ports. -/
theorem State.port_congr {s t : State} (h : t.ports = s.ports) (p : Port) : t.port p = s.port p := by
  simp [State.port, h]

end Sys2Proof.Machine
end

