-- ==== Sys2Proof/Laws/Memory.lean ====
section
/-! SUPPORT. The attached memory: a read after a write, the bytes a write leaves alone, and the canonical form that every
memory operation keeps. -/

namespace Sys2Proof.Machine

/-! ## The canonical form -/

/-- An entry above a bound: the canonical form from that bound on. -/
theorem memoryWfFrom_some (low : Nat) (a : Nat) (b : Byte) (m : Memory) :
    memoryWfFrom (some low) ((a, b) :: m) = (decide (low < a) && (b != memoryDefault) && memoryWfFrom (some a) m) := rfl

/-- A lower bound may be lowered. -/
theorem memoryWfFrom_mono {low low' : Nat} (h : low' ≤ low) {m : Memory} (w : memoryWfFrom (some low) m = true) :
    memoryWfFrom (some low') m = true := by
  cases m with
  | nil => rfl
  | cons x m =>
    obtain ⟨a, b⟩ := x
    simp only [memoryWfFrom_some, Bool.and_eq_true, decide_eq_true_eq] at w ⊢
    exact ⟨⟨by omega, w.1.2⟩, w.2⟩

/-- A bound may be dropped. -/
theorem memoryWfFrom_none {low : Nat} {m : Memory} (w : memoryWfFrom (some low) m = true) :
    memoryWfFrom none m = true := by
  cases m with
  | nil => rfl
  | cons x m =>
    obtain ⟨a, b⟩ := x
    simp only [memoryWfFrom_some, Bool.and_eq_true, decide_eq_true_eq] at w
    simp only [memoryWfFrom, Bool.and_eq_true]
    exact ⟨w.1.2, w.2⟩

/-- A write above a bound keeps the canonical form from that bound on. -/
theorem memoryWfFrom_write {low a : Nat} (v : Byte) (h : low < a) {m : Memory} (w : memoryWfFrom (some low) m = true) :
    memoryWfFrom (some low) (Memory.write a v m) = true := by
  induction m generalizing low with
  | nil =>
    by_cases e : v = memoryDefault <;> simp [Memory.write, memoryWfFrom, e, h]
  | cons x m ih =>
    obtain ⟨y, b⟩ := x
    simp only [memoryWfFrom_some, Bool.and_eq_true, decide_eq_true_eq] at w
    obtain ⟨⟨hy, hb⟩, hm⟩ := w
    rw [Memory.write]
    split
    · rename_i hay
      split
      · simp [memoryWfFrom_some, hy, hb, hm]
      · rename_i hv
        simp [memoryWfFrom_some, h, hv, hay, hb, hm]
    · split
      · rename_i e; subst e
        split
        · exact memoryWfFrom_mono (Nat.le_of_lt hy) hm
        · rename_i hv
          simp [memoryWfFrom_some, hy, hv, hm]
      · simp only [memoryWfFrom_some, Bool.and_eq_true, decide_eq_true_eq]
        exact ⟨⟨hy, hb⟩, ih (by omega) hm⟩

/-- A write of one byte keeps the canonical form. -/
theorem Memory.wf_write (a : Nat) (v : Byte) {m : Memory} (w : m.wf = true) : (Memory.write a v m).wf = true := by
  unfold Memory.wf at w ⊢
  cases m with
  | nil => by_cases e : v = memoryDefault <;> simp [Memory.write, memoryWfFrom, e]
  | cons x m =>
    obtain ⟨y, b⟩ := x
    simp only [memoryWfFrom, Bool.and_eq_true] at w
    rw [Memory.write]
    split
    · rename_i hay
      split
      · simp [memoryWfFrom, w.1, w.2]
      · rename_i hv
        simp [memoryWfFrom, hv, hay, w.1, w.2]
    · split
      · split
        · exact memoryWfFrom_none w.2
        · rename_i e hv
          simp [memoryWfFrom, hv, e, w.2]
      · simp only [memoryWfFrom, Bool.and_eq_true]
        exact ⟨w.1, memoryWfFrom_write v (by omega) w.2⟩

/-- A write of bytes keeps the canonical form. -/
theorem Memory.wf_writeBytes (a : Nat) (bs : List Byte) {m : Memory} (w : m.wf = true) :
    (Memory.writeBytes a bs m).wf = true := by
  induction bs generalizing a m with
  | nil => exact w
  | cons b bs ih => exact ih _ (Memory.wf_write a b w)

/-- The memory of the reset state has the canonical form. -/
theorem memory_wf_reset : State.reset.store.mem.wf = true := rfl

/-! ## Reading what was written -/

/-- Below the first address a canonical memory reads as the default. -/
theorem Memory.read_below {low a : Nat} (h : a ≤ low) {m : Memory} (w : memoryWfFrom (some low) m = true) :
    Memory.read a m = memoryDefault := by
  cases m with
  | nil => rfl
  | cons x m =>
    obtain ⟨y, b⟩ := x
    simp only [memoryWfFrom_some, Bool.and_eq_true, decide_eq_true_eq] at w
    rw [Memory.read, if_neg (by omega), if_pos (by omega)]

/-- The byte written reads back. -/
theorem Memory.read_write_same (a : Nat) (v : Byte) {m : Memory} (w : m.wf = true) :
    Memory.read a (Memory.write a v m) = v := by
  suffices H : ∀ (m : Memory) (lo : Option Nat), memoryWfFrom lo m = true → Memory.read a (Memory.write a v m) = v from
    H m none w
  intro m
  induction m with
  | nil => intro _ _; by_cases e : v = memoryDefault <;> simp [Memory.write, Memory.read, e]
  | cons x m ih =>
    intro lo hw
    obtain ⟨y, b⟩ := x
    have hm : memoryWfFrom (some y) m = true := by
      cases lo <;> simp only [memoryWfFrom, Bool.and_eq_true] at hw <;> exact hw.2
    rw [Memory.write]
    split
    · rename_i hay
      split
      · rename_i hv
        rw [Memory.read, if_neg (by omega), if_pos hay, hv]
      · simp [Memory.read]
    · split
      · rename_i e
        split
        · rename_i hv
          rw [Memory.read_below (Nat.le_of_eq e) hm, hv]
        · simp [Memory.read, e]
      · rw [Memory.read, if_neg (by omega), if_neg (by omega)]
        exact ih _ hm

/-- Every other byte reads as before. -/
theorem Memory.read_write_other {a c : Nat} (v : Byte) (h : c ≠ a) {m : Memory} (w : m.wf = true) :
    Memory.read c (Memory.write a v m) = Memory.read c m := by
  suffices H : ∀ (m : Memory) (lo : Option Nat), memoryWfFrom lo m = true →
      Memory.read c (Memory.write a v m) = Memory.read c m from H m none w
  intro m
  induction m with
  | nil =>
    intro _ _
    by_cases e : v = memoryDefault
    · simp [Memory.write, e]
    · simp [Memory.write, e, Memory.read, Ne.symm h]
  | cons x m ih =>
    intro lo hw
    obtain ⟨y, b⟩ := x
    have hm : memoryWfFrom (some y) m = true := by
      cases lo <;> simp only [memoryWfFrom, Bool.and_eq_true] at hw <;> exact hw.2
    rw [Memory.write]
    split
    · rename_i hay
      split
      · rfl
      · rw [Memory.read, if_neg (Ne.symm h)]
        split
        · rename_i hca
          rw [Memory.read, if_neg (by omega), if_pos (by omega)]
        · rfl
    · split
      · rename_i e
        split
        · by_cases hc : c ≤ y
          · rw [Memory.read_below hc hm, Memory.read, if_neg (by omega), if_pos (by omega)]
          · rw [Memory.read, if_neg (by omega), if_neg (by omega)]
        · subst e
          simp [Memory.read, Ne.symm h]
      · simp only [Memory.read]
        split
        · rfl
        · split
          · rfl
          · exact ih _ hm

/-- Bytes outside those written read as before. -/
theorem Memory.read_writeBytes_outside (bs : List Byte) {a c : Nat} (h : c < a ∨ a + bs.length ≤ c) {m : Memory}
    (w : m.wf = true) : Memory.read c (Memory.writeBytes a bs m) = Memory.read c m := by
  induction bs generalizing a m with
  | nil => rfl
  | cons b bs ih =>
    simp only [List.length_cons] at h
    rw [Memory.writeBytes, ih (by omega) (Memory.wf_write a b w), Memory.read_write_other b (by omega) w]

/-- The bytes written read back. -/
theorem Memory.readBytes_writeBytes (bs : List Byte) (a : Nat) {m : Memory} (w : m.wf = true) :
    Memory.readBytes a bs.length (Memory.writeBytes a bs m) = bs := by
  induction bs generalizing a m with
  | nil => rfl
  | cons b bs ih =>
    have h1 := Memory.wf_write a b w
    rw [List.length_cons, Memory.readBytes, Memory.writeBytes, ih (a + 1) h1,
      Memory.read_writeBytes_outside bs (by omega) h1, Memory.read_write_same a b w]

end Sys2Proof.Machine
end

