-- ==== Sys2Proof/Laws/Kept.lean ====
section
/-! SUPPORT. Properties that the operations keep. A `Kept` property is one that the few primitive changes of the parts it
may depend on keep: the attached memory, the ports, the demand queue, the ranging queue, the waiting charges, the
starvation count, the log, the records and fills of the slots. The lemmas of this file and of KeptUnits.lean say that
every shared operation then keeps it. -/

namespace Sys2Proof.Machine

/-- Two states agree on everything that a `Kept` property may depend on. -/
structure SameCore (s t : State) : Prop where
  mem : t.store.mem = s.store.mem := by rfl
  headerRead : t.store.headerRead = s.store.headerRead := by rfl
  ports : t.ports = s.ports := by rfl
  demand : t.demand = s.demand := by rfl
  queue : t.ranging.queue = s.ranging.queue := by rfl
  charges : t.resolver.charges = s.resolver.charges := by rfl
  frozen : t.resolver.frozen = s.resolver.frozen := by rfl
  starvation : t.arbiter.starvation = s.arbiter.starvation := by rfl
  records : t.log.records = s.log.records := by rfl
  seq : t.log.seq = s.log.seq := by rfl
  slots : t.slots = s.slots := by rfl
  run : t.run = s.run := by rfl
  config : t.config = s.config := by rfl
  profiles : t.profiles = s.profiles := by rfl
  hours : t.hours = s.hours := by rfl
  tones : t.tones = s.tones := by rfl
  clock : t.clock = s.clock := by rfl
  pending : t.pending = s.pending := by rfl

/-- A property of states that the primitive changes keep. -/
structure Kept where
  P : State → Prop
  frame : ∀ {s t : State}, SameCore s t → P s → P t
  elapse : ∀ {s : State} (ms : Nat), P s → P (s.elapse ms)
  slot : ∀ {s : State} (k : Slot) (f : SlotUnit → SlotUnit),
    (f (s.slot k)).record = (s.slot k).record ∧ (f (s.slot k)).configured = (s.slot k).configured →
    ((s.slot k).inRange → (f (s.slot k)).inRange) → P s → P (s.modSlot k f)
  notify : ∀ {s : State} (p : Port) (n : Nat) (bs : List Byte), P s → P (s.notify p n bs)
  memOk : Prop
  mem : memOk → ∀ {s : State} (a : Nat) (bs : List Byte), P s →
    P { s with store := { s.store with mem := Memory.writeBytes a bs s.store.mem } }
  raise : ∀ {s : State} (e : DemandEntry), s.demandOf e.slot = none → P s → P { s with demand := demandInsert e s.demand }
  rehf : ∀ {s : State} (k : Slot) (hf : Nat) (e : DemandEntry), s.demandOf k = some e → P s →
    P { s with demand := demandInsert { e with hf := hf } (demandRemove k s.demand) }
  mark : ∀ {s : State} (k : Slot) (f : DemandEntry → DemandEntry),
    (∀ e, (f e).slot = e.slot ∧ (f e).hf = e.hf ∧ (f e).raised = e.raised) → P s → P (s.modDemand k f)
  unraise : ∀ {s : State} (k : Slot), P s → P { s with demand := demandRemove k s.demand }
  enqueue : ∀ {s : State} (b : Bool) (k : Slot) (c : RangeCause), P s →
    P (s.modRanging fun x => { x with queue := queueAfter b k c x.queue })
  dequeue : ∀ {s : State} (k : Slot), P s → P (s.modRanging fun x => { x with queue := removeRange k x.queue })
  chargeIn : ∀ {s : State} (n : CardNo), P s → P (s.modResolver fun r => { r with charges := enterCharge n r.charges })
  chargeOut : ∀ {s : State} {c : Charge} {cs : List Charge}, s.resolver.charges = c :: cs → P s →
    P (s.modResolver fun r => { r with charges := cs })
  chargesOut : ∀ {s : State}, P s → P (s.modResolver fun r => { r with charges := [] })
  starve : ∀ {s : State} (n : Nat), n ≤ 4 → P s → P { s with arbiter := { s.arbiter with starvation := n } }
  append : ∀ {s : State} (b : LogBody), P s →
    P { s with log := { s.log with records := s.log.records ++ [⟨s.log.seq, b⟩], seq := (s.log.seq + 1) % 65536 } }

/-- The property holds of a state. -/
def Kept.holds (I : Kept) (s : State) : Prop := I.P s

variable {I : Kept} {s : State}

/-- A state that agrees on the core has the property too. -/
theorem Kept.same (I : Kept) {s t : State} (hs : I.holds s) (h : SameCore s t) : I.holds t := I.frame h hs

theorem Kept.ite {c : Prop} [Decidable c] {a b : State} (ha : I.holds a) (hb : I.holds b) :
    I.holds (if c then a else b) := by split <;> assumption

/-! ## Changes outside the core -/

@[simp] theorem Kept.elapsed (ms : Nat) (h : I.holds s) : I.holds (s.elapse ms) := I.elapse ms h
@[simp] theorem Kept.elapseTo (d : Nat) (h : I.holds s) : I.holds (s.elapseTo d) := I.elapse _ h
@[simp] theorem Kept.modLift (f : Lift → Lift) (h : I.holds s) : I.holds (s.modLift f) :=
  I.same h {}
@[simp] theorem Kept.modCustody (f : Custody → Custody) (h : I.holds s) : I.holds (s.modCustody f) := Kept.modLift _ h
@[simp] theorem Kept.modBatch (f : Batch → Batch) (h : I.holds s) : I.holds (s.modBatch f) :=
  I.same h {}
@[simp] theorem Kept.modBus (f : ReaderBus → ReaderBus) (h : I.holds s) : I.holds (s.modBus f) :=
  I.same h {}
@[simp] theorem Kept.sampleProbe (h : I.holds s) : I.holds s.sampleProbe :=
  I.same h {}

/-- A change of the Card Resolver that leaves the waiting charges. -/
theorem Kept.modResolver {f : Resolver → Resolver} (hf : ∀ r, (f r).charges = r.charges ∧ (f r).frozen = r.frozen)
    (h : I.holds s) : I.holds (s.modResolver f) := I.same h { charges := (hf _).1, frozen := (hf _).2 }

/-- A change of the Ranging Unit that leaves its queue. -/
theorem Kept.modRanging {f : Ranging → Ranging} (hf : ∀ r, (f r).queue = r.queue) (h : I.holds s) :
    I.holds (s.modRanging f) := I.same h { queue := hf _ }

/-- A change of the Card Store Interface that leaves the memory and the header read. -/
theorem Kept.modStore {f : Store → Store} (hf : ∀ x, (f x).mem = x.mem ∧ (f x).headerRead = x.headerRead)
    (h : I.holds s) : I.holds (s.modStore f) :=
  I.same h { mem := (hf _).1, headerRead := (hf _).2 }

/-! ## Slots -/

/-- A change of a slot that leaves its record and its fill. -/
theorem Kept.light {k : Slot} {f : SlotUnit → SlotUnit} (hf : ∀ u, (f u).record = u.record ∧ (f u).fill = u.fill ∧ (f u).configured = u.configured)
    (h : I.holds s) : I.holds (s.modSlot k f) :=
  I.slot k f ⟨(hf _).1, (hf _).2.2⟩ (fun hu => by unfold SlotUnit.inRange at hu ⊢; rw [(hf _).1, (hf _).2.1]; exact hu) h

/-- A change for each slot in turn. -/
theorem Kept.foldl {α : Type} {f : State → α → State} (hf : ∀ t a, I.holds t → I.holds (f t a)) (l : List α)
    (h : I.holds s) : I.holds (l.foldl f s) := by
  induction l generalizing s with
  | nil => exact h
  | cons a l ih => exact ih (hf _ _ h)

theorem Kept.eachSlot {f : Slot → State → State} (hf : ∀ k t, I.holds t → I.holds (f k t)) (h : I.holds s) :
    I.holds (s.eachSlot f) := Kept.foldl (fun t k => hf k t) _ h

/-! ## Notices and bars (R12 to R14) -/

@[simp] theorem Kept.notified (p : Port) (n : Nat) (bs : List Byte) (h : I.holds s) : I.holds (s.notify p n bs) :=
  I.notify p n bs h
@[simp] theorem Kept.post (p : Port) (n : NoticeKind) (bs : List Byte) (h : I.holds s) : I.holds (s.post p n bs) :=
  I.notify _ _ _ h

@[simp] theorem Kept.postBarChange (k : Slot) (b : Bar) (v : Bool) (h : I.holds s) : I.holds (s.postBarChange k b v) := by
  unfold State.postBarChange; dsimp only; split <;> simp (maxDischargeDepth := 40) [h]

@[simp] theorem Kept.changeBar (k : Slot) (b : Bar) (v : Bool) (h : I.holds s) : I.holds (s.changeBar k b v) := by
  unfold State.changeBar
  split
  · exact Kept.postBarChange _ _ _ (Kept.light (fun _ => ⟨rfl, rfl, rfl⟩) h)
  · exact h

/-! ## The log (R171 to R176) -/

@[simp] theorem Kept.evaluateLogAt (short : Bool) (k : Slot) (h : I.holds s) : I.holds (s.evaluateLogAt short k) := by
  unfold State.evaluateLogAt; split <;> simp (maxDischargeDepth := 40) [h]

@[simp] theorem Kept.evaluateLog (h : I.holds s) : I.holds s.evaluateLog :=
  Kept.eachSlot (fun k _ ht => Kept.evaluateLogAt _ k ht) h

@[simp] theorem Kept.logLevel (h : I.holds s) : I.holds s.logLevel := by
  unfold State.logLevel
  split
  · exact I.same (Kept.post .office .logLevel (logLevelPayload s) h)
      {}
  · exact h

@[simp] theorem Kept.logAppend (b : LogBody) (h : I.holds s) : I.holds (s.logAppend b) :=
  Kept.logLevel (Kept.evaluateLog (I.append b h))

@[simp] theorem Kept.logOffer (b : LogBody) (h : I.holds s) : I.holds (s.logOffer b) := by
  unfold State.logOffer
  split
  · exact Kept.logAppend b h
  · exact I.same h {}

@[simp] theorem Kept.alert (a : Alert) (h : I.holds s) : I.holds (s.alert a) := Kept.logOffer _ h

/-! ## Demand (R128 to R135) -/

@[simp] theorem Kept.announceDemand (k : Slot) (n : RaiseKind) (h : I.holds s) : I.holds (s.announceDemand k n) := by
  unfold State.announceDemand
  split
  · exact h
  · dsimp only
    split
    · exact I.mark k _ (fun _ => ⟨rfl, rfl, rfl⟩) (Kept.post _ _ _ h)
    · exact Kept.post _ _ _ h

@[simp] theorem Kept.raiseDemand (k : Slot) (c : DemandCause) (hf : Nat) (h : I.holds s) :
    I.holds (s.raiseDemand k c hf) := by
  unfold State.raiseDemand
  split
  · exact h
  · rename_i hn
    exact Kept.announceDemand _ _ (I.raise _ (by simpa using hn) h)

@[simp] theorem Kept.raiseCause (k : Slot) (c : DemandCause) (h : I.holds s) : I.holds (s.raiseCause k c) :=
  Kept.announceDemand _ _ (I.mark k _ (fun _ => ⟨rfl, rfl, rfl⟩) h)

@[simp] theorem Kept.demandHf (k : Slot) (hf : Nat) (h : I.holds s) : I.holds (s.demandHf k hf) := by
  unfold State.demandHf
  split
  · exact h
  · exact I.rehf k hf _ ‹_› h

@[simp] theorem Kept.clearDemand (k : Slot) (r : ClearReason) (h : I.holds s) : I.holds (s.clearDemand k r) := by
  unfold State.clearDemand
  split
  · exact h
  · exact Kept.post _ _ _ (I.unraise k h)

@[simp] theorem Kept.repeatDemand (h : I.holds s) : I.holds s.repeatDemand :=
  Kept.foldl (fun _ e ht => Kept.announceDemand e.slot .again ht) _ h

/-! ## Custody (R142 to R155) -/

@[simp] theorem Kept.setHatch (k : Slot) (b : Bool) (h : I.holds s) : I.holds (s.setHatch k b) :=
  Kept.light (fun _ => ⟨rfl, rfl, rfl⟩) h
@[simp] theorem Kept.setDrumLock (k : Slot) (b : Bool) (h : I.holds s) : I.holds (s.setDrumLock k b) :=
  Kept.light (fun _ => ⟨rfl, rfl, rfl⟩) h
@[simp] theorem Kept.dropTip (k : Slot) (h : I.holds s) : I.holds (s.dropTip k) := Kept.light (fun _ => ⟨rfl, rfl, rfl⟩) h

@[simp] theorem Kept.postCustody (k : Slot) (st : CustodyState) (r : Option CustodyReason) (h : I.holds s) :
    I.holds (s.postCustody k st r) := by unfold State.postCustody; split <;> simp (maxDischargeDepth := 40) [h]

@[simp] theorem Kept.enterCustody (st : CustodyState) (d : Option Nat) (h : I.holds s) : I.holds (s.enterCustody st d) :=
  Kept.evaluateLog (Kept.modCustody _ h)

@[simp] theorem Kept.clearCustody (k : Slot) (h : I.holds s) : I.holds (s.clearCustody k) := by
  simp (maxDischargeDepth := 40) [State.clearCustody, h]

@[simp] theorem Kept.endCustody (k : Slot) (r : Option CustodyReason) (h : I.holds s) : I.holds (s.endCustody k r) := by
  unfold State.endCustody
  cases r <;> dsimp only
  · simp (maxDischargeDepth := 40) [h]
  · split <;> simp (maxDischargeDepth := 40) [h]

@[simp] theorem Kept.slotQuiet (k : Slot) (h : I.holds s) : I.holds (s.slotQuiet k) := by
  unfold State.slotQuiet
  split
  · split <;> simp (maxDischargeDepth := 40) [h]
  · exact h

@[simp] theorem Kept.completeVisit (h : I.holds s) : I.holds s.completeVisit := by
  unfold State.completeVisit; split <;> simp (maxDischargeDepth := 40) [h]

/-! ## The Store Arbiter (R75 to R77) -/

/-- The starvation count after a grant is in range or unchanged. -/
theorem Arbiter.countAfter_cases (a : Arbiter) (r : Requester) : a.countAfter r ≤ 4 ∨ a.countAfter r = a.starvation := by
  cases r <;> simp only [Arbiter.countAfter]
  · split <;> omega
  · split <;> omega
  · omega

/-- A change of the Arbiter that leaves the starvation count. -/
theorem Kept.arbiter {a : Arbiter} (ha : a.starvation = s.arbiter.starvation) (h : I.holds s) :
    I.holds { s with arbiter := a } := I.same h { starvation := ha }

/-- A change of the Arbiter that leaves the starvation count in range. -/
theorem Kept.arbiterIn {a : Arbiter} (ha : a.starvation ≤ 4) (h : I.holds s) : I.holds { s with arbiter := a } :=
  I.same (I.starve a.starvation ha h)
    {}

theorem Arbiter.setSide_starvation (a : Arbiter) (x : ArbiterSide) (r : Requester) :
    (a.setSide x r).starvation = a.starvation := by cases r <;> rfl

@[simp] theorem Kept.grant (r : Requester) (h : I.holds s) : I.holds (s.grant r) := by
  unfold State.grant
  split
  · exact h
  · rcases Arbiter.countAfter_cases s.arbiter r with e | e
    · exact Kept.arbiterIn e h
    · exact Kept.arbiter e h

@[simp] theorem Kept.tryGrant (h : I.holds s) : I.holds s.tryGrant := by
  unfold State.tryGrant
  split
  · exact h
  · split <;> simp (maxDischargeDepth := 40) [h]

@[simp] theorem Kept.placeRequest (r : Requester) (q : StoreRequest) (h : I.holds s) : I.holds (s.placeRequest r q) :=
  Kept.tryGrant (Kept.arbiter (Arbiter.setSide_starvation ..) h)
@[simp] theorem Kept.endWork (r : Requester) (h : I.holds s) : I.holds (s.endWork r) :=
  Kept.tryGrant (Kept.arbiter (Arbiter.setSide_starvation ..) h)
@[simp] theorem Kept.withdrawBatch (h : I.holds s) : I.holds s.withdrawBatch := Kept.arbiterIn (by simp) h
@[simp] theorem Kept.arbiterLoss (h : I.holds s) : I.holds s.arbiterLoss := Kept.arbiterIn (by simp) h

end Sys2Proof.Machine
end

