-- ==== Sys2Proof/Laws/KeptUnits.lean ====
section
/-! SUPPORT. Every shared operation of the cache, the charges, the reader bus, the sessions, the fill estimation, the
Ranging Unit, the pit lines, the lookups, the Batch Engine and the Card Store Interface keeps a `Kept` property. -/

namespace Sys2Proof.Machine

variable {I : Kept} {s : State}

/-! ## The cache and the charges (R78 to R95) -/

@[simp] theorem Kept.setCacheSet (n : CardNo) (x : CacheSet) (h : I.holds s) : I.holds (s.setCacheSet n x) :=
  Kept.modResolver (fun _ => ⟨rfl, rfl⟩) h

@[simp] theorem Kept.touchCache (n : CardNo) (h : I.holds s) : I.holds (s.touchCache n) := by
  unfold State.touchCache; split <;> simp (maxDischargeDepth := 40) [h]

@[simp] theorem Kept.modCached (n : CardNo) (f : CacheEntry → CacheEntry) (h : I.holds s) :
    I.holds (s.modCached n f) := by unfold State.modCached; split <;> simp (maxDischargeDepth := 40) [h]

@[simp] theorem Kept.fillCache (e : CacheEntry) (h : I.holds s) : I.holds (s.fillCache e) := Kept.setCacheSet _ _ h

@[simp] theorem Kept.flushCache (h : I.holds s) : I.holds s.flushCache := Kept.modResolver (fun _ => ⟨rfl, rfl⟩) h

/-- The job takes the head of the waiting charges: the queue loses its head, the job is set. -/
theorem Kept.takeHead {c : Charge} {cs : List Charge} {j : Option ChargeJob} (hc : s.resolver.charges = c :: cs)
    (h : I.holds s) : I.holds (s.modResolver fun r => { r with charges := cs, job := j }) :=
  I.same (I.chargeOut hc h) {}

@[simp] theorem Kept.takeCharge (h : I.holds s) : I.holds s.takeCharge := by
  unfold State.takeCharge
  split
  · rename_i hc
    split
    · exact Kept.placeRequest _ _ (Kept.takeHead hc h)
    · exact Kept.placeRequest _ _ (Kept.takeHead hc h)
  · exact h

@[simp] theorem Kept.dropCached (n : CardNo) (h : I.holds s) : I.holds (s.dropCached n) := Kept.setCacheSet _ _ h

@[simp] theorem Kept.chargeCache (n : CardNo) (h : I.holds s) : I.holds (s.chargeCache n) := Kept.modCached _ _ h

@[simp] theorem Kept.charge (n : CardNo) (h : I.holds s) : I.holds (s.charge n) := by
  unfold State.charge
  dsimp only
  split
  · exact Kept.takeCharge (I.chargeIn n (Kept.chargeCache n h))
  · exact Kept.chargeCache n h

@[simp] theorem Kept.setChargePhase (ph : ChargePhase) (h : I.holds s) : I.holds (s.setChargePhase ph) :=
  Kept.modResolver (fun _ => ⟨rfl, rfl⟩) h

@[simp] theorem Kept.freeLocation (n : CardNo) (h : I.holds s) : I.holds (s.freeLocation n) :=
  Kept.modResolver (fun _ => ⟨rfl, rfl⟩) h

@[simp] theorem Kept.nextCharge (h : I.holds s) : I.holds s.nextCharge :=
  Kept.takeCharge (Kept.modResolver (fun _ => ⟨rfl, rfl⟩) h)

@[simp] theorem Kept.writeCharge (j : ChargeJob) (b : Bucket) (p : Position) (r : CardRecord) (h : I.holds s) :
    I.holds (s.writeCharge j b p r) := Kept.placeRequest _ _ (Kept.setChargePhase _ h)

@[simp] theorem Kept.dropCharge (c : Charge) (h : I.holds s) : I.holds (s.dropCharge c) :=
  Kept.nextCharge (Kept.alert _ (Kept.endWork _ h))

@[simp] theorem Kept.chargeSearch (j : ChargeJob) (st : SearchStep) (h : I.holds s) : I.holds (s.chargeSearch j st) := by
  unfold State.chargeSearch; split <;> simp (maxDischargeDepth := 40) [h]

@[simp] theorem Kept.refreshCached (n : CardNo) (w : CardRecord) (h : I.holds s) : I.holds (s.refreshCached n w) := by
  unfold State.refreshCached; split <;> simp (maxDischargeDepth := 40) [h]

@[simp] theorem Kept.chargeHanded (t : Transaction) (o : Handed) (h : I.holds s) : I.holds (s.chargeHanded t o) := by
  unfold State.chargeHanded
  split
  · exact h
  · split
    · split <;> simp (maxDischargeDepth := 40) [h]
    · simp (maxDischargeDepth := 40) [h]
    · simp (maxDischargeDepth := 40) [h]
    · simp (maxDischargeDepth := 40) [h]
    · split <;> simp (maxDischargeDepth := 40) [h]
    · exact h

@[simp] theorem Kept.chargesLoss (h : I.holds s) : I.holds s.chargesLoss := by
  unfold State.chargesLoss
  split
  · exact h
  · exact Kept.alert _ (I.same (I.chargesOut h) {})

/-! ## The reader bus (R96 to R99) -/

@[simp] theorem Kept.modReader (k : Slot) (f : Reader → Reader) (h : I.holds s) : I.holds (s.modReader k f) :=
  Kept.light (fun _ => ⟨rfl, rfl, rfl⟩) h

@[simp] theorem Kept.poll (k : Slot) (h : I.holds s) : I.holds (s.poll k) := Kept.modBus _ (Kept.modReader _ _ h)

@[simp] theorem Kept.passTurn (h : I.holds s) : I.holds s.passTurn := by
  unfold State.passTurn; split <;> simp (maxDischargeDepth := 40) [h]

@[simp] theorem Kept.afterPoll (k : Slot) (h : I.holds s) : I.holds (s.afterPoll k) := by
  unfold State.afterPoll; split <;> simp (maxDischargeDepth := 40) [h]

@[simp] theorem Kept.wakeBus (h : I.holds s) : I.holds s.wakeBus := by
  unfold State.wakeBus; split <;> simp (maxDischargeDepth := 40) [h]

@[simp] theorem Kept.leaveRotation (k : Slot) (h : I.holds s) : I.holds (s.leaveRotation k) := Kept.modReader _ _ h

@[simp] theorem Kept.askTone (k : Slot) (p : TonePattern) (h : I.holds s) : I.holds (s.askTone k p) := by
  unfold State.askTone; split <;> simp (maxDischargeDepth := 40) [h]

@[simp] theorem Kept.unanswered (k : Slot) (h : I.holds s) : I.holds (s.unanswered k) := by
  unfold State.unanswered; dsimp only; split <;> simp (maxDischargeDepth := 40) [h]

@[simp] theorem Kept.answered (k : Slot) (h : I.holds s) : I.holds (s.answered k) := by
  unfold State.answered; dsimp only; split <;> simp (maxDischargeDepth := 40) [h]

/-! ## Intake sessions (R100 to R117) -/

@[simp] theorem Kept.modIntake (k : Slot) (f : Intake → Intake) (h : I.holds s) : I.holds (s.modIntake k f) :=
  Kept.light (fun _ => ⟨rfl, rfl, rfl⟩) h

@[simp] theorem Kept.setIntake (k : Slot) (x : IntakeState) (h : I.holds s) : I.holds (s.setIntake k x) :=
  Kept.modIntake _ _ h

@[simp] theorem Kept.logSession (k : Slot) (c : Session) (r : EndReason) (h : I.holds s) :
    I.holds (s.logSession k c r) := by unfold State.logSession; dsimp only; split <;> simp (maxDischargeDepth := 40) [h]

@[simp] theorem Kept.startDelay (k : Slot) (c : Session) (h : I.holds s) : I.holds (s.startDelay k c) := by
  unfold State.startDelay
  split
  · exact Kept.light (fun _ => ⟨rfl, rfl, rfl⟩) h
  · exact h

@[simp] theorem Kept.closeSession (k : Slot) (c : Session) (r : EndReason) (h : I.holds s) :
    I.holds (s.closeSession k c r) := by simp (maxDischargeDepth := 40) [State.closeSession, h]

@[simp] theorem Kept.endSession (k : Slot) (r : EndReason) (h : I.holds s) : I.holds (s.endSession k r) := by
  unfold State.endSession
  split
  · dsimp only
    split <;> simp (maxDischargeDepth := 40) [h]
  all_goals exact h

@[simp] theorem Kept.homeTests (k : Slot) (h : I.holds s) : I.holds (s.homeTests k) := by
  unfold State.homeTests
  split
  · split <;> simp (maxDischargeDepth := 40) [h]
  all_goals exact h

@[simp] theorem Kept.barOnSession (k : Slot) (b : Bar) (h : I.holds s) : I.holds (s.barOnSession k b) := by
  unfold State.barOnSession
  split
  · simp (maxDischargeDepth := 40) [h]
  all_goals first | exact h | exact Kept.ite (Kept.homeTests _ h) h

@[simp] theorem Kept.setBar (k : Slot) (b : Bar) (h : I.holds s) : I.holds (s.setBar k b) := by
  unfold State.setBar; split <;> simp (maxDischargeDepth := 40) [h]

@[simp] theorem Kept.setFull (e : Bool) (k : Slot) (h : I.holds s) : I.holds (s.setFull e k) := by
  unfold State.setFull; split <;> simp (maxDischargeDepth := 40) [h]

@[simp] theorem Kept.denyVerifying (k : Slot) (d : DenyReason) (h : I.holds s) : I.holds (s.denyVerifying k d) := by
  simp (maxDischargeDepth := 40) [State.denyVerifying, h]

@[simp] theorem Kept.startIdle (k : Slot) (h : I.holds s) : I.holds (s.startIdle k) := Kept.modIntake _ _ h

@[simp] theorem Kept.grantSession (k : Slot) (n : CardNo) (a : Admission) (l : Nat) (h : I.holds s) :
    I.holds (s.grantSession k n a l) := by
  unfold State.grantSession
  dsimp only
  refine Kept.evaluateLog (Kept.ite ?_ ?_) <;> simp (maxDischargeDepth := 40) [h]

@[simp] theorem Kept.decideIntake (k : Slot) (o : LookupOutcome) (h : I.holds s) : I.holds (s.decideIntake k o) := by
  unfold State.decideIntake
  split
  · split <;> simp (maxDischargeDepth := 40) [h]
  all_goals exact h

@[simp] theorem Kept.intakeTurnBegins (k : Slot) (h : I.holds s) : I.holds (s.intakeTurnBegins k) := by
  unfold State.intakeTurnBegins; split <;> simp (maxDischargeDepth := 40) [h]

@[simp] theorem Kept.chargeTurn (c : Session) (b : Bool) (h : I.holds s) : I.holds (s.chargeTurn c b) := by
  unfold State.chargeTurn; split <;> simp (maxDischargeDepth := 40) [h]

@[simp] theorem Kept.intakeTurnEnds (k : Slot) (b : Bool) (h : I.holds s) : I.holds (s.intakeTurnEnds k b) := by
  unfold State.intakeTurnEnds; split <;> simp (maxDischargeDepth := 40) [h]

@[simp] theorem Kept.withdrawCardAt (n : CardNo) (k : Slot) (h : I.holds s) : I.holds (s.withdrawCardAt n k) := by
  unfold State.withdrawCardAt
  split
  · dsimp only
    split
    · split <;> simp (maxDischargeDepth := 40) [h]
    · exact h
  all_goals exact h

@[simp] theorem Kept.withdrawCard (n : CardNo) (h : I.holds s) : I.holds (s.withdrawCard n) :=
  Kept.eachSlot (fun k _ ht => Kept.withdrawCardAt n k ht) h

/-! ## Fill estimation (R40 to R57) -/

/-- F and H computed from an estimate in range are in range (R39, R40). -/
theorem SlotUnit.inRange_recompute {u : SlotUnit} (hu : u.inRange) :
    ({ u with fill := { u.fill with f := u.record.fillOf u.fill.e, h := u.record.headroom u.fill.e } } : SlotUnit).inRange := by
  obtain ⟨hr, he, hf, hh, h1⟩ := hu
  refine ⟨hr, he, ?_, ?_, h1⟩
  · exact Nat.div_le_of_le_mul (by rw [Nat.mul_comm u.record.vCap]; exact Nat.mul_le_mul_left _ he)
  · have hT : u.record.tFull ≤ 990 := hr.2.2.2.2.2.2.2.1.2
    have : u.record.vFull ≤ u.record.vCap := Nat.div_le_of_le_mul (by
      rw [Nat.mul_comm 1000]; exact Nat.mul_le_mul_left _ (by omega))
    show u.record.headroom u.fill.e ≤ u.record.vCap
    unfold SlotRecord.headroom
    omega

@[simp] theorem Kept.recompute (k : Slot) (h : I.holds s) : I.holds (s.recompute k) :=
  I.slot k _ ⟨rfl, rfl⟩ SlotUnit.inRange_recompute h

/-- The estimate takes a value in range (R40). -/
theorem Kept.setEstimate {k : Slot} {e : Nat} (he : e ≤ (s.slot k).record.vCap) (h : I.holds s) :
    I.holds (s.setEstimate k e) :=
  Kept.recompute k (I.slot k _ ⟨rfl, rfl⟩ (fun hu => ⟨hu.1, he, hu.2.2⟩) h)

@[simp] theorem Kept.evaluateFull (b : Bool) (k : Slot) (h : I.holds s) : I.holds (s.evaluateFull b k) := by
  unfold State.evaluateFull
  dsimp only
  split
  · simp (maxDischargeDepth := 40) [h]
  · split <;> simp (maxDischargeDepth := 40) [h]

@[simp] theorem Kept.evaluateDemand (b : Bool) (k : Slot) (h : I.holds s) : I.holds (s.evaluateDemand b k) := by
  unfold State.evaluateDemand
  dsimp only
  split <;> split <;> simp (maxDischargeDepth := 40) [h]

@[simp] theorem Kept.evaluateThresholds (b : Bool) (k : Slot) (h : I.holds s) : I.holds (s.evaluateThresholds b k) :=
  Kept.evaluateDemand _ _ (Kept.evaluateFull _ _ h)

theorem hoursToFull_le (h fr : Nat) : hoursToFull h fr ≤ 255 := by unfold hoursToFull; split <;> omega

@[simp] theorem Kept.recomputeHours (k : Slot) (h : I.holds s) : I.holds (s.recomputeHours k) := by
  unfold State.recomputeHours
  dsimp only
  split
  · exact h
  · exact Kept.demandHf _ _ (I.slot k _ ⟨rfl, rfl⟩
      (fun hu => ⟨hu.1, hu.2.1, hu.2.2.1, hu.2.2.2.1, hu.2.2.2.2.1, hu.2.2.2.2.2.1, hoursToFull_le _ _, hu.2.2.2.2.2.2.2⟩) h)

@[simp] theorem Kept.deposit (k : Slot) (h : I.holds s) : I.holds (s.deposit k) := by
  unfold State.deposit
  dsimp only
  refine Kept.recomputeHours k (Kept.evaluateThresholds _ _ (Kept.setEstimate ?_ (I.slot k _ ⟨rfl, rfl⟩ ?_ h)))
  · simp only [State.modFill, State.slot_modSlot_same]
    exact Nat.min_le_right _ _
  · intro hu
    exact ⟨hu.1, hu.2.1, hu.2.2.1, hu.2.2.2.1, hu.2.2.2.2.1, Nat.min_le_right _ _, hu.2.2.2.2.2.2⟩

@[simp] theorem Kept.silentBurst (k : Slot) (h : I.holds s) : I.holds (s.silentBurst k) := by
  have h1 : I.holds (s.modFill k fun y => { y with silent := min (y.silent + 1) 3 }) :=
    I.slot k _ ⟨rfl, rfl⟩ (fun hu => ⟨hu.1, hu.2.1, hu.2.2.1, hu.2.2.2.1, hu.2.2.2.2.1, hu.2.2.2.2.2.1, hu.2.2.2.2.2.2.1,
      Nat.min_le_right _ _⟩) h
  unfold State.silentBurst
  dsimp only
  split
  · exact Kept.alert _ h1
  · exact h1

@[simp] theorem Kept.blendReading (k : Slot) (c : RangeCause) (r : Reading) (h : I.holds s) :
    I.holds (s.blendReading k c r) := by
  unfold State.blendReading
  dsimp only
  refine Kept.recomputeHours k (Kept.evaluateThresholds _ _ (Kept.recompute k (Kept.changeBar _ _ _ (I.slot k _ ⟨rfl, rfl⟩ ?_ h))))
  intro hu
  exact ⟨hu.1, Nat.min_le_right _ _, hu.2.2.1, hu.2.2.2.1, hu.2.2.2.2.1, hu.2.2.2.2.2.1, hu.2.2.2.2.2.2.1, Nat.zero_le _⟩

@[simp] theorem Kept.liftFill (k : Slot) (b : Bool) (h : I.holds s) : I.holds (s.liftFill k b) := by
  unfold State.liftFill
  split
  · exact Kept.recomputeHours k (Kept.evaluateThresholds _ _ (Kept.setEstimate (Nat.zero_le _) h))
  · exact h

@[simp] theorem Kept.fillSet (k : Slot) (v : Nat) (h : I.holds s) : I.holds (s.fillSet k v) := by
  unfold State.fillSet
  dsimp only
  refine Kept.recomputeHours k (Kept.evaluateThresholds _ _ (Kept.recompute k (Kept.changeBar _ _ _ (I.slot k _ ⟨rfl, rfl⟩ ?_ h))))
  intro hu
  exact ⟨hu.1, Nat.min_le_right _ _, hu.2.2⟩

/-- The rate stays between the old rate and the hour's volume (R54). -/
theorem nextRate_le {fr a : Nat} (hf : fr ≤ 65535) (ha : a ≤ 65535) : nextRate fr a ≤ 65535 := by
  unfold nextRate
  have := Int.mul_tdiv_add_tmod ((a : Int) - fr) 4
  have h1 := Int.tmod_lt_of_pos ((a : Int) - fr) (b := 4) (by omega)
  have h2 := Int.lt_tmod_of_pos ((a : Int) - fr) (b := 4) (by omega)
  omega

@[simp] theorem Kept.rateUpdate (k : Slot) (h : I.holds s) : I.holds (s.rateUpdate k) := by
  unfold State.rateUpdate
  split
  · refine Kept.recomputeHours k (I.slot k _ ⟨rfl, rfl⟩ ?_ h)
    intro hu
    exact ⟨hu.1, hu.2.1, hu.2.2.1, hu.2.2.2.1, nextRate_le hu.2.2.2.2.1 hu.2.2.2.2.2.1, Nat.zero_le _, hu.2.2.2.2.2.2⟩
  · exact h

@[simp] theorem Kept.hourlyUpdate (h : I.holds s) : I.holds s.hourlyUpdate :=
  Kept.repeatDemand (Kept.eachSlot (fun k _ ht => Kept.rateUpdate k ht) h)

/-! ## The Ranging Unit (R31 to R38) and the end of a lift (R149, R150) -/

@[simp] theorem Kept.modRange (k : Slot) (f : RangeSlot → RangeSlot) (h : I.holds s) : I.holds (s.modRange k f) :=
  Kept.light (fun _ => ⟨rfl, rfl, rfl⟩) h

@[simp] theorem Kept.answerWaiters (k : Slot) (o : RangeOutcome) (h : I.holds s) : I.holds (s.answerWaiters k o) := by
  unfold State.answerWaiters
  dsimp only
  refine Kept.modRange _ _ (Kept.ite (Kept.post _ _ _ (Kept.ite ?_ ?_)) (Kept.ite ?_ ?_)) <;> simp (maxDischargeDepth := 40) [h]

@[simp] theorem Kept.postLiftDone (k : Slot) (c : Custody) (p : Option Nat) (h : I.holds s) :
    I.holds (s.postLiftDone k c p) := by unfold State.postLiftDone; dsimp only; split <;> simp (maxDischargeDepth := 40) [h]

@[simp] theorem Kept.addLifted (k : Slot) (h : I.holds s) : I.holds (s.addLifted k) := Kept.modLift _ h

@[simp] theorem Kept.closeLift (k : Slot) (p : Option Nat) (h : I.holds s) : I.holds (s.closeLift k p) := by
  unfold State.closeLift
  dsimp only
  split <;> split <;> simp (maxDischargeDepth := 40) [h]

@[simp] theorem Kept.liftReport (k : Slot) (p : Option Nat) (h : I.holds s) : I.holds (s.liftReport k p) := by
  unfold State.liftReport; split <;> simp (maxDischargeDepth := 40) [h]

@[simp] theorem Kept.reportDiscard (k : Slot) (c : RangeCause) (h : I.holds s) : I.holds (s.reportDiscard k c) := by
  unfold State.reportDiscard; split <;> simp (maxDischargeDepth := 40) [h]

@[simp] theorem Kept.queueRange (b : Bool) (k : Slot) (c : RangeCause) (h : I.holds s) : I.holds (s.queueRange b k c) := by
  unfold State.queueRange
  split
  · exact h
  · split
    · simp (maxDischargeDepth := 40) [h]
    · exact I.enqueue b k c h

@[simp] theorem Kept.noteProbe (h : I.holds s) : I.holds s.noteProbe := by
  unfold State.noteProbe
  split
  · exact Kept.modRanging (fun _ => rfl) h
  · split
    · exact h
    · exact Kept.alert _ (Kept.modRanging (fun _ => rfl) h)

@[simp] theorem Kept.startBurst (e : RangeEntry) (h : I.holds s) : I.holds (s.startBurst e) :=
  Kept.modRanging (fun _ => rfl) (Kept.sampleProbe (Kept.noteProbe (I.dequeue e.slot h)))

@[simp] theorem Kept.chooseBurst (h : I.holds s) : I.holds s.chooseBurst := by
  unfold State.chooseBurst
  split
  · exact h
  · split <;> simp (maxDischargeDepth := 40) [h]

@[simp] theorem Kept.requestRange (k : Slot) (c : RangeCause) (h : I.holds s) : I.holds (s.requestRange k c) :=
  Kept.chooseBurst (Kept.queueRange _ _ _ h)

@[simp] theorem Kept.discardBurst (k : Slot) (o : RangeOutcome) (h : I.holds s) : I.holds (s.discardBurst k o) := by
  unfold State.discardBurst
  split
  · exact Kept.reportDiscard _ _ (Kept.answerWaiters _ _ (Kept.modRanging (fun _ => rfl) h))
  · exact h

@[simp] theorem Kept.removeEntry (k : Slot) (o : RangeOutcome) (h : I.holds s) : I.holds (s.removeEntry k o) := by
  unfold State.removeEntry
  split
  · exact Kept.reportDiscard _ _ (Kept.answerWaiters _ _ (I.dequeue k h))
  · exact h

@[simp] theorem Kept.returnBurst (k : Slot) (h : I.holds s) : I.holds (s.returnBurst k) := by
  unfold State.returnBurst
  split
  · exact Kept.queueRange _ _ _ (Kept.modRanging (fun _ => rfl) h)
  · exact h

@[simp] theorem Kept.removeLift (k : Slot) (h : I.holds s) : I.holds (s.removeLift k) :=
  Kept.ite (Kept.answerWaiters _ _ (Kept.liftReport _ _ (I.dequeue k h))) h

@[simp] theorem Kept.rangeUnseated (k : Slot) (h : I.holds s) : I.holds (s.rangeUnseated k) :=
  Kept.removeLift _ (Kept.chooseBurst (Kept.discardBurst _ _ h))

@[simp] theorem Kept.setDue (k : Slot) (h : I.holds s) : I.holds (s.setDue k) := Kept.modRange _ _ h

@[simp] theorem Kept.applyBurst (b : Burst) (h : I.holds s) : I.holds (s.applyBurst b).1 := by
  unfold State.applyBurst; split <;> simp (maxDischargeDepth := 40) [h]

@[simp] theorem Kept.completeBurst (b : Burst) (h : I.holds s) : I.holds (s.completeBurst b) := by
  unfold State.completeBurst
  dsimp only
  refine Kept.chooseBurst (Kept.modRanging (fun _ => rfl) (Kept.answerWaiters _ _ (Kept.ite ?_ ?_)))
  all_goals simp (maxDischargeDepth := 40) [h]

@[simp] theorem Kept.endPing (b : Burst) (r : Option Nat) (h : I.holds s) : I.holds (s.endPing b r) := by
  unfold State.endPing
  dsimp only
  split
  · exact Kept.modRanging (fun _ => rfl) h
  · simp (maxDischargeDepth := 40) [h]

@[simp] theorem Kept.requestLift (k : Slot) (h : I.holds s) : I.holds (s.requestLift k) :=
  Kept.chooseBurst (Kept.ite (Kept.queueRange _ _ _ h) (Kept.removeLift _ (Kept.queueRange _ _ _ h)))

@[simp] theorem Kept.releaseCustody (k : Slot) (h : I.holds s) : I.holds (s.releaseCustody k) :=
  Kept.requestLift _ (Kept.enterCustody _ _ h)

/-! ## The pit lines (R20 to R30) -/

@[simp] theorem Kept.modTrack (k : Slot) (f : Tracking → Tracking) (h : I.holds s) : I.holds (s.modTrack k f) :=
  Kept.light (fun _ => ⟨rfl, rfl, rfl⟩) h

@[simp] theorem Kept.startTurn (d : DrumState) (k : Slot) (h : I.holds s) : I.holds (s.startTurn d k) :=
  Kept.modTrack _ _ h

@[simp] theorem Kept.drumLeft (k : Slot) (h : I.holds s) : I.holds (s.drumLeft k) := by
  unfold State.drumLeft; split <;> simp (maxDischargeDepth := 40) [h]

@[simp] theorem Kept.drumReachedOpen (k : Slot) (h : I.holds s) : I.holds (s.drumReachedOpen k) := by
  unfold State.drumReachedOpen; split <;> simp (maxDischargeDepth := 40) [h]

@[simp] theorem Kept.drumRecovered (k : Slot) (b : Bool) (n : Nat) (h : I.holds s) : I.holds (s.drumRecovered k b n) := by
  unfold State.drumRecovered; split <;> simp (maxDischargeDepth := 40) [h]

@[simp] theorem Kept.endTurn (k : Slot) (b : Bool) (n : Nat) (h : I.holds s) : I.holds (s.endTurn k b n) := by
  unfold State.endTurn; dsimp only; split <;> simp (maxDischargeDepth := 40) [h]

@[simp] theorem Kept.drumCameHome (k : Slot) (h : I.holds s) : I.holds (s.drumCameHome k) := by
  unfold State.drumCameHome; dsimp only; split <;> simp (maxDischargeDepth := 40) [h]

@[simp] theorem Kept.endTest (k : Slot) (h : I.holds s) : I.holds (s.endTest k) := by
  unfold State.endTest
  split
  · exact Kept.light (fun _ => ⟨rfl, rfl, rfl⟩) (Kept.setDrumLock _ _ h)
  · exact Kept.light (fun _ => ⟨rfl, rfl, rfl⟩) (Kept.setHatch _ _ h)
  · exact h

@[simp] theorem Kept.endHatchTest (k : Slot) (h : I.holds s) : I.holds (s.endHatchTest k) := by
  unfold State.endHatchTest; split <;> simp (maxDischargeDepth := 40) [h]

@[simp] theorem Kept.containerOut (k : Slot) (h : I.holds s) : I.holds (s.containerOut k) := by
  simp [State.containerOut, h]

@[simp] theorem Kept.postLiftState (k : Slot) (st : CustodyState) (h : I.holds s) : I.holds (s.postLiftState k st) := by
  unfold State.postLiftState; split <;> simp (maxDischargeDepth := 40) [h]

@[simp] theorem Kept.raised (k : Slot) (h : I.holds s) : I.holds (s.raise k) := by simp [State.raise, h]

@[simp] theorem Kept.platformLeft (k : Slot) (h : I.holds s) : I.holds (s.platformLeft k) := by
  unfold State.platformLeft; dsimp only; split <;> simp (maxDischargeDepth := 40) [h]

@[simp] theorem Kept.liftDemand (k : Slot) (b : Bool) (h : I.holds s) : I.holds (s.liftDemand k b) := by
  unfold State.liftDemand; split <;> simp (maxDischargeDepth := 40) [h]

@[simp] theorem Kept.returned (k : Slot) (h : I.holds s) : I.holds (s.returned k) := by
  unfold State.returned; dsimp only; split <;> simp (maxDischargeDepth := 40) [h]

@[simp] theorem Kept.seated (k : Slot) (h : I.holds s) : I.holds (s.seated k) := by
  unfold State.seated; split <;> simp (maxDischargeDepth := 40) [h]

@[simp] theorem Kept.platformSeated (k : Slot) (h : I.holds s) : I.holds (s.platformSeated k) := by
  unfold State.platformSeated; dsimp only; split <;> simp (maxDischargeDepth := 40) [h]

@[simp] theorem Kept.waterRose (k : Slot) (h : I.holds s) : I.holds (s.waterRose k) := by
  unfold State.waterRose; dsimp only; split <;> simp (maxDischargeDepth := 40) [h]

@[simp] theorem Kept.waterFell (k : Slot) (h : I.holds s) : I.holds (s.waterFell k) := by
  unfold State.waterFell; split <;> simp (maxDischargeDepth := 40) [h]

@[simp] theorem Kept.capturedTip (n : Nat) (h : I.holds s) : I.holds (s.capturedTip n) := Kept.modCustody _ h

@[simp] theorem Kept.tiltOn (k : Slot) (h : I.holds s) : I.holds (s.tiltOn k) := by
  unfold State.tiltOn; split <;> simp (maxDischargeDepth := 40) [h]

@[simp] theorem Kept.tiltOff (k : Slot) (h : I.holds s) : I.holds (s.tiltOff k) := by
  unfold State.tiltOff
  split
  · split <;> simp (maxDischargeDepth := 40) [h]
  · exact h

@[simp] theorem Kept.deliverEdge (k : Slot) (l : Line) (b : Bool) (h : I.holds s) : I.holds (s.deliverEdge k l b) := by
  unfold State.deliverEdge
  split
  · exact h
  · split <;> simp (maxDischargeDepth := 40) [h]

/-! ## Lookups (R80 to R86, R102, R114, R140) -/

@[simp] theorem Kept.answerQuery (n : CardNo) (o : LookupOutcome) (h : I.holds s) : I.holds (s.answerQuery n o) := by
  unfold State.answerQuery
  split
  · exact Kept.post _ _ _ (Kept.modResolver (fun _ => ⟨rfl, rfl⟩) h)
  · exact h

@[simp] theorem Kept.startLink (h : I.holds s) : I.holds s.startLink := Kept.modLift _ h

@[simp] theorem Kept.openCrew (x : Opening) (h : I.holds s) : I.holds (s.openCrew x) := by
  unfold State.openCrew; simp (maxDischargeDepth := 40) [h]

@[simp] theorem Kept.decideCrew (o : LookupOutcome) (h : I.holds s) : I.holds (s.decideCrew o) := by
  unfold State.decideCrew
  split
  · exact h
  · split <;> simp (maxDischargeDepth := 40) [h]

@[simp] theorem Kept.deliver (l : Lookup) (o : LookupOutcome) (h : I.holds s) : I.holds (s.deliver l o) := by
  unfold State.deliver; split <;> simp (maxDischargeDepth := 40) [h]

@[simp] theorem Kept.dropLookup (q : LookupRequester) (h : I.holds s) : I.holds (s.dropLookup q) :=
  Kept.modResolver (fun _ => ⟨rfl, rfl⟩) h

@[simp] theorem Kept.offline (l : Lookup) (h : I.holds s) : I.holds (s.offline l) := by simp [State.offline, h]

@[simp] theorem Kept.startRefill (l : Lookup) (h : I.holds s) : I.holds (s.startRefill l) :=
  Kept.placeRequest _ _ (Kept.modResolver (fun _ => ⟨rfl, rfl⟩) h)

@[simp] theorem Kept.walkOne (l : Lookup) (h : I.holds s) : I.holds (s.walkOne l) := by
  unfold State.walkOne
  split
  · exact h
  · split
    · simp (maxDischargeDepth := 40) [h]
    · split <;> simp (maxDischargeDepth := 40) [h]

@[simp] theorem Kept.serviceWalk (h : I.holds s) : I.holds s.serviceWalk := Kept.foldl (fun _ l ht => Kept.walkOne l ht) _ h

@[simp] theorem Kept.placeLookup (l : Lookup) (h : I.holds s) : I.holds (s.placeLookup l) := by
  unfold State.placeLookup
  split
  · simp (maxDischargeDepth := 40) [h]
  · split
    · exact Kept.serviceWalk (Kept.modResolver (fun _ => ⟨rfl, rfl⟩) h)
    · split
      · simp (maxDischargeDepth := 40) [h]
      · exact Kept.serviceWalk (Kept.modResolver (fun _ => ⟨rfl, rfl⟩) h)

@[simp] theorem Kept.refillAnswer (r : Refill) (o : LookupOutcome) (h : I.holds s) : I.holds (s.refillAnswer r o) := by
  have h1 : I.holds (s.modResolver fun x => { x with refill := none }) := Kept.modResolver (fun _ => ⟨rfl, rfl⟩) h
  unfold State.refillAnswer
  dsimp only
  split
  · exact Kept.serviceWalk (Kept.deliver _ _ (Kept.dropLookup _ h1))
  · exact Kept.serviceWalk h1

@[simp] theorem Kept.refillFound (r : Refill) (x : CardRecord) (p : Position) (h : I.holds s) :
    I.holds (s.refillFound r x p) := by
  unfold State.refillFound; dsimp only; split <;> simp (maxDischargeDepth := 40) [h]

@[simp] theorem Kept.refillSearch (r : Refill) (st : SearchStep) (h : I.holds s) : I.holds (s.refillSearch r st) := by
  unfold State.refillSearch
  split
  · exact Kept.placeRequest _ _ (Kept.modResolver (fun _ => ⟨rfl, rfl⟩) h)
  all_goals simp (maxDischargeDepth := 40) [h]

@[simp] theorem Kept.refillHanded (o : Handed) (h : I.holds s) : I.holds (s.refillHanded o) := by
  unfold State.refillHanded; split <;> simp (maxDischargeDepth := 40) [h]

@[simp] theorem Kept.lossOne (l : Lookup) (h : I.holds s) : I.holds (s.lossOne l) := by simp [State.lossOne, h]

@[simp] theorem Kept.lookupsLoss (h : I.holds s) : I.holds s.lookupsLoss := by
  unfold State.lookupsLoss
  dsimp only
  refine Kept.foldl (fun _ l ht => Kept.lossOne l ht) _ ?_
  split
  · have h1 : I.holds (s.modResolver fun x => { x with refill := none }) := Kept.modResolver (fun _ => ⟨rfl, rfl⟩) h
    split <;> simp [h1]
  · exact h

@[simp] theorem Kept.withdrawLookup (q : LookupRequester) (h : I.holds s) : I.holds (s.withdrawLookup q) :=
  Kept.modResolver (fun _ => ⟨rfl, rfl⟩) (Kept.dropLookup q h)

@[simp] theorem Kept.takeCard (k : Slot) (n : CardNo) (h : I.holds s) : I.holds (s.takeCard k n) := by
  unfold State.takeCard
  split
  · split <;> simp (maxDischargeDepth := 40) [h]
  · split <;> simp (maxDischargeDepth := 40) [h]
  all_goals exact h

@[simp] theorem Kept.takeAnswer (k : Slot) (x : ReaderFrame) (h : I.holds s) : I.holds (s.takeAnswer k x) := by
  unfold State.takeAnswer
  dsimp only
  split
  · simp (maxDischargeDepth := 40) [h]
  · split <;> simp (maxDischargeDepth := 40) [h]

@[simp] theorem Kept.preempt (k : Slot) (h : I.holds s) : I.holds (s.preempt k) := by
  unfold State.preempt
  split
  · simp (maxDischargeDepth := 40) [h]
  · split <;> simp (maxDischargeDepth := 40) [h]
  all_goals simp (maxDischargeDepth := 40) [h]

/-! ## The Batch Engine (chapter 10) -/

@[simp] theorem Kept.modResolverCache (n : CardNo) (f : CardRecord → CardRecord) (h : I.holds s) :
    I.holds (s.modResolverCache n f) := Kept.modCached _ _ h

@[simp] theorem Kept.enterCommit (bs : List Byte) (o : Bool) (i : Nat) (h : I.holds s) : I.holds (s.enterCommit bs o i) := by
  unfold State.enterCommit; split <;> simp (maxDischargeDepth := 40) [h]

@[simp] theorem Kept.closeEntry (bs : List Byte) (o : Bool) (h : I.holds s) : I.holds (s.closeEntry bs o) := by
  unfold State.closeEntry; dsimp only; split <;> simp (maxDischargeDepth := 40) [h]

@[simp] theorem Kept.framedStart (x : Byte) (h : I.holds s) : I.holds (s.framedStart x) := by
  unfold State.framedStart
  split
  · dsimp only
    split <;> simp (maxDischargeDepth := 40) [h]
  all_goals simp (maxDischargeDepth := 40) [h]

@[simp] theorem Kept.framedParse (x : Byte) (h : I.holds s) : I.holds (s.framedParse x) := by
  unfold State.framedParse; split <;> split <;> simp (maxDischargeDepth := 40) [h]

@[simp] theorem Kept.packedParse (x : Byte) (h : I.holds s) : I.holds (s.packedParse x) := by
  unfold State.packedParse
  dsimp only
  split
  · split <;> simp (maxDischargeDepth := 40) [h]
  all_goals simp (maxDischargeDepth := 40) [h]

@[simp] theorem Kept.parseByte (x : Byte) (h : I.holds s) : I.holds (s.parseByte x) := by
  unfold State.parseByte
  split
  · simp (maxDischargeDepth := 40) [h]
  · split <;> simp (maxDischargeDepth := 40) [h]

@[simp] theorem Kept.parse (bs : List Byte) (h : I.holds s) : I.holds (s.parse bs) := by
  induction bs generalizing s with
  | nil => exact Kept.modBatch _ h
  | cons x xs ih =>
    unfold State.parse
    dsimp only
    split
    · simp (maxDischargeDepth := 40) [h]
    · exact ih (Kept.parseByte x h)

@[simp] theorem Kept.runParser (h : I.holds s) : I.holds s.runParser := by
  unfold State.runParser; split <;> simp (maxDischargeDepth := 40) [h]

@[simp] theorem Kept.reportBatch (h : I.holds s) : I.holds s.reportBatch := by simp [State.reportBatch, h]

@[simp] theorem Kept.endIfDone (h : I.holds s) : I.holds s.endIfDone := by
  unfold State.endIfDone; split <;> simp (maxDischargeDepth := 40) [h]

@[simp] theorem Kept.commitFreed (h : I.holds s) : I.holds s.commitFreed := by
  unfold State.commitFreed; split <;> simp (maxDischargeDepth := 40) [h]

@[simp] theorem Kept.batchCache (e : Entry) (w : Option CardRecord) (m : Option (CardNo × Position)) (h : I.holds s) :
    I.holds (s.batchCache e w m) := by
  unfold State.batchCache
  split
  case h_5 => dsimp only; split <;> simp (maxDischargeDepth := 40) [h]
  all_goals simp (maxDischargeDepth := 40) [h]

@[simp] theorem Kept.batchWithdraw (e : Entry) (h : I.holds s) : I.holds (s.batchWithdraw e) := by
  unfold State.batchWithdraw; split <;> simp (maxDischargeDepth := 40) [h]

@[simp] theorem Kept.endCommitWork (h : I.holds s) : I.holds s.endCommitWork := by simp [State.endCommitWork, h]

@[simp] theorem Kept.applyEntry (c : Commit) (m : Option (CardNo × Position)) (h : I.holds s) :
    I.holds (s.applyEntry c m) := by unfold State.applyEntry; simp (maxDischargeDepth := 40) [h]

@[simp] theorem Kept.rejectEntry (c : Commit) (r : Rejection) (h : I.holds s) : I.holds (s.rejectEntry c r) := by
  unfold State.rejectEntry; simp (maxDischargeDepth := 40) [h]

@[simp] theorem Kept.commitRequest (c : Commit) (ph : CommitPhase) (op : StoreOp) (h : I.holds s) :
    I.holds (s.commitRequest c ph op) := by simp [State.commitRequest, h]

@[simp] theorem Kept.commitWrite (c : Commit) (p : Position) (w : RecordSource) (n : Option Nat) (h : I.holds s) :
    I.holds (s.commitWrite c p w n) := Kept.commitRequest _ _ _ h

@[simp] theorem Kept.addSearched (c : Commit) (w : CardRecord) (e : SearchEnd) (h : I.holds s) :
    I.holds (s.addSearched c w e) := by
  unfold State.addSearched
  split
  · simp (maxDischargeDepth := 40) [h]
  · split <;> simp (maxDischargeDepth := 40) [h]
  all_goals simp (maxDischargeDepth := 40) [h]

@[simp] theorem Kept.changeSearched (c : Commit) (f : CardRecord → CardRecord) (e : SearchEnd) (h : I.holds s) :
    I.holds (s.changeSearched c f e) := by unfold State.changeSearched; split <;> simp (maxDischargeDepth := 40) [h]

@[simp] theorem Kept.scanAt (c : Commit) (p q : Position) (h : I.holds s) : I.holds (s.scanAt c p q) :=
  Kept.commitRequest _ _ _ h

@[simp] theorem Kept.shrink (c : Commit) (p : Position) (n : Nat) (m : Option CardRecord) (h : I.holds s) :
    I.holds (s.shrink c p n m) := Kept.commitRequest _ _ _ h

@[simp] theorem Kept.revokeSearched (c : Commit) (e : SearchEnd) (h : I.holds s) : I.holds (s.revokeSearched c e) := by
  unfold State.revokeSearched
  split
  · split <;> simp (maxDischargeDepth := 40) [h]
  all_goals simp (maxDischargeDepth := 40) [h]

@[simp] theorem Kept.entrySearched (c : Commit) (e : SearchEnd) (h : I.holds s) : I.holds (s.entrySearched c e) := by
  unfold State.entrySearched; split <;> simp (maxDischargeDepth := 40) [h]

@[simp] theorem Kept.scanned (c : Commit) (p q : Position) (r : Option CardRecord) (h : I.holds s) :
    I.holds (s.scanned c p q r) := by
  unfold State.scanned
  split
  · simp (maxDischargeDepth := 40) [h]
  · split <;> simp (maxDischargeDepth := 40) [h]

@[simp] theorem Kept.commitHanded (t : Transaction) (o : Handed) (h : I.holds s) : I.holds (s.commitHanded t o) := by
  unfold State.commitHanded
  split
  · exact h
  · split
    · split <;> simp (maxDischargeDepth := 40) [h]
    all_goals simp (maxDischargeDepth := 40) [h]

@[simp] theorem Kept.abortBatch (h : I.holds s) : I.holds s.abortBatch := by
  unfold State.abortBatch; dsimp only; split <;> simp (maxDischargeDepth := 40) [h]

@[simp] theorem Kept.batchLoss (h : I.holds s) : I.holds s.batchLoss := by
  unfold State.batchLoss; split <;> simp (maxDischargeDepth := 40) [h]

/-! ## The Card Store Interface (R64 to R74) -/

@[simp] theorem Kept.putItem (hm : I.memOk) (t : Transaction) (h : I.holds s) : I.holds (s.putItem t) := by
  unfold State.putItem
  split
  · exact I.mem hm _ _ h
  · exact h

@[simp] theorem Kept.cutOffItem (hm : I.memOk) (t : Transaction) (h : I.holds s) : I.holds (s.cutOffItem t) := by
  unfold State.cutOffItem
  split
  · exact I.same (I.mem hm t.op.address (cutOffBytes s.freeIndex t.op.size) h)
      {}
  · exact h

@[simp] theorem Kept.applyFate (hm : I.memOk) (w : WriteFate) (t : Transaction) (h : I.holds s) : I.holds (s.applyFate w t) := by
  unfold State.applyFate; split <;> simp (maxDischargeDepth := 40) [h, hm]

@[simp] theorem Kept.alterItem (hm : I.memOk) (op : StoreOp) (bs : List Byte) (h : I.holds s) : I.holds (s.alterItem op bs) :=
  I.mem hm _ _ h

@[simp] theorem Kept.postStoreState (a b : StoreState) (c : StoreCause) (h : I.holds s) :
    I.holds (s.postStoreState a b c) := Kept.post _ _ _ h

@[simp] theorem Kept.storeOnline (x : Header) (p : StoreState) (c : StoreCause) (h : I.holds s) :
    I.holds (s.storeOnline x p c) :=
  Kept.postStoreState _ _ _ (Kept.alert _ (Kept.flushCache (Kept.modStore (fun _ => ⟨rfl, rfl⟩) h)))

@[simp] theorem Kept.lossFor (r : Requester) (h : I.holds s) : I.holds (s.lossFor r) := by
  unfold State.lossFor; split <;> simp (maxDischargeDepth := 40) [h]

@[simp] theorem Kept.storeLoss (r : Option Requester) (h : I.holds s) : I.holds (s.storeLoss r) :=
  Kept.foldl (fun _ q ht => Kept.lossFor q ht) _ (Kept.arbiterLoss h)

@[simp] theorem Kept.storeFault (t : Transaction) (f : Failure) (h : I.holds s) : I.holds (s.storeFault t f) :=
  Kept.lossFor _ (Kept.storeLoss _ (Kept.postStoreState _ _ _ (Kept.alert _ (Kept.modStore (fun _ => ⟨rfl, rfl⟩) h))))

@[simp] theorem Kept.formatHanded (h : I.holds s) : I.holds s.formatHanded := by
  unfold State.formatHanded
  split
  · split
    · simp (maxDischargeDepth := 40) [h]
    · exact Kept.placeRequest _ _ (Kept.modStore (fun _ => ⟨rfl, rfl⟩) h)
  · exact h

@[simp] theorem Kept.startFormat (h : I.holds s) : I.holds s.startFormat :=
  Kept.placeRequest _ _ (Kept.modStore (fun _ => ⟨rfl, rfl⟩) (Kept.storeLoss _ (Kept.postStoreState _ _ _
    (Kept.flushCache (Kept.modStore (fun _ => ⟨rfl, rfl⟩) h)))))

@[simp] theorem Kept.damageAlert (t : Transaction) (o : Handed) (h : I.holds s) : I.holds (s.damageAlert t o) := by
  unfold State.damageAlert; dsimp only; split <;> simp (maxDischargeDepth := 40) [h]

@[simp] theorem Kept.handOver (t : Transaction) (o : Handed) (h : I.holds s) : I.holds (s.handOver t o) := by
  unfold State.handOver
  split
  · simp (maxDischargeDepth := 40) [h]
  · simp (maxDischargeDepth := 40) [h]
  · split <;> simp (maxDischargeDepth := 40) [h]

@[simp] theorem Kept.complete (hm : I.memOk) (t : Transaction) (bs : List Byte) (h : I.holds s) :
    I.holds (s.complete t bs) := by unfold State.complete; simp (maxDischargeDepth := 40) [h, hm]

/-- The transaction leaves the Arbiter. -/
theorem Kept.leaveFlight (h : I.holds s) : I.holds { s with arbiter := { s.arbiter with inFlight := none } } :=
  Kept.arbiter rfl h

@[simp] theorem Kept.answerTransaction (hm : I.memOk) (a : StoreAnswer) (t : Transaction) (h : I.holds s) :
    I.holds (s.answerTransaction a t) := by
  have h0 := Kept.leaveFlight h
  unfold State.answerTransaction
  dsimp only
  split
  · exact Kept.complete hm _ _ h0
  · exact Kept.storeFault _ _ (Kept.ite (Kept.applyFate hm _ _ h0) h0)
  · split
    · exact Kept.complete hm _ _ h0
    · split
      · exact Kept.complete hm _ _ (Kept.alterItem hm _ _ h0)
      · exact Kept.storeFault _ _ h0

@[simp] theorem Kept.timeoutTransaction (hm : I.memOk) (w : WriteFate) (t : Transaction) (h : I.holds s) :
    I.holds (s.timeoutTransaction w t) := by
  have h0 := Kept.leaveFlight (Kept.elapseTo (t.start + Config.storeMs) h)
  unfold State.timeoutTransaction
  exact Kept.storeFault _ _ (Kept.ite (Kept.applyFate hm _ _ h0) h0)

@[simp] theorem Kept.postStart (h : I.holds s) : I.holds s.postStart := by
  unfold State.postStart; simp (maxDischargeDepth := 40) [h]

/-! ## Taking a request (R179) and what follows it -/

@[simp] theorem Kept.restartLink (p : Port) (h : I.holds s) : I.holds (s.restartLink p) := by
  unfold State.restartLink
  split
  · split <;> simp (maxDischargeDepth := 40) [h]
  · exact h

end Sys2Proof.Machine
end

