-- ==== Sys2Proof/Laws/Requests.lean ====
section
/-! SUPPORT. What a well-formed request frame reads as, and what the taking of an offered frame does (R179, R188). -/

namespace Sys2Proof.Machine

/-! ## Frames (R188) -/

@[simp] theorem frameOf_length (n : Nat) (tag : Byte) (pl : List Byte) : (frameOf n tag pl).length = 3 + pl.length := by
  simp [frameOf, u8]; omega

@[simp] theorem frameOf_byte0 (n : Nat) (tag : Byte) (pl : List Byte) :
    byteAt (frameOf n tag pl) 0 = (3 + pl.length) % 256 := by simp [frameOf, byteAt, u8]

@[simp] theorem frameOf_byte1 (n : Nat) (tag : Byte) (pl : List Byte) : byteAt (frameOf n tag pl) 1 = n % 256 := by
  simp [frameOf, byteAt, u8]

@[simp] theorem frameOf_kind (n : Nat) (tag : Byte) (pl : List Byte) :
    (frameOf n tag pl).getD 1 0 = BitVec.ofNat 8 n := by simp [frameOf, u8]

@[simp] theorem frameOf_tag (n : Nat) (tag : Byte) (pl : List Byte) : (frameOf n tag pl).getD 2 0 = tag := by
  simp [frameOf, u8]

@[simp] theorem frameOf_payload (n : Nat) (tag : Byte) (pl : List Byte) : (frameOf n tag pl).drop 3 = pl := by
  simp [frameOf, u8]

theorem byteAt_append_right (a b : List Byte) (i : Nat) : byteAt (a ++ b) (a.length + i) = byteAt b i := by
  simp [byteAt, List.getElem?_append_right]

/-- A byte of the payload, in the frame. -/
theorem frameOf_byte (n : Nat) (tag : Byte) (pl : List Byte) (i : Nat) :
    byteAt (frameOf n tag pl) (3 + i) = byteAt pl i := by
  have h := byteAt_append_right (u8 (3 + pl.length) ++ [BitVec.ofNat 8 n, tag]) pl i
  simpa [frameOf, u8] using h

theorem frameOf_good (n : Nat) (tag : Byte) {pl : List Byte} (h : pl.length ≤ 61) : lengthGood (frameOf n tag pl) = true := by
  have : (3 + pl.length) % 256 = 3 + pl.length := Nat.mod_eq_of_lt (by omega)
  simp [lengthGood, this]; omega

/-- The taken request that a frame is. -/
theorem takenOf_frameOf (p : Port) (n : Nat) (tag : Byte) (pl : List Byte) :
    takenOf p (frameOf n tag pl) = { port := p, kind := BitVec.ofNat 8 n, tag := tag, payload := pl } := by
  simp only [takenOf, frameOf_kind, frameOf_tag, frameOf_payload]

/-! ## Taking (R179) -/

variable {s : State} {p : Port} {f : List Byte}

theorem State.offers_mayTake (h : s.offers p f) : s.mayTake p = true := by
  obtain ⟨h1, h2, h3, -⟩ := h
  simp [State.mayTake, h1, h2, PortState.responseRoom, h3]

/-- An offered frame of the row is taken. -/
theorem State.takeRow_offers {row : RequestRow} (g : Taken → State → State) (h : s.offers p f) (hr : rowOf f = row) :
    s.takeRow p row g = g (takenOf p f) (s.popRequest p f) := by
  have ht := State.offers_mayTake h
  obtain ⟨-, -, -, h4⟩ := h
  unfold State.takeRow
  cases hq : (s.port p).requests with
  | nil => simp [hq] at h4
  | cons a l =>
    obtain rfl : a = f := by simpa [hq] using h4
    simp [ht, hr]

/-- The row of a well-formed frame of a kind that is one row of the table. -/
theorem rowOf_frameOf {n : Nat} {tag : Byte} {pl : List Byte} {k : RequestKind} (hl : pl.length ≤ 61)
    (hk : RequestKind.ofCode (n % 256) = some k) (h1 : k ≠ .cacheControl) (h2 : k ≠ .outputTest) :
    rowOf (frameOf n tag pl) = .kind k := by
  unfold rowOf
  rw [frameOf_good n tag hl, frameOf_byte1, hk]
  cases k <;> simp_all

/-- What the taking of an offered well-formed request of a kind does, where the port and the length allow it. -/
theorem State.takeKind_offers {n : Nat} {tag : Byte} {pl : List Byte} {k : RequestKind} (g : Taken → State → State)
    (h : s.offers p (frameOf n tag pl)) (hl : pl.length ≤ 61) (hk : RequestKind.ofCode (n % 256) = some k)
    (h1 : k ≠ .cacheControl) (h2 : k ≠ .outputTest) (hp : k.permitted p = true) (ha : k.admits pl.length = true) :
    s.takeKind p k g =
      g { port := p, kind := BitVec.ofNat 8 n, tag := tag, payload := pl } (s.popRequest p (frameOf n tag pl)) := by
  unfold State.takeKind
  rw [State.takeRow_offers _ h (rowOf_frameOf hl hk h1 h2), takenOf_frameOf]
  simp [State.checkKind, hp, ha]

/-- Answering the request just taken: nothing but the port and the restarted link timer has changed. -/
theorem State.answer_popRequest (n : Nat) (tag : Byte) (pl q : List Byte) (st : Status) :
    (s.popRequest p (frameOf n tag pl)).answer { port := p, kind := BitVec.ofNat 8 n, tag := tag, payload := pl } st q
      = (s.restartLink p).answered1 p n tag st q := by
  unfold State.popRequest State.restartLink
  cases p <;> simp only [frameOf_kind, frameOf_tag]
  case crew =>
    cases hs : s.lift.session <;> simp only [State.setPort_lift, hs]
    · rfl
    · split <;> rfl
  all_goals rfl

/-- Refusing it, likewise. -/
theorem State.refuse_popRequest (n : Nat) (tag : Byte) (pl : List Byte) (st : Status) :
    (s.popRequest p (frameOf n tag pl)).refuse { port := p, kind := BitVec.ofNat 8 n, tag := tag, payload := pl } st
      = (s.restartLink p).answered1 p n tag st [] := State.answer_popRequest n tag pl [] st

end Sys2Proof.Machine
end

