-- ==== Sys2Proof/Laws/KeptCommands.lean ====
section
/-! SUPPORT. Which `Kept` properties a command keeps: a property that is also kept by the taking and the answering of a
request, and by the few changes that a command makes beyond the shared operations, is kept by that command. -/

namespace Sys2Proof.Machine

/-! ## Combining properties -/

/-- The property that always holds. -/
def Kept.top : Kept where
  P _ := True
  memOk := True
  frame _ _ := trivial
  elapse _ _ := trivial
  slot _ _ _ _ _ := trivial
  notify _ _ _ _ := trivial
  mem _ _ _ _ _ := trivial
  raise _ _ _ := trivial
  rehf _ _ _ _ _ := trivial
  mark _ _ _ _ := trivial
  unraise _ _ := trivial
  enqueue _ _ _ _ := trivial
  dequeue _ _ := trivial
  chargeIn _ _ := trivial
  chargeOut _ _ := trivial
  chargesOut _ := trivial
  starve _ _ _ := trivial
  append _ _ := trivial

/-- Both properties. -/
def Kept.and (I J : Kept) : Kept where
  P s := I.P s ∧ J.P s
  memOk := I.memOk ∧ J.memOk
  frame h hp := ⟨I.frame h hp.1, J.frame h hp.2⟩
  elapse n hp := ⟨I.elapse n hp.1, J.elapse n hp.2⟩
  slot k f hr hu hp := ⟨I.slot k f hr hu hp.1, J.slot k f hr hu hp.2⟩
  notify p n bs hp := ⟨I.notify p n bs hp.1, J.notify p n bs hp.2⟩
  mem hm _ a bs hp := ⟨I.mem hm.1 a bs hp.1, J.mem hm.2 a bs hp.2⟩
  raise e he hp := ⟨I.raise e he hp.1, J.raise e he hp.2⟩
  rehf k hf e he hp := ⟨I.rehf k hf e he hp.1, J.rehf k hf e he hp.2⟩
  mark k f hf hp := ⟨I.mark k f hf hp.1, J.mark k f hf hp.2⟩
  unraise k hp := ⟨I.unraise k hp.1, J.unraise k hp.2⟩
  enqueue b k c hp := ⟨I.enqueue b k c hp.1, J.enqueue b k c hp.2⟩
  dequeue k hp := ⟨I.dequeue k hp.1, J.dequeue k hp.2⟩
  chargeIn n hp := ⟨I.chargeIn n hp.1, J.chargeIn n hp.2⟩
  chargeOut hc hp := ⟨I.chargeOut hc hp.1, J.chargeOut hc hp.2⟩
  chargesOut hp := ⟨I.chargesOut hp.1, J.chargesOut hp.2⟩
  starve n hn hp := ⟨I.starve n hn hp.1, J.starve n hn hp.2⟩
  append b hp := ⟨I.append b hp.1, J.append b hp.2⟩

/-- The changes of the ports and of the clock that every command path makes: a request is taken, a request is answered
under the premise `pre` that its taking established, a frame is written or read, events of the clock are owed. -/
structure Serves (I : Kept) where
  pre : Port → Kept
  pop : ∀ {s : State} (p : Port) (f : List Byte), s.mayTake p = true → (s.port p).requests.head? = some f → I.P s →
    (I.and (pre p)).P (s.setPort p { s.port p with
      requests := (s.port p).requests.drop 1, inProgress := some (f.getD 1 0, f.getD 2 0) })
  answer : ∀ {s : State} (t : Taken) (st : Status) (pl : List Byte), (I.and (pre t.port)).P s → I.P (s.answer t st pl)
  write : ∀ {s : State} (p : Port) (f : List Byte), I.P s → I.P (s.frameWrite p f)
  read : ∀ {s : State} (p : Port) (n : Nat), I.P s → I.P (s.frameRead p n)
  announceAll : ∀ {s : State}, I.P s → I.P { s with demand := s.demand.map fun e => { e with announced := true } }
  clock : ∀ {s : State} (c : Clock), c.valid = s.clock.valid → I.P s → I.P { s with clock := c }
  clockPre : ∀ {s : State} (q : Port) (c : Clock), (pre q).P s → (pre q).P { s with clock := c }

/-- What a command changes beyond the shared operations and `Serves`, as a condition on the property. -/
def Serves.admits {I : Kept} (V : Serves I) : Instr → Prop
  | .stationConfig _ => ∀ {s : State} (c : StationConfig), (I.and (V.pre .office)).P s →
      (I.and (V.pre .office)).P { s with config := c }
  | .profileWrite _ => ∀ {s : State} (v : Vector Profile 16), (I.and (V.pre .office)).P s →
      (I.and (V.pre .office)).P { s with profiles := v }
  | .hoursWrite _ => ∀ {s : State} (v : Vector FractionHours 6), (I.and (V.pre .office)).P s →
      (I.and (V.pre .office)).P { s with hours := v }
  | .toneWrite _ => ∀ {s : State} (v : ToneTable), (I.and (V.pre .office)).P s →
      (I.and (V.pre .office)).P { s with tones := v }
  | .timeSet _ => ∀ {s : State} (c : Clock), (I.and (V.pre .office)).P s → (I.and (V.pre .office)).P { s with clock := c }
  | .slotConfig _ | .slotRemove _ => ∀ {s : State} (k : Slot) (f : SlotUnit → SlotUnit),
      ((s.slot k).inRange → (f (s.slot k)).inRange) → (I.and (V.pre .office)).P s →
      (I.and (V.pre .office)).P (s.modSlot k f)
  | .logRelease _ => ∀ {s : State} (n : Nat) (b : Bool), (I.and (V.pre .office)).P s →
      (I.and (V.pre .office)).P { s with log := { s.log with records := s.log.records.drop n, spent := b } }
  | .cacheNormal _ | .cacheFrozen _ => ∀ {s : State} (b : Bool), (I.and (V.pre .office)).P s →
      (I.and (V.pre .office)).P (s.modResolver fun r => { r with frozen := b })
  | .storeAttach _ => ∀ {s : State}, (I.and (V.pre .office)).P s →
      I.P (s.modStore fun x => { x with headerRead := some (.attach, s.now) })
  | .restart _ | .powerOn _ | .resetLine => ∀ {s : State} (r : ResetKind) (c : Clock → Clock),
      (∀ x : Clock, (c x).valid = true → x.valid = true) → I.P s → I.P (s.takeReset r c)
  | .mainSupplyLoss => ∀ {s : State}, I.P s → I.P s.loseSupply
  | .transactionComplete _ => I.memOk
  | .transactionTimeout _ | .headerReadComplete _ => I.memOk ∧
      (∀ {s : State} (st : StoreState) (h : Option Header), I.P s →
        I.P { s with run := .running, store := { s.store with state := st, header := h, headerRead := none } }) ∧
      (∀ {s : State} (n : Nat), s.store.headerRead = some (.attach, n) → I.P s →
        (I.and (V.pre .office)).P (s.modStore fun x => { x with headerRead := none }))
  | _ => True

/-! ## Taking requests -/

variable {I : Kept} (V : Serves I) {s : State}

/-- A request handler that keeps the property, on states where the taking has established `pre`. -/
def Serves.keeps (V : Serves I) (q : Port) (g : Taken → State → State) : Prop :=
  ∀ (t : Taken) (s : State), t.port = q → (I.and (V.pre q)).holds s → I.holds (g t s)

theorem Serves.answered {t : Taken} {q : Port} (hq : t.port = q) (st : Status) (pl : List Byte)
    (h : (I.and (V.pre q)).holds s) : I.holds (s.answer t st pl) := by
  subst hq; exact V.answer t st pl h

theorem Serves.refused {t : Taken} {q : Port} (hq : t.port = q) (st : Status)
    (h : (I.and (V.pre q)).holds s) : I.holds (s.refuse t st) := V.answered hq st [] h

theorem Serves.takeRow {p : Port} {row : RequestRow} {g : Taken → State → State} (hg : V.keeps p g) (h : I.holds s) :
    I.holds (s.takeRow p row g) := by
  unfold State.takeRow
  split
  · exact h
  · rename_i f _ hq
    split
    · rename_i hc
      simp only [Bool.and_eq_true] at hc
      refine hg _ _ rfl (Kept.restartLink p ?_)
      exact V.pop p f hc.1 (by simp [hq]) h
    · exact h

theorem Serves.checkKind {p : Port} {k : RequestKind} {g : Taken → State → State}
    (hg : k.permitted p = true → V.keeps p g) : V.keeps p (State.checkKind k g) := by
  intro t s hp h
  unfold State.checkKind
  split
  · exact V.refused hp _ h
  · rename_i hk
    split
    · exact V.refused hp _ h
    · exact hg (by simpa [hp] using hk) t s hp h

theorem Serves.takeKind {p : Port} {k : RequestKind} {g : Taken → State → State}
    (hg : k.permitted p = true → V.keeps p g) (h : I.holds s) : I.holds (s.takeKind p k g) :=
  V.takeRow (V.checkKind hg) h

include V in
/-- An UNKNOWN_REQUEST. -/
theorem Serves.unknown {p : Port} (h : I.holds s) : I.holds (s.takeUnknown p) := by
  unfold State.takeUnknown
  split
  · exact h
  · refine V.takeRow ?_ h
    intro t u hp hu
    unfold State.unknown
    split <;> exact V.refused hp _ hu

theorem Serves.stationStatus {p : Port} : V.keeps p State.stationStatus := fun _ _ hp h => V.answered hp _ _ h

theorem Serves.slotQuery {p : Port} : V.keeps p State.slotQuery := by
  intro t s hp h
  unfold State.slotQuery
  split
  · exact V.answered hp _ _ h
  · exact V.refused hp _ h

include V in
/-- The period is recomputed. -/
theorem Serves.recomputePeriod (c : PeriodCause) (h : I.holds s) : I.holds (s.recomputePeriod c) := by
  unfold State.recomputePeriod
  dsimp only
  split
  · exact Kept.post _ _ _ (V.clock _ rfl h)
  · exact h

theorem Serves.recomputePeriodPre {q : Port} (c : PeriodCause) (h : (I.and (V.pre q)).holds s) :
    (I.and (V.pre q)).holds (s.recomputePeriod c) := by
  unfold State.recomputePeriod
  dsimp only
  split
  · exact Kept.post _ _ _ ⟨V.clock _ rfl h.1, V.clockPre q _ h.2⟩
  · exact h

@[simp] theorem Kept.moveDue (k : Slot) (h : I.holds s) : I.holds (s.moveDue k) := by
  unfold State.moveDue
  split
  · exact h
  · dsimp only
    split
    · split <;> simp (maxDischargeDepth := 40) [h]
    · simp (maxDischargeDepth := 40) [h]

theorem Serves.stationConfig (ha : V.admits (.stationConfig .office)) : V.keeps .office State.stationConfig := by
  intro t s hp h
  unfold State.stationConfig
  split
  · refine V.answered hp _ _ ?_
    unfold State.applyConfig
    dsimp only
    refine V.recomputePeriodPre _ (Kept.ite (ha _ h) (Kept.eachSlot (fun k _ ht => Kept.moveDue k ht) (ha _ h)))
  · exact V.refused hp _ h

/-! ## Container Table -/

@[simp] theorem Kept.configureBars (k : Slot) (h : I.holds s) : I.holds (s.configureBars k) := by
  unfold State.configureBars
  dsimp only
  exact Kept.ite (Kept.changeBar _ _ _ (Kept.modTrack _ _ (Kept.ite h (Kept.changeBar _ _ _ h))))
    (Kept.ite h (Kept.changeBar _ _ _ h))

@[simp] theorem Kept.configureAlerts (k : Slot) (h : I.holds s) : I.holds (s.configureAlerts k) := by
  unfold State.configureAlerts
  dsimp only
  exact Kept.ite (Kept.removeEntry _ _ (Kept.alert _ (Kept.ite h (Kept.alert _ h)))) (Kept.ite h (Kept.alert _ h))

@[simp] theorem Kept.configureDrum (k : Slot) (h : I.holds s) : I.holds (s.configureDrum k) := by
  unfold State.configureDrum
  exact Kept.ite (Kept.modTrack _ _ h) (Kept.startTurn _ _ h)

@[simp] theorem Kept.joinRotation (k : Slot) (h : I.holds s) : I.holds (s.joinRotation k) := by
  unfold State.joinRotation
  exact Kept.ite (Kept.wakeBus h) h

@[simp] theorem Kept.changeReader (old : SlotRecord) (k : Slot) (h : I.holds s) : I.holds (s.changeReader old k) := by
  unfold State.changeReader
  exact Kept.ite h (Kept.ite (Kept.joinRotation _ h) (Kept.leaveRotation _ h))

/-- Clamping brings every field into range (R1, R2). -/
theorem SlotRecord.inRange_clamped (r : SlotRecord) : r.clamped.inRange := by
  unfold SlotRecord.inRange SlotRecord.clamped clamp
  dsimp only
  omega

theorem Serves.configureSlot (ha : V.admits (.slotConfig .office)) (k : Slot) (r : SlotRecord)
    (h : (I.and (V.pre .office)).holds s) : (I.and (V.pre .office)).holds (s.configureSlot k r.clamped) := by
  unfold State.configureSlot
  dsimp only
  refine Kept.chooseBurst (Kept.joinRotation _ (Kept.evaluateThresholds _ _ (Kept.evaluateLog (Kept.configureDrum _
    (Kept.configureAlerts _ (Kept.configureBars _ (Kept.queueRange _ _ _ (Kept.setDue _ (Kept.changeBar _ _ _
    (Kept.recompute _ ?_))))))))))
  exact ha k _ (fun _ => ⟨SlotRecord.inRange_clamped r, by simp [FillRecord.inRange]⟩) h

theorem Serves.reconfigureSlot (ha : V.admits (.slotConfig .office)) (k : Slot) (r : SlotRecord)
    (h : (I.and (V.pre .office)).holds s) : (I.and (V.pre .office)).holds (s.reconfigureSlot k r.clamped) := by
  have hr := SlotRecord.inRange_clamped r
  unfold State.reconfigureSlot
  dsimp only
  suffices hs : (I.and (V.pre .office)).holds
      (if (s.slot k).record.geometry = r.clamped.geometry
        then (s.modSlot k fun u => { u with record := r.clamped }).keepGeometry (s.slot k).record k
        else (s.modSlot k fun u => { u with record := r.clamped }).changeGeometry k) from
    Kept.changeReader _ _ (Kept.ite hs (Kept.evaluateLog hs))
  split
  · rename_i hg
    have hv : (s.slot k).record.vNom = r.clamped.vNom := congrArg Prod.fst hg
    unfold State.keepGeometry
    dsimp only
    have h1 : (I.and (V.pre .office)).holds ((s.modSlot k fun u => { u with record := r.clamped }).recompute k) := by
      unfold State.recompute
      rw [State.modSlot_modSlot]
      refine ha k _ (fun hu => ?_) h
      obtain ⟨-, he, hf, hh, hx⟩ := hu
      have hc : (s.slot k).record.vCap = r.clamped.vCap := by unfold SlotRecord.vCap; rw [hv]
      exact SlotUnit.inRange_recompute (u := { s.slot k with record := r.clamped })
        ⟨hr, by rw [← hc]; exact he, hf, by rw [← hc]; exact hh, hx⟩
    exact Kept.recomputeHours _ (Kept.ite h1 (Kept.evaluateThresholds _ _ h1))
  · unfold State.changeGeometry
    dsimp only
    refine Kept.recomputeHours _ (Kept.evaluateThresholds _ _ (Kept.recompute _ (Kept.requestRange _ _
      (Kept.chooseBurst (Kept.answerWaiters _ _ (Kept.discardBurst _ _ (Kept.changeBar _ _ _ ?_)))))))
    unfold State.modFill
    rw [State.modSlot_modSlot]
    refine ha k _ (fun hu => ?_) h
    obtain ⟨-, he, hf, hh, hfr, ha', hhf, hsil⟩ := hu
    exact ⟨hr, Nat.zero_le _, hf, Nat.zero_le _, hfr, ha', hhf, Nat.zero_le _⟩

theorem Serves.slotConfig (ha : V.admits (.slotConfig .office)) : V.keeps .office State.slotConfig := by
  intro t s hp h
  unfold State.slotConfig
  split
  · split
    · exact V.refused hp _ h
    · exact V.answered hp _ _ (Kept.ite (V.reconfigureSlot ha _ _ h) (V.configureSlot ha _ _ h))
  · exact V.refused hp _ h

theorem Serves.slotRemove (ha : V.admits (.slotRemove .office)) : V.keeps .office State.slotRemove := by
  intro t s hp h
  unfold State.slotRemove
  split
  · split
    · exact V.refused hp _ h
    · split
      · exact V.refused hp _ h
      · refine V.answered hp _ _ ?_
        unfold State.removeSlot
        dsimp only
        refine Kept.chooseBurst (ha _ _ (fun hu => ⟨hu.1, by simp [FillRecord.inRange, SlotUnit.removed]⟩)
          (Kept.answerWaiters _ _ (Kept.discardBurst _ _ (Kept.removeEntry _ _ (Kept.clearDemand _ _ h)))))
  · exact V.refused hp _ h

theorem Serves.profileWrite (ha : V.admits (.profileWrite .office)) : V.keeps .office State.profileWrite := by
  intro t s hp h
  unfold State.profileWrite
  split
  · exact V.refused hp _ h
  · split
    · split
      · exact V.refused hp _ h
      · exact V.answered hp _ _ (ha _ h)
    · exact V.refused hp _ h

theorem Serves.hoursWrite (ha : V.admits (.hoursWrite .office)) : V.keeps .office State.hoursWrite := by
  intro t s hp h
  unfold State.hoursWrite
  split
  · exact V.answered hp _ _ (ha _ h)
  · exact V.refused hp _ h

theorem Serves.toneWrite (ha : V.admits (.toneWrite .office)) : V.keeps .office State.toneWrite := by
  intro t s hp h
  unfold State.toneWrite
  split
  · exact V.answered hp _ _ (ha _ h)
  · exact V.refused hp _ h

/-! ## Station Clock, demand, log -/

theorem Serves.timeSet (ha : V.admits (.timeSet .office)) : V.keeps .office State.timeSet := by
  intro t s hp h
  unfold State.timeSet
  dsimp only
  split
  · exact V.answered hp _ _ (V.recomputePeriodPre _ (ha _ h))
  · exact V.refused hp _ h

theorem Serves.timeQuery {p : Port} : V.keeps p State.timeQuery := fun _ _ hp h => V.answered hp _ _ h

include V in
theorem Serves.reachHour (h : I.holds s) : I.holds s.reachHour := by
  unfold State.reachHour
  dsimp only
  split
  · exact V.clock _ rfl (I.elapse _ h)
  · exact V.clock _ rfl h

include V in
theorem Serves.reachDay (h : I.holds s) : I.holds s.reachDay := by
  unfold State.reachDay
  dsimp only
  split
  · exact V.clock _ rfl (I.elapse _ h)
  · exact V.clock _ rfl h

theorem Serves.fillSetRequest {p : Port} : V.keeps p State.fillSetRequest := by
  intro t s hp h
  unfold State.fillSetRequest
  split
  · exact V.answered hp _ _ (Kept.fillSet _ _ h)
  · exact V.refused hp _ h

theorem Serves.rangeNow {p : Port} : V.keeps p State.rangeNow := by
  intro t s hp h
  unfold State.rangeNow
  split
  · split
    · exact V.refused hp _ h
    · exact Kept.requestRange _ _ (Kept.modRange _ _ (V.answered hp _ _ h))
  · exact V.refused hp _ h

theorem Serves.demandAdd {p : Port} : V.keeps p State.demandAdd := by
  intro t s hp h
  unfold State.demandAdd
  split
  · refine V.answered hp _ _ ?_
    unfold State.orderDemand
    split
    · exact Kept.raiseDemand _ _ _ h
    · exact Kept.ite h (Kept.raiseCause _ _ h)
  · exact V.refused hp _ h

theorem Serves.demandCancel {p : Port} : V.keeps p State.demandCancel := by
  intro t s hp h
  unfold State.demandCancel
  split
  · split
    · exact V.answered hp _ _ (Kept.clearDemand _ _ h)
    · exact V.refused hp _ h
  · exact V.refused hp _ h

theorem Serves.demandList {p : Port} : V.keeps p State.demandList :=
  fun _ _ hp h => V.announceAll (V.answered hp _ _ h)

theorem Serves.logFetch {p : Port} : V.keeps p State.logFetch := by
  intro t s hp h
  unfold State.logFetch
  split
  · exact V.answered hp _ _ ((I.and (V.pre p)).same h {})
  · exact V.refused hp _ h

theorem Serves.logRelease (ha : V.admits (.logRelease .office)) : V.keeps .office State.logRelease := by
  intro t s hp h
  exact V.answered hp _ _ (Kept.evaluateLog (ha _ _ h))

/-! ## Batches and cards -/

theorem Serves.batchBegin {p : Port} : V.keeps p State.batchBegin := by
  intro t s hp h
  unfold State.batchBegin
  dsimp only
  repeat' split
  all_goals first
    | exact V.refused hp _ h
    | exact V.answered hp _ _ ((I.and (V.pre p)).same h {})

theorem Serves.batchData {p : Port} : V.keeps p State.batchData := by
  intro t s hp h
  unfold State.batchData
  repeat' split
  any_goals exact V.refused hp _ h
  exact Kept.runParser (V.answered hp _ _ (Kept.modBatch _ h))

theorem Serves.batchEnd {p : Port} : V.keeps p State.batchEnd := by
  intro t s hp h
  unfold State.batchEnd
  repeat' split
  any_goals exact V.refused hp _ h
  have h1 := V.answered hp .accepted [] h
  unfold State.finishBatch
  dsimp only
  refine Kept.endIfDone (Kept.modBatch _ ?_)
  split
  · exact Kept.closeEntry _ _ h1
  · exact h1
  · exact h1

theorem Serves.batchAbort {p : Port} : V.keeps p State.batchAbort := by
  intro t s hp h
  unfold State.batchAbort
  split
  · exact V.refused hp _ h
  · exact Kept.abortBatch (V.answered hp _ _ h)

theorem Serves.cardQuery {p : Port} : V.keeps p State.cardQuery := by
  intro t s hp h
  unfold State.cardQuery
  dsimp only
  repeat' split
  any_goals exact V.refused hp _ h
  exact Kept.placeLookup _ (Kept.modResolver (fun _ => ⟨rfl, rfl⟩) (V.answered hp _ _ h))

theorem Serves.setMode (ha : V.admits (.cacheFrozen .office)) (b : Bool) : V.keeps .office (State.setMode b) :=
  fun _ _ hp h => V.answered hp _ _ (ha b h)

theorem Serves.cacheNormal (ha : V.admits (.cacheFrozen .office)) : V.keeps .office State.cacheNormal := by
  intro t s hp h
  unfold State.cacheNormal
  split
  · exact V.setMode ha false t s hp h
  · exact V.refused hp _ h

theorem Serves.cacheFlush {p : Port} : V.keeps p State.cacheFlush := by
  intro t s hp h
  unfold State.cacheFlush
  split
  · exact V.refused hp _ h
  · exact V.answered hp _ _ (Kept.flushCache h)

theorem Serves.storeAttach (ha : V.admits (.storeAttach .office)) : V.keeps .office State.storeAttach := by
  intro t s hp h
  unfold State.storeAttach
  split
  any_goals exact V.refused hp _ h
  all_goals exact ha h

theorem Serves.storeFormat {p : Port} : V.keeps p State.storeFormat := by
  intro t s hp h
  unfold State.storeFormat
  split
  any_goals exact V.refused hp _ h
  all_goals
    split
    · exact V.refused hp _ h
    · exact Kept.startFormat (V.answered hp _ _ h)

/-! ## Crew and service -/

theorem Serves.crewOpen {p : Port} : V.keeps p State.crewOpen := by
  intro t s hp h
  unfold State.crewOpen
  dsimp only
  repeat' split
  any_goals exact V.refused hp _ h
  exact Kept.placeLookup _ (Kept.modLift _ (V.answered hp _ _ h))

theorem Serves.present {p : Port} : V.keeps p State.present := by
  intro t s hp h
  unfold State.present
  split
  · exact V.answered hp _ _ h
  · exact V.refused hp _ h

@[simp] theorem Kept.acceptCustody (c : CrewSession) (k : Slot) (h : I.holds s) : I.holds (s.acceptCustody c k) := by
  unfold State.acceptCustody
  dsimp only
  have h1 := Kept.setBar k .lift (Kept.enterCustody .waiting (some (s.now + 1000 * s.config.custodyWait))
    (Kept.modCustody (fun _ => { slot := k, truck := c.truck, card := c.card }) h))
  exact Kept.ite h1 (Kept.slotQuiet _ h1)

theorem Serves.custody {p : Port} : V.keeps p State.custodyRequest := by
  intro t s hp h
  unfold State.custodyRequest
  repeat' split
  any_goals exact V.refused hp _ h
  exact Kept.acceptCustody _ _ (V.answered hp _ _ h)

theorem Serves.custodyRelease {p : Port} : V.keeps p State.custodyRelease := by
  intro t s hp h
  unfold State.custodyRelease
  dsimp only
  repeat' split
  any_goals exact V.refused hp _ h
  · exact Kept.endCustody _ _ (V.answered hp _ _ h)
  · exact Kept.endCustody _ _ (V.answered hp _ _ h)
  · exact Kept.releaseCustody _ (V.answered hp _ _ h)

theorem Serves.crewClose {p : Port} : V.keeps p State.crewClose := by
  intro t s hp h
  unfold State.crewClose
  split
  · exact V.refused hp _ h
  · split
    · exact V.refused hp _ h
    · unfold State.closeCrew
      dsimp only
      have h1 (b : Bool) : I.holds (s.answerClose t b) := V.answered hp _ _ h
      repeat' split
      any_goals exact V.refused hp _ h
      · exact Kept.completeVisit (h1 _)
      · exact Kept.completeVisit (h1 _)
      · exact Kept.completeVisit (Kept.endCustody _ _ (h1 _))
      · exact Kept.completeVisit (Kept.endCustody _ _ (h1 _))
      · exact Kept.releaseCustody _ (Kept.modLift _ (h1 _))
      · exact Kept.modLift _ (h1 _)

theorem Serves.serviceHold {p : Port} : V.keeps p State.serviceHold := by
  intro t s hp h
  unfold State.serviceHold
  repeat' split
  any_goals exact V.refused hp _ h
  exact V.answered hp _ _ (Kept.setBar _ _ h)

theorem Serves.serviceRelease {p : Port} : V.keeps p State.serviceRelease := by
  intro t s hp h
  unfold State.serviceRelease
  repeat' split
  any_goals exact V.refused hp _ h
  exact V.answered hp _ _ (Kept.changeBar _ _ _ (Kept.endTest _ h))

@[simp] theorem Kept.setTest (k : Slot) (x : ReleaseTest) (d : Nat) (h : I.holds s) : I.holds (s.setTest k x d) :=
  Kept.light (fun _ => ⟨rfl, rfl, rfl⟩) h

theorem Serves.testDrum {p : Port} : V.keeps p State.testDrum := by
  intro t s hp h
  unfold State.testDrum
  repeat' split
  all_goals first
    | exact V.answered hp _ _ (Kept.setTest _ _ _ (Kept.setDrumLock _ _ h))
    | exact V.refused hp _ h

theorem Serves.testHatch {p : Port} : V.keeps p State.testHatch := by
  intro t s hp h
  unfold State.testHatch
  repeat' split
  all_goals first
    | exact V.answered hp _ _ (Kept.setTest _ _ _ (Kept.setHatch _ _ h))
    | exact V.refused hp _ h

theorem Serves.testTone {p : Port} : V.keeps p State.testTone := by
  intro t s hp h
  unfold State.testTone
  repeat' split
  all_goals first
    | exact V.answered hp _ _ (Kept.askTone _ _ h)
    | exact V.refused hp _ h

/-! ## Events -/

@[simp] theorem Kept.rawChange (k : Slot) (l : Line) (b : Bool) (h : I.holds s) : I.holds (s.rawChange k l b) :=
  Kept.light (fun _ => ⟨rfl, rfl, rfl⟩) h

@[simp] theorem Kept.acceptLevel (k : Slot) (l : Line) (h : I.holds s) : I.holds (s.acceptLevel k l) :=
  Kept.light (fun _ => ⟨rfl, rfl, rfl⟩) h

@[simp] theorem Kept.filterElapsed (k : Slot) (l : Line) (h : I.holds s) : I.holds (s.filterElapsed k l) := by
  unfold State.filterElapsed; split <;> simp (maxDischargeDepth := 40) [h]

@[simp] theorem Kept.drumJam (k : Slot) (h : I.holds s) : I.holds (s.drumJam k) := by
  unfold State.drumJam; split <;> simp (maxDischargeDepth := 40) [h]

@[simp] theorem Kept.floodOff (k : Slot) (h : I.holds s) : I.holds (s.floodOff k) := by
  unfold State.floodOff; split <;> simp (maxDischargeDepth := 40) [h]

@[simp] theorem Kept.dueTimePassed (k : Slot) (h : I.holds s) : I.holds (s.dueTimePassed k) := by
  unfold State.dueTimePassed
  split
  · dsimp only
    split <;> simp (maxDischargeDepth := 40) [h]
  · exact h

@[simp] theorem Kept.delayEnd (k : Slot) (h : I.holds s) : I.holds (s.delayEnd k) := by
  unfold State.delayEnd; split <;> simp (maxDischargeDepth := 40) [h]

@[simp] theorem Kept.pingEmit (h : I.holds s) : I.holds s.pingEmit := by
  unfold State.pingEmit
  split
  · split
    · exact h
    · exact Kept.modRanging (fun _ => rfl) (Kept.elapseTo _ h)
  · exact h

@[simp] theorem Kept.echoEdge (k : Slot) (t : Nat) (h : I.holds s) : I.holds (s.echoEdge k t) := by
  unfold State.echoEdge
  split
  · split <;> simp (maxDischargeDepth := 40) [h]
  · exact h

@[simp] theorem Kept.pingTimeout (h : I.holds s) : I.holds s.pingTimeout := by
  unfold State.pingTimeout
  split
  · split <;> simp (maxDischargeDepth := 40) [h]
  · exact h

@[simp] theorem Kept.readerDue (k : Slot) (h : I.holds s) : I.holds (s.readerDue k) := by
  unfold State.readerDue
  split
  · split <;> simp (maxDischargeDepth := 40) [h]
  · exact h

@[simp] theorem Kept.readerAnswer (bs : List Byte) (h : I.holds s) : I.holds (s.readerAnswer bs) := by
  unfold State.readerAnswer
  split
  · split <;> simp (maxDischargeDepth := 40) [h]
  all_goals exact h

@[simp] theorem Kept.pollTimeout (h : I.holds s) : I.holds s.pollTimeout := by
  unfold State.pollTimeout; split <;> simp (maxDischargeDepth := 40) [h]

@[simp] theorem Kept.signalSent (h : I.holds s) : I.holds s.signalSent := by
  unfold State.signalSent; split <;> simp (maxDischargeDepth := 40) [h]

@[simp] theorem Kept.idleTimeout (k : Slot) (h : I.holds s) : I.holds (s.idleTimeout k) := by
  unfold State.idleTimeout; split <;> simp (maxDischargeDepth := 40) [h]

@[simp] theorem Kept.stopCustodyTimer (d : Nat) (h : I.holds s) : I.holds (s.stopCustodyTimer d) :=
  Kept.modCustody _ (Kept.elapseTo _ h)

@[simp] theorem Kept.custodyWaitExpiry (h : I.holds s) : I.holds s.custodyWaitExpiry := by
  unfold State.custodyWaitExpiry; split <;> simp (maxDischargeDepth := 40) [h]

@[simp] theorem Kept.raiseTimeout (h : I.holds s) : I.holds s.raiseTimeout := by
  unfold State.raiseTimeout; split <;> simp (maxDischargeDepth := 40) [h]

@[simp] theorem Kept.liftOvertime (h : I.holds s) : I.holds s.liftOvertime := by
  unfold State.liftOvertime; split <;> simp (maxDischargeDepth := 40) [h]

@[simp] theorem Kept.linkLoss (h : I.holds s) : I.holds s.linkLoss := by
  unfold State.linkLoss
  split
  · rename_i d _
    have h1 : I.holds (State.markLinkLost (s.elapseTo d)) := Kept.modLift _ (Kept.elapseTo _ h)
    unfold State.loseLink
    dsimp only
    split
    · exact Kept.completeVisit h1
    · split
      · exact Kept.completeVisit h1
      · exact Kept.completeVisit (Kept.endCustody _ _ h1)
      · exact Kept.completeVisit (Kept.endCustody _ _ h1)
      · exact Kept.completeVisit (Kept.modCustody _ h1)
      · exact Kept.releaseCustody _ (Kept.modLift _ h1)
      · exact Kept.modLift _ h1
  · exact h

@[simp] theorem Kept.outputTestEnd (k : Slot) (h : I.holds s) : I.holds (s.outputTestEnd k) := by
  unfold State.outputTestEnd; split <;> simp (maxDischargeDepth := 40) [h]

theorem Serves.attached (ha : V.admits (.headerReadComplete .held)) {n : Nat} (st : StoreState) (x : Option Header)
    (hr : s.store.headerRead = some (.attach, n)) (h : I.holds s) : I.holds (s.attached st x) := by
  have h0 := ha.2.2 n hr h
  unfold State.attached
  dsimp only
  refine V.answered rfl _ _ ?_
  split
  · exact Kept.storeOnline _ _ _ h0
  · have h1 := Kept.modStore (f := fun y => { y with state := st, header := none }) (fun _ => ⟨rfl, rfl⟩) h0
    exact Kept.ite h1 (Kept.postStoreState _ _ _ h1)

theorem Serves.headerOutcome (ha : V.admits (.headerReadComplete .held)) {p : HeaderPurpose} {n : Nat} (st : StoreState)
    (x : Option Header) (hr : s.store.headerRead = some (p, n)) (h : I.holds s) : I.holds (s.headerOutcome p st x) := by
  cases p with
  | startUp => exact Kept.postStart (ha.2.1 st x h)
  | attach => exact V.attached ha st x hr h

theorem Serves.headerBytes (ha : V.admits (.headerReadComplete .held)) {p : HeaderPurpose} {n : Nat} (bs : List Byte)
    (hr : s.store.headerRead = some (p, n)) (h : I.holds s) : I.holds (s.headerBytes p bs) := by
  unfold State.headerBytes
  exact Kept.ite (V.headerOutcome ha _ _ hr h) (V.headerOutcome ha _ _ hr h)

theorem Serves.headerReadComplete (ha : V.admits (.headerReadComplete .held)) (a : StoreAnswer) (h : I.holds s) :
    I.holds (s.headerReadComplete a) := by
  unfold State.headerReadComplete
  split
  · rename_i p n hr
    unfold State.answerHeader
    split
    · exact V.headerBytes ha _ hr h
    · exact V.headerOutcome ha _ _ hr h
    · split
      · exact V.headerBytes ha _ hr (I.mem ha.1 _ _ h)
      · exact V.headerOutcome ha _ _ hr h
  · exact h

theorem Serves.transactionTimeout (ha : V.admits (.headerReadComplete .held)) (w : WriteFate) (h : I.holds s) :
    I.holds (s.transactionTimeout w) := by
  unfold State.transactionTimeout
  split
  · exact Kept.timeoutTransaction ha.1 _ _ h
  · rename_i n _ hr
    exact V.headerOutcome ha .absent none (s := s.elapseTo (n + Config.storeMs)) hr (Kept.elapseTo _ h)
  · exact h

theorem Kept.transactionComplete (hm : I.memOk) (a : StoreAnswer) (h : I.holds s) : I.holds (s.transactionComplete a) := by
  unfold State.transactionComplete
  split
  · exact Kept.answerTransaction hm _ _ h
  · exact h

include V in
theorem Serves.hourEvent (h : I.holds s) : I.holds s.hourEvent := by
  unfold State.hourEvent
  exact Kept.ite (V.reachHour h) (Kept.hourlyUpdate (V.reachHour h))

include V in
theorem Serves.dayEvent (h : I.holds s) : I.holds s.dayEvent := by
  unfold State.dayEvent
  exact Kept.ite (V.reachDay h) (V.recomputePeriod _ (V.reachDay h))

/-! ## Every command -/

/-- The clock does not become valid by a reset (R118, R185). -/
theorem Clock.afterPower_valid (b : Bool) (c : Clock) (h : (Clock.afterPower b c).valid = true) : c.valid = true := by
  unfold Clock.afterPower at h
  split at h
  · cases h
  · exact h

/-- A command that the property admits keeps it. -/
theorem Serves.exec {i : Instr} {t : State} (ha : V.admits i) (h : I.holds s) (hx : exec i s = .next t) : I.holds t := by
  have off {k : RequestKind} {p : Port} (hk : ∀ q, k.permitted q = (q == .office)) {g : Taken → State → State}
      (hg : V.keeps .office g) : k.permitted p = true → V.keeps p g := by
    intro hp
    rw [hk p] at hp
    rw [eq_of_beq hp]
    exact hg
  cases i <;> simp only [Machine.exec] at hx
  case stationStatus => cases hx; exact V.takeKind (fun _ => V.stationStatus) h
  case slotQuery => cases hx; exact V.takeKind (fun _ => V.slotQuery) h
  case stationConfig => cases hx; exact V.takeKind (off (fun _ => rfl) (V.stationConfig ha)) h
  case slotConfig => cases hx; exact V.takeKind (off (fun _ => rfl) (V.slotConfig ha)) h
  case slotRemove => cases hx; exact V.takeKind (off (fun _ => rfl) (V.slotRemove ha)) h
  case profileWrite => cases hx; exact V.takeKind (off (fun _ => rfl) (V.profileWrite ha)) h
  case hoursWrite => cases hx; exact V.takeKind (off (fun _ => rfl) (V.hoursWrite ha)) h
  case toneWrite => cases hx; exact V.takeKind (off (fun _ => rfl) (V.toneWrite ha)) h
  case timeSet => cases hx; exact V.takeKind (off (fun _ => rfl) (V.timeSet ha)) h
  case timeQuery => cases hx; exact V.takeKind (fun _ => V.timeQuery) h
  case fillSet => cases hx; exact V.takeKind (fun _ => V.fillSetRequest) h
  case rangeNow => cases hx; exact V.takeKind (fun _ => V.rangeNow) h
  case demandAdd => cases hx; exact V.takeKind (fun _ => V.demandAdd) h
  case demandCancel => cases hx; exact V.takeKind (fun _ => V.demandCancel) h
  case demandList => cases hx; exact V.takeKind (fun _ => V.demandList) h
  case logFetch => cases hx; exact V.takeKind (fun _ => V.logFetch) h
  case logRelease => cases hx; exact V.takeKind (off (fun _ => rfl) (V.logRelease ha)) h
  case batchBegin => cases hx; exact V.takeKind (fun _ => V.batchBegin) h
  case batchData => cases hx; exact V.takeKind (fun _ => V.batchData) h
  case batchEnd => cases hx; exact V.takeKind (fun _ => V.batchEnd) h
  case batchAbort => cases hx; exact V.takeKind (fun _ => V.batchAbort) h
  case cardQuery => cases hx; exact V.takeKind (fun _ => V.cardQuery) h
  case cacheNormal => cases hx; exact V.takeRow (V.checkKind (off (fun _ => rfl) (V.cacheNormal ha))) h
  case cacheFrozen => cases hx; exact V.takeRow (V.checkKind (off (fun _ => rfl) (V.setMode ha true))) h
  case cacheFlush => cases hx; exact V.takeRow (V.checkKind (fun _ => V.cacheFlush)) h
  case storeAttach => cases hx; exact V.takeKind (off (fun _ => rfl) (V.storeAttach ha)) h
  case storeFormat => cases hx; exact V.takeKind (fun _ => V.storeFormat) h
  case restart => cases hx; exact V.takeKind (fun _ _ _ _ h => ha _ _ (fun _ hv => hv) h.1) h
  case crewOpen => cases hx; exact V.takeKind (fun _ => V.crewOpen) h
  case crewClose => cases hx; exact V.takeKind (fun _ => V.crewClose) h
  case custody => cases hx; exact V.takeKind (fun _ => V.custody) h
  case custodyRelease => cases hx; exact V.takeKind (fun _ => V.custodyRelease) h
  case present => cases hx; exact V.takeKind (fun _ => V.present) h
  case serviceHold => cases hx; exact V.takeKind (fun _ => V.serviceHold) h
  case serviceRelease => cases hx; exact V.takeKind (fun _ => V.serviceRelease) h
  case outputTestDrumRelease => cases hx; exact V.takeRow (V.checkKind (fun _ => V.testDrum)) h
  case outputTestHatchRelease => cases hx; exact V.takeRow (V.checkKind (fun _ => V.testHatch)) h
  case outputTestTone => cases hx; exact V.takeRow (V.checkKind (fun _ => V.testTone)) h
  case unknownRequest => cases hx; exact V.unknown h
  case frameWrite => cases hx; exact V.write _ _ h
  case frameRead => cases hx; exact V.read _ _ h
  case rawLevelChange => cases hx; exact Kept.rawChange _ _ _ (I.elapse _ h)
  case filterTimeElapsed => cases hx; exact Kept.filterElapsed _ _ h
  case drumJam => cases hx; exact Kept.drumJam _ h
  case floodOff => cases hx; exact Kept.floodOff _ h
  case dueTimePassed => cases hx; exact Kept.dueTimePassed _ h
  case postSessionDelayEnd => cases hx; exact Kept.delayEnd _ h
  case pingEmit => cases hx; exact Kept.pingEmit h
  case echoEdge => cases hx; exact Kept.echoEdge _ _ h
  case pingTimeout => cases hx; exact Kept.pingTimeout h
  case readerDue => cases hx; exact Kept.readerDue _ h
  case readerAnswer => cases hx; exact Kept.readerAnswer _ h
  case pollTimeout => cases hx; exact Kept.pollTimeout h
  case signalSent => cases hx; exact Kept.signalSent h
  case idleTimeout => cases hx; exact Kept.idleTimeout _ h
  case custodyWaitExpiry => cases hx; exact Kept.custodyWaitExpiry h
  case raiseTimeout => cases hx; exact Kept.raiseTimeout h
  case liftOvertime => cases hx; exact Kept.liftOvertime h
  case linkLoss => cases hx; exact Kept.linkLoss h
  case outputTestEnd => cases hx; exact Kept.outputTestEnd _ h
  case transactionComplete => cases hx; exact Kept.transactionComplete ha _ h
  case transactionTimeout => cases hx; exact V.transactionTimeout ha _ h
  case headerReadComplete => cases hx; exact V.headerReadComplete ha _ h
  case hourEvent => cases hx; exact V.hourEvent h
  case dayEvent => cases hx; exact V.dayEvent h
  case clockWrap => cases hx; exact I.elapse _ h
  case powerOn b => cases hx; exact ha _ _ (Clock.afterPower_valid b) h
  case resetLine => cases hx; exact Kept.ite h (ha _ _ (fun _ hv => hv) h)
  case mainSupplyLoss => cases hx; exact Kept.ite h (ha h)

/-- An idle step keeps every such property that does not look at the waiting commands. -/
theorem Kept.tick (hq : ∀ {s : State} (q : List Instr), I.P s → I.P { s with pending := q }) (h : I.holds s) :
    I.holds s.tick := by
  unfold State.tick
  split
  · exact hq _ h
  · exact Kept.sampleProbe (I.elapse _ h)

/-- A property that every command admits, and that does not look at the waiting commands, is kept by every step. -/
theorem Serves.step (ha : ∀ i, V.admits i) (hq : ∀ {s : State} (q : List Instr), I.P s → I.P { s with pending := q })
    {t : State} (h : I.holds s) (hx : step s = .next t) : I.holds t := by
  unfold Machine.step at hx
  split at hx
  · cases hx
    exact Kept.tick hq h
  · exact V.exec (ha _) (hq _ h) hx

end Sys2Proof.Machine
end

