-- ==== Sys2Proof/Tests/Slice0.lean ====
section
/-! SUPPORT. Our own tests: ill-formed commands that WellFormed refuses, the worked examples of the manual, and for each
obligation with hypotheses states and operands that meet them. Each is one operation or one step on a small state. -/

namespace Sys2Proof.Machine.Tests

/-! ## Well-formedness and the table -/

theorem test_refuses_late_edge : (Instr.echoEdge 0 25001).wellFormed = false := by decide
theorem test_takes_last_edge : (Instr.echoEdge 7 25000).wellFormed = true := by decide
theorem test_refuses_empty_answer : (Instr.readerAnswer []).wellFormed = false := by decide
theorem test_refuses_long_item :
    (Instr.transactionComplete (.bytes (List.replicate 17 0))).wellFormed = false
      ∧ (Instr.headerReadComplete (.bytes (List.replicate 17 0))).wellFormed = false := by decide
/-- No row of the table has bits, so no word spells a command. -/
theorem test_no_word_spells_a_command : decodeTableWord 8 0 = none ∧ decodeTableWord 16 0x1234 = none := by decide

/-! ## Worked examples of the manual -/

/-- Chapter 1, "a clamped slot record". -/
theorem test_clamped_slot_record :
    ({ vNom := 6000, hS := 2000, hU := 1900, drumVolume := 60, packing := 475, weight := 8, tFull := 995, tReopen := 960
       tDem := 800, platformFilter := .ofMs 30 } : SlotRecord).clamped
      = { vNom := 5000, hS := 2000, hU := 1850, drumVolume := 60, packing := 475, weight := 8, tFull := 990, tReopen := 940
          tDem := 800, platformFilter := .ms40 } := by decide

/-- The slot 4 of the worked cases of chapter 3. -/
def caseRecord : SlotRecord := { vNom := 3000, hS := 2400, hU := 2000, drumVolume := 60, packing := 475, charged := true }

/-- Chapter 3, case 1: three pings at 25 °C, their blend, and the deposit after it. -/
theorem test_case_1_blend :
    (speedOfSound 25 = 346 ∧ readingOf ([6000, 6010, 5990].map (echoDistance 346)) = some ⟨1038, false⟩)
      ∧ caseRecord.measuredVolume 1038 = 20430 ∧ blendEstimate 30000 19000 20430 8 = 19715
      ∧ caseRecord.fillOf 19715 = 657 ∧ caseRecord.headroom 19715 = 7285 := by decide
theorem test_case_1_deposit :
    caseRecord.increment = 285 ∧ ceilDiv 7285 285 = 26 ∧ caseRecord.fillOf 20000 = 666 ∧ caseRecord.headroom 20000 = 7000 := by
  decide

/-- Chapter 3, case 2. -/
theorem test_case_2_rate : nextRate 400 1000 = 550 ∧ nextRate 550 0 = 413 ∧ hoursToFull 7000 413 = 16 := by decide

/-- Chapter 3, case 3: a SPREAD reading, and truncation from above. -/
theorem test_case_3_spread :
    readingOf ([6000, 6200, 5900].map (echoDistance 346)) = some ⟨1038, true⟩ ∧ blendEstimate 30000 20000 20430 4 = 20107
      ∧ blendEstimate 30000 20435 20430 8 = 20433 ∧ blendEstimate 30000 20433 20430 8 = 20432
      ∧ blendEstimate 30000 20431 20430 8 = 20431 := by decide

/-- Chapter 4, "bucket indices". -/
theorem test_buckets :
    bucketOf 1000 = 1000 ∧ setOf 1000 = 8 ∧ bucketOf 0x800 = 1 ∧ bucketOf 0x400000 = 1 ∧ bucketOf 0x12345678 = 186
      ∧ setOf 0x12345678 = 26 := by decide

/-- The fill of the chosen way of a set with one card. -/
def fillWay (n : CardNo) (x : CacheSet) : CacheSet :=
  { x with ways := x.ways.set x.victim (some ⟨⟨n, .active, 0, 0, 0, none, none⟩, 6, 0⟩) }.touch x.victim

/-- Chapter 5, "one cache set": P, Q, R, S, a hit of P, T, U. -/
theorem test_cache_set_ages :
    let x := fillWay 21 (fillWay 20 ((fillWay 4 (fillWay 3 (fillWay 2 (fillWay 1 {})))).touch 0))
    (x.ways.toList.map fun w => w.map fun e => e.record.card) = [some 1, some 21, some 20, some 4]
      ∧ x.pairHigh = false ∧ x.lowOne = true ∧ x.highThree = false := by decide

/-- Chapter 7, "calendar of one moment". -/
theorem test_calendar :
    calendarOf 757431920 = ⟨2024, 1, 1, 13, 45, 20⟩ ∧ (⟨2024, 1, 1, 13, 45, 20⟩ : Calendar).time = 757431920
      ∧ dayNumber 757431920 = 8766 ∧ weekday 757431920 = 0 ∧ minuteOfDay 757431920 = 825 := by decide
/-- Chapter 7: 2024-01-13 is day 8778, which begins period 627 of DAYS(14). -/
theorem test_period :
    periodOf (.days 14) (8778 * 86400) = 627 ∧ periodOf (.days 14) (8778 * 86400 - 1) = 626
      ∧ calendarOf (8778 * 86400) = ⟨2024, 1, 13, 0, 0, 0⟩ := by decide

/-- Chapter 7, "a night window across a rest day": rest day Sunday, code 6. -/
theorem test_night_window :
    let h : FractionHours := { openMinute := 1320, closeMinute := 360, restDays := 0x40 }
    h.within 1390 5 = true ∧ h.within 90 6 = false ∧ h.within 1350 6 = false ∧ h.within 359 0 = true
      ∧ h.within 360 0 = false := by decide

/-! ## States for the steps and the witnesses -/

/-- The part after START, with a valid clock (2024-01-01 13:45:20) and no store. -/
def live : State :=
  { State.reset with run := .running, store := {}, clock := { time := 757431920, valid := true, period := 288 } }

/-- A port holds one request frame. -/
def offering (p : Port) (kind : Nat) (tag : Byte) (payload : List Byte) (s : State) : State :=
  s.setPort p { s.port p with requests := [frameOf kind tag payload] }

/-- A slot in service with the record of the worked cases, its lines at rest. -/
def serving : SlotUnit := { configured := true, record := caseRecord, lines := restLines }

/-- The state after a command. -/
def after (i : Instr) (s : State) : State :=
  match exec i s with
  | .next t => t
  | .fault _ | .refused _ => s

/-- An open session of card 5 with no deposit yet. -/
def session : Session := { card := 5, admission := .normal, charged := true, limit := 2 }

/-- A crew session of truck 9 for RESIDUAL, with its visit. -/
def crewed : Lift :=
  { session := some { truck := 9, card := 6, fraction := .residual, openTime := none }
    visit := some { truck := 9, card := 6, openTime := none }, linkDeadline := some 120000 }

/-- A line whose pending change holds since the moment 100. -/
def pends (accepted : Bool) (ms : Nat) : Filter := { raw := !accepted, accepted := accepted, pending := some ⟨100, ms⟩ }

/-- A store that is ONLINE over a memory that nothing has written but its header. -/
def online : Store := { state := .online, header := some (headerAt (encHeader true)), mem := Memory.writeBytes 0 (encHeader true) [] }

/-- A log without a free place. -/
def fullLog : StationLog := { records := List.replicate 256 ⟨0, .alert none (.seated 0)⟩ }

/-! ## One step each -/

/-- R68, R185: over a blank memory start-up ends UNFORMATTED, and START reaches all three ports. -/
theorem test_start_up :
    let t := after (.headerReadComplete .held) State.reset
    t.run = .running ∧ t.store.state = .unformatted ∧ (t.port .office).outbox = [.notice 0xC0 false [0, 0, 1]]
      ∧ (t.port .crew).outbox = (t.port .office).outbox ∧ (t.port .service).outbox = (t.port .office).outbox := by decide

/-- Chapter 12, "one request, one notice and a lost frame": the CUSTODY. -/
theorem test_custody_example :
    let s := (offering .crew 0x22 0x11 [5] { live with lift := crewed }).setSlot 5 serving
    let t := after (.custody .crew) s
    ((t.port .crew).outbox.map fun f => f.bytes.getD 1 0) = [0x22, 0xC1, 0xC9]
      ∧ (t.port .crew).outbox.head? = some (.response 0x22 0x11 1 false [])
      ∧ (t.slot 5).locks.hatchReleased = true := by decide

/-- Chapter 12, the same example: the fifth PRESENT finds four queued. -/
theorem test_overrun_example :
    let f := frameOf 0x24 0 []
    let s := live.setPort .crew { requests := [f, f, f, f] }
    (after (.frameWrite .crew f) s).port .crew = { requests := [f, f, f, f], overrun := true }
      ∧ ((after (.present .crew) (after (.frameWrite .crew f) s)).port .crew).outbox = [.response 0x24 0 8 true []] := by
  decide

/-- The card of the session example, as its cache entry. -/
def cachedCard : CacheEntry := ⟨⟨77, .active, 4, 38, 288, none, none⟩, bucketOf 77, 0⟩

/-- The record of card 77, and one of another card in the same bucket. -/
def record77 : CardRecord := cachedCard.record
def neighbour : CardRecord := { record77 with card := 2124 }

/-- The slot 4 of the chapter 6 example: E 19715, the reader in the rotation; card 77 cached with usage 38 of 40. -/
def sessionExample : State :=
  let e : CacheEntry := ⟨⟨77, .active, 4, 38, 288, none, none⟩, bucketOf 77, 0⟩
  let s := { live with
    store := online, profiles := live.profiles.set 4 { marks := [true], sessionLimit := 3, quota := 40 }
    resolver := { sets := Vector.set (Vector.replicate 32 ({ } : CacheSet)) (setOf 77) { ways := #v[some e, none, none, none] } }
    readerBus := { bus := .polling 4 0 } }
  s.setSlot 4 { serving with
    record := { caseRecord with readerEnable := true }, fill := { e := 19715, f := 657, h := 7285, measured := true } }

/-- Chapter 6, "one charged session": the grant has the limit min(3, 2, 26) = 2 and sends GRANT. -/
theorem test_grant_example :
    let t := after (.readerAnswer (withCheck [4, 0x43, 0, 0, 0, 77])) sessionExample
    (t.slot 4).intake.state
        = .opened { card := 77, admission := .normal, charged := true, limit := 2, startTime := some 757431920 }
      ∧ (t.slot 4).locks.drumReleased = true ∧ (t.slot 4).intake.idleDeadline = some 15000
      ∧ t.readerBus.lastFrame = [4, 0x53, 40, 20, 1, 0x6B] := by decide

/-- The same session in its third turn, the drum coming home. -/
def thirdTurn : State :=
  sessionExample.modSlot 4 fun u => { u with
    lines := { u.lines with drumHome := pends false 20 }, track := { drum := .reachedOpen }
    fill := { u.fill with e := 20000 }
    intake := { state := .opened { card := 77, admission := .normal, charged := true, limit := 2, deposits := 1
                                   chargedCount := 1, aborted := 1, turnBelongs := true } } }

/-- Chapter 6, the same example: the second deposit reaches the limit; E is 20285, F 676, and the record is appended. -/
theorem test_limit_example :
    let t := after (.filterTimeElapsed 4 .drumHome) thirdTurn
    (t.slot 4).intake.state = .idle ∧ (t.slot 4).fill.e = 20285 ∧ (t.slot 4).fill.f = 676
      ∧ (t.slot 4).locks.drumReleased = false ∧ (t.slot 4).range.delay = some 10120 ∧ t.demand = []
      ∧ t.resolver.job.map ChargeJob.charge = some ⟨77, 1⟩ ∧ t.log.records.length = 1 := by decide

/-- Chapter 6, "custody arriving at a busy intake": the resident stands idle with the drum home. -/
theorem test_preempt_example :
    let s := { live with lift := { crewed with custody := { state := .waiting, slot := 6, deadline := some 30000 } } }
    let t := after .custodyWaitExpiry (s.setSlot 6 { serving with
      bars := { lift := true }, intake := { state := .opened { session with limit := 3 } }, locks := { drumReleased := true } })
    (t.slot 6).intake.state = .barred ∧ t.lift.custody.state = .granted
      ∧ (t.slot 6).locks = { drumReleased := false, hatchReleased := true } ∧ t.now = 30000 := by decide

/-- Chapter 8, "one morning of the queue", 10:30: the ORDER of slot 0 stands second, behind the full slot 5. -/
theorem test_demand_example :
    let s := offering .office 0x0D 3 [0] { live with demand :=
      [⟨5, .full, some 1, 0, true⟩, ⟨0, .threshold, some 2, 6, true⟩, ⟨7, .order, some 3, 255, true⟩] }
    let t := after (.demandAdd .office) (s.setSlot 0 serving)
    (t.demand.map fun e => (e.slot, e.cause)) = [(5, .full), (0, .order), (7, .order)]
      ∧ (t.port .office).outbox.getLast? = some (.response 0x0D 3 0 false [0, 2, 1, 0, 0, 0, 2, 6, 2]) := by decide

/-- R171, R191: 16 dropped pairs take 3 parts. -/
theorem test_oversize_parts :
    let r : LogRecord := ⟨0, .alert (some 1) (.chargesDropped true (List.replicate 16 ⟨7, 1⟩))⟩
    r.bytes.length = 108 ∧ r.parts = 3 := by decide

/-- R120: 2135 is the last year, 2024 has a 29 February. -/
theorem test_time_set_checks :
    let c : Calendar := ⟨2024, 2, 29, 0, 0, 0⟩
    c.wellFormed = true ∧ { c with year := 2023 }.wellFormed = false ∧ { c with year := 2136 }.wellFormed = false := by decide

/-! ## Witnesses: what meets the hypotheses of each obligation

One theorem for each, named after it, with one part for each of its clauses. -/

theorem witness_StepRunsTheFrontCommand : ({ live with pending := [.hourEvent, .resetLine] } : State).pending = .hourEvent :: [.resetLine] := rfl

theorem witness_IdleStepTakesTheDueEventOrOneMillisecond :
    let s := { State.reset with now := 5 }
    (s.pending = [] ∧ s.nextEvent = some (.transactionTimeout .unwritten))
      ∧ State.reset.pending = [] ∧ State.reset.nextEvent = none := by decide

theorem witness_OnlyTheirRequestsChangeTheTables : (∃ t, exec .hourEvent live = .next t) ∧ ¬ resets .hourEvent :=
  ⟨⟨_, rfl⟩, by simp [resets]⟩

theorem witness_OnlyTheirCommandsChangeMemoryValidityAndRecords :
    let s := live
    (∃ t, exec .hourEvent s = .next t ∧ t.clock.valid = true) ∧ ¬ resets .hourEvent :=
  ⟨⟨_, rfl, by decide⟩, by simp [resets]⟩

/-- States of the invariants at the ends of their ranges, each with a command in front. -/
theorem witness_StepsKeepTheMemoryCanonical :
    let s := { live with store := online, pending := [.pingEmit] }
    s.memCanonical ∧ ∃ t, step s = .next t := ⟨by decide, _, rfl⟩

/-- A port with all of its queues full. -/
def fullPort : PortState :=
  { requests := List.replicate 4 (frameOf 1 0 [])
    outbox := List.replicate 16 (.notice 0xC1 false []) ++ List.replicate 8 (.response 1 0 0 false []) }

theorem witness_StepsKeepThePortsWithinCapacity :
    let s := { live with ports := ⟨fullPort, fullPort, fullPort⟩, pending := [.frameWrite .crew [3, 1, 0]] }
    s.portsWithinCapacity ∧ ∃ t, step s = .next t :=
  ⟨⟨fun p => by cases p <;> decide, by decide⟩, _, rfl⟩

/-- A slot at the upper ends of its ranges. -/
def brimful : SlotUnit :=
  { serving with
    record := { caseRecord with cls := 63, vNom := 5000, hS := 3500, hU := 3350, drumVolume := 120, packing := 1000, weight := 16
                                tFull := 990, tReopen := 940, tDem := 990 }
    fill := { e := 50000, f := 1000, h := 49500, fr := 65535, a := 65535, hf := 255, silent := 3 } }

theorem witness_StepsKeepTheSlotsInRange :
    let s := { live.setSlot 7 brimful with pending := [.hourEvent] }
    s.slotsInRange ∧ ∃ t, step s = .next t := ⟨by decide, _, rfl⟩

/-- Demand, ranging queue, log, charges and starvation count that are in order, none of them empty. -/
def ordered : State :=
  { live with
    demand := [⟨5, .full, some 1, 0, true⟩, ⟨0, .order, some 2, 6, true⟩], ranging := { queue := [⟨3, .lift⟩, ⟨1, .periodic⟩] }
    log := { records := [⟨65535, .alert none (.seated 0)⟩, ⟨0, .alert none (.seated 1)⟩], seq := 1 }
    resolver := { charges := [⟨5, 1⟩, ⟨6, 65535⟩] }, arbiter := { starvation := 4 }, pending := [.pingEmit] }

theorem witness_StepsKeepTheQueuesInOrder :
    (∃ t, step ordered = .next t) ∧ ordered.demandOrdered ∧ ordered.rangingOrdered ∧ ordered.logNumbered
      ∧ ordered.chargesDistinct ∧ ordered.starvationInRange :=
  ⟨⟨_, rfl⟩, by decide, by decide, ⟨65535, by decide⟩, by decide, by decide⟩

/-- 254 records, a session in preparation and an opening in progress: no place is left over. -/
def packedLog : State :=
  { live.setSlot 2 { serving with intake := { state := .opened session } } with
    log := { records := (List.range 254).map fun i => ⟨i, .alert none (.seated 0)⟩, seq := 254 }
    lift := { opening := some ⟨9, 6, .residual⟩ }, pending := [.pingEmit] }

theorem witness_StepsKeepRoomInTheLog : packedLog.logHasRoom ∧ ∃ t, step packedLog = .next t :=
  ⟨⟨by decide +kernel, by decide, by decide⟩, _, rfl⟩

/-- One slot with its drum free in a session, one with its hatch free in custody. -/
def locksInUse : State :=
  { (live.setSlot 2 { serving with intake := { state := .opened session }, locks := { drumReleased := true } }).setSlot 6
      { serving with bars := { lift := true }, intake := { state := .barred }, locks := { hatchReleased := true } } with
    lift := { crewed with custody := { state := .raised, slot := 6 } } }

theorem locksInUse_apart : ∀ k, locksInUse.releasesApart k := by decide
theorem locksInUse_commanded : ∀ k, locksInUse.locksCommanded k := by decide
theorem witness_NoSlotEverHasBothLocksReleased :
    ({ locksInUse with pending := [.pingEmit] } : State).locksSafe
      ∧ ∃ t, step { locksInUse with pending := [.pingEmit] } = .next t :=
  ⟨fun k => ⟨locksInUse_commanded k, locksInUse_apart k⟩, _, rfl⟩

/-! ### Supply and reset -/

/-- A directory read in flight. -/
def reading : State := { live with store := online, arbiter := { inFlight := some ⟨.charge, .dirRead 2047, none, 0⟩ } }

theorem witness_ResetsReturnEveryRegister :
    live.arbiter.inFlight = none ∧ live.run ≠ .off ∧ (offering .office 0x1A 9 [] live).offers .office (frameOf 0x1A 9 [])
      ∧ (offering .office 0x1A 9 [] live).arbiter.inFlight = none
      ∧ ({ live with run := .off } : State).run = .off
      ∧ (let s := offering .office 0x1A 9 [] reading;
        s.arbiter.inFlight ≠ none ∧ (∀ x ∈ s.arbiter.inFlight, x.op.isWrite = false) ∧ s.run ≠ .off
          ∧ s.offers .office (frameOf 0x1A 9 [])) := by decide

/-- A header write in flight. -/
def writing : State :=
  { live with store := online, arbiter := { inFlight := some ⟨.batch, .headerWrite false, none, 0⟩ } }

theorem witness_ResetsCutOffTheWriteInFlight :
    (∃ x, (offering .office 0x1A 9 [] writing).arbiter.inFlight = some x ∧ x.op.isWrite = true) ∧ writing.memCanonical
      ∧ writing.run ≠ .off ∧ (offering .office 0x1A 9 [] writing).offers .office (frameOf 0x1A 9 []) :=
  ⟨⟨_, rfl, rfl⟩, by decide, by decide, by decide⟩

/-! ### Message ports -/

/-- A port holds these bytes as its one request frame. -/
def holding (p : Port) (f : List Byte) (s : State) : State := s.setPort p { s.port p with requests := [f] }

/-- Length bytes of 2, of 65 and of one too few; the kinds 0x00 and 0xC0; PRESENT at OFFICE; STATION_CONFIG with 11 bytes. -/
theorem witness_PortsRefuseWhatFailsTheChecks :
    ((holding .crew [2, 1, 9] live).offers .crew [2, 1, 9] ∧ byteAt [2, 1, 9] 0 < 3)
      ∧ (let f := (65 : Byte) :: 1 :: List.replicate 63 0;
        (holding .crew f live).offers .crew f ∧ 64 < byteAt f 0 ∧ byteAt f 0 = f.length)
      ∧ ((holding .service [3, 1, 9, 0] live).offers .service [3, 1, 9, 0] ∧ byteAt [3, 1, 9, 0] 0 ≠ [3, 1, 9, 0].length)
      ∧ (let f := (64 : Byte) :: 0xC0 :: List.replicate 62 0;
        (holding .office f live).offers .office f ∧ byteAt f 0 = 64 ∧ f.length = 64 ∧ RequestKind.ofCode (byteAt f 1) = none)
      ∧ ((holding .office [3, 0x24, 0] live).offers .office [3, 0x24, 0] ∧ RequestKind.ofCode (byteAt [3, 0x24, 0] 1) = some .present
        ∧ RequestKind.present.permitted .office = false)
      ∧ (let f := frameOf 3 0 (List.replicate 11 0);
        (holding .office f live).offers .office f ∧ RequestKind.ofCode (byteAt f 1) = some .stationConfig
          ∧ RequestKind.stationConfig.permitted .office = true ∧ RequestKind.stationConfig.admits (f.length - 3) = false) := by
  decide

theorem witness_FramesAreWrittenAndRead :
    (live.run = .running ∧ ([3, 1] : List Byte).length < 3 ∧ 4 ≤ (live.setPort .crew fullPort |>.port .crew).requests.length)
      ∧ (3 ≤ ([3, 1, 0] : List Byte).length ∧ (live.port .office).requests.length < 4)
      ∧ (live.port .office).outbox = [] ∧ (live.setPort .crew fullPort |>.port .crew).outbox ≠ [] := by decide

theorem witness_NoticesArePlacedOrCounted :
    let s := live.setPort .office { outbox := List.replicate 15 (.notice 0xC1 false []) }
    (s.run = .running ∧ (s.port .office).notices.length < 16)
      ∧ 16 ≤ ((live.setPort .office fullPort).port .office).notices.length ∧ Port.crew ≠ .office := by decide

/-! ### Queries and tables -/

theorem witness_QueriesReportTheState :
    (∀ p ∈ [Port.office, .crew, .service], (offering p 1 9 [] live).offers p (frameOf 1 9 []))
      ∧ (∀ k ∈ [(0 : Slot), 7], (offering .crew 2 9 (encSlot k) live).offers .crew (frameOf 2 9 (encSlot k)))
      ∧ (∀ n ∈ [8, 255], (offering .service 2 9 (u8 n) live).offers .service (frameOf 2 9 (u8 n)))
      ∧ ∀ p ∈ [Port.office, .service], p ≠ .crew ∧ (offering p 0x0A 9 [] live).offers p (frameOf 0x0A 9 []) := by decide

theorem witness_StationConfigTakesEffect :
    (∀ pl ∈ ([[0, 0, 0, 0, 0, 0, 0, 0, 2, 0, 6, 0], List.replicate 61 0, [0, 0, 0, 0, 0, 0, 0, 0, 1, 0, 6, 0, 0, 0, 0, 0, 0],
          [0, 0, 0, 0, 0, 0, 0, 0, 1, 0, 6, 0, 0, 0, 0, 0, 0, 0, 0], [0, 0, 0, 0, 0, 0, 0, 0, 1, 0, 6, 3, 0, 0, 0, 0, 0, 0],
          [0, 0, 0, 0, 0, 0, 0, 0, 1, 0, 6, 0, 0, 0, 0, 0, 255, 0]] : List (List Byte)),
        12 ≤ pl.length ∧ pl.length ≤ 61
          ∧ (2 ≤ byteAt pl 8 ∨ byteAt pl 10 ≠ 6 ∨ pl.length ≠ 18 ∨ ∃ i < 6, 3 ≤ byteAt pl (11 + i))
          ∧ (offering .office 3 9 pl live).offers .office (frameOf 3 9 pl))
      ∧ (let c : StationConfig := { periodKind := .days 255, rangingInterval := 255 };
        c.fits ∧ (offering .office 3 9 (encConfig c) live).offers .office (frameOf 3 9 (encConfig c))
          ∧ c.clamped.rangingInterval ≠ live.config.rangingInterval) := by
  refine ⟨by decide, ?_⟩
  simp only [StationConfig.fits]
  refine ⟨⟨by decide, by decide, by decide, by decide, by decide, by decide, by decide, ?_⟩, by decide, by decide⟩
  intro n h
  cases h
  decide

/-- The interval and the period stay; the moments just before and at the new due time. -/
theorem witness_StationConfigTakesEffect_clauses :
    (({} : StationConfig).clamped.rangingInterval = live.config.rangingInterval ∧ live.clock.valid = true
      ∧ periodOf ({} : StationConfig).clamped.periodKind live.clock.time.toNat = live.clock.period)
      ∧ (let s := { live.setSlot 3 serving with now := 299999 };
        (s.slot 3).configured = true ∧ s.now < (s.slot 3).range.lastBurst + 60000 * 5)
      ∧ (let s := { live.setSlot 3 serving with now := 300000 };
        (s.slot 3).range.lastBurst + 60000 * 5 ≤ s.now ∧ (s.slot 3).bars.flood = false)
      ∧ (let c : StationConfig := { periodKind := .days 7 };
        c.clamped.rangingInterval = live.config.rangingInterval
          ∧ periodOf c.clamped.periodKind live.clock.time.toNat ≠ live.clock.period) := by decide

theorem witness_TableWritesStoreTheirEntries :
    (let x : Profile := { marks := List.replicate 64 true, sessionLimit := 255, quota := 65535 };
      let pl := u8 15 ++ encProfile x;
      x.marks.length ≤ 64 ∧ (offering .office 6 9 pl live).offers .office (frameOf 6 9 pl))
      ∧ (let pl := u8 Fraction.textile.code ++ u16 65535 ++ u16 0 ++ [(0xFF : Byte)];
        (offering .office 7 9 pl live).offers .office (frameOf 7 9 pl))
      ∧ (TonePattern.ofCode 3 = some .fault
        ∧ (offering .office 8 9 [3, 255, 0, 255] live).offers .office (frameOf 8 9 [3, 255, 0, 255]))
      ∧ (∀ pl ∈ ([[16, 0, 0, 0, 0, 0], 0 :: 2 :: List.replicate 59 0] : List (List Byte)),
        6 ≤ pl.length ∧ pl.length ≤ 61 ∧ (16 ≤ byteAt pl 0 ∨ 2 ≤ byteAt pl 1)
          ∧ (offering .office 6 9 pl live).offers .office (frameOf 6 9 pl))
      ∧ (let pl : List Byte := [15, 1, 255, 9, 0xFF, 0xFF] ++ List.replicate 32 0xFF;
        byteAt pl 0 = 15 ∧ byteAt pl 1 = ProfileKind.crew.code ∧ 6 + (byteAt pl 2 + 7) / 8 ≤ pl.length ∧ pl.length ≤ 61
          ∧ (offering .office 6 9 pl live).offers .office (frameOf 6 9 pl))
      ∧ (∀ pl ∈ ([[15, 1, 1, 0, 0, 0], [0, 0, 255, 0, 0, 0] ++ List.replicate 31 0] : List (List Byte)),
        6 ≤ pl.length ∧ pl.length < 6 + (byteAt pl 2 + 7) / 8 ∧ byteAt pl 0 < 16 ∧ byteAt pl 1 < 2
          ∧ (offering .office 6 9 pl live).offers .office (frameOf 6 9 pl))
      ∧ (offering .office 7 9 [6, 0, 0, 0, 0, 0] live).offers .office (frameOf 7 9 [6, 0, 0, 0, 0, 0])
      ∧ (offering .office 8 9 [4, 0, 0, 0] live).offers .office (frameOf 8 9 [4, 0, 0, 0]) := by decide

/-- A record with a field at the upper end of what its bytes hold. -/
def wideRecord : SlotRecord := { caseRecord with cls := 255, vNom := 65535, tDem := 0 }

theorem witness_SlotConfigTakesASlotIntoService :
    let s := offering .office 4 9 (encSlot 7 ++ encSlotRecord wideRecord) live
    wideRecord.fits ∧ caseRecord.inRange ∧ s.offers .office (frameOf 4 9 (encSlot 7 ++ encSlotRecord wideRecord))
      ∧ (s.slot 7).configured = false
      ∧ (s.slot 7).intake.state.busy = false ∧ s.custodyOn 7 = .none ∧ (s.slot 7).bars.flood = false
      ∧ (s.slot 7).accepted .water = false
      ∧ ((s.setSlot 7 {}).slot 7).accepted .platform = false := by decide

/-- An event that changes the fill or the thresholds of slot 7: what of demand follows it in each case. -/
def demandCase (s : State) (i : Instr) : Option DemandEntry × Bool × Bool × Bool :=
  let t := after i s
  (s.demandOf 7, decide ((t.slot 7).record.tDem ≤ (t.slot 7).fill.f), (s.slot 7).bars.full, (t.slot 7).bars.full)

/-- SLOT_CONFIG of a slot whose F is 600, with thresholds that then lie below it. -/
def retuning (d : List DemandEntry) : State :=
  let r := { caseRecord with tFull := 550, tReopen := 400, tDem := 400 }
  offering .office 4 9 (encSlot 7 ++ encSlotRecord r)
    { live.setSlot 7 { serving with fill := { e := 18000, f := 600, h := 9000, measured := true } } with demand := d }

theorem witness_SlotConfigOf_demand :
    (let r := { caseRecord with tFull := 550, tReopen := 400, tDem := 400 };
      r.fits ∧ caseRecord.geometry = r.clamped.geometry ∧ caseRecord.thresholds ≠ r.clamped.thresholds)
      ∧ (retuning []).demandOrdered
      ∧ demandCase (retuning []) (.slotConfig .office) = (none, true, false, true)
      ∧ demandCase (retuning [⟨7, .threshold, none, 255, true⟩]) (.slotConfig .office)
        = (some ⟨7, .threshold, none, 255, true⟩, true, false, true)
      ∧ demandCase (retuning [⟨7, .order, none, 255, true⟩]) (.slotConfig .office)
        = (some ⟨7, .order, none, 255, true⟩, true, false, true) := by decide

theorem witness_SlotConfigOf_waiters :
    let s := (offering .office 4 9 (encSlot 7 ++ encSlotRecord wideRecord) (live.setSlot 7 serving)).modSlot 7 fun u =>
      { u with range := { waitOffice := true } }
    (s.slot 7).range.waitOffice = true ∧ s.offers .office (frameOf 4 9 (encSlot 7 ++ encSlotRecord wideRecord)) := by decide

theorem witness_SlotConfigOfAConfiguredSlot :
    let s (r : SlotRecord) := offering .office 4 9 (encSlot 7 ++ encSlotRecord r) (live.setSlot 7 serving)
    (let x := (s wideRecord).modSlot 7 fun u => { u with intake := { state := .verifying 3 } };
      wideRecord.fits ∧ x.offers .office (frameOf 4 9 (encSlot 7 ++ encSlotRecord wideRecord))
        ∧ (x.slot 7).intake.state.busy = true)
      ∧ ((s wideRecord).slot 7).configured = true ∧ ((s wideRecord).slot 7).intake.state.busy = false
      ∧ (s wideRecord).custodyOn 7 = .none ∧ ((s wideRecord).slot 7).record.geometry ≠ wideRecord.clamped.geometry
      ∧ ((s wideRecord).slot 7).bars.flood = false
      ∧ (let r := { caseRecord with tDem := 500 };
        r.fits ∧ ((s r).slot 7).record.geometry = r.clamped.geometry
          ∧ (s r).offers .office (frameOf 4 9 (encSlot 7 ++ encSlotRecord r)))
      ∧ ∀ pl ∈ ([8 :: List.replicate 28 0, 0 :: 6 :: List.replicate 27 0] : List (List Byte)), pl.length = 29
        ∧ (8 ≤ byteAt pl 0 ∨ 6 ≤ byteAt pl 1) ∧ (offering .office 4 9 pl live).offers .office (frameOf 4 9 pl) := by decide

theorem witness_SlotRemoveTakesASlotOutOfService :
    let s := offering .office 5 9 (encSlot 7) (live.setSlot 7 serving)
    s.offers .office (frameOf 5 9 (encSlot 7)) ∧ (s.slot 7).intake.state.busy = false ∧ s.custodyOn 7 = .none
      ∧ (s.slot 7).configured = true ∧ ((s.setSlot 7 {}).slot 7).configured = false
      ∧ ((s.setSlot 7 { intake := { state := .closing session .idle } }).slot 7).intake.state.busy = true
      ∧ (∀ n ∈ [8, 255], (offering .office 5 9 (u8 n) live).offers .office (frameOf 5 9 (u8 n)))
      ∧ (let u := { s.setSlot 7 { serving with range := { waitOffice := true, waitService := true } } with
          demand := [⟨7, .full, some 1, 0, true⟩, ⟨0, .order, some 2, 6, true⟩] };
        u.offers .office (frameOf 5 9 (encSlot 7)) ∧ u.demandOf 7 = some ⟨7, .full, some 1, 0, true⟩
          ∧ (u.slot 7).range.waitOffice = true ∧ (u.slot 7).range.waitService = true) := by decide

/-! ### Station time -/

theorem witness_TimeSetSetsTheClock :
    (∀ c ∈ ([⟨2000, 1, 1, 0, 0, 0⟩, ⟨2135, 12, 31, 23, 59, 59⟩, ⟨2024, 2, 29, 12, 0, 0⟩] : List Calendar), c.wellFormed = true
        ∧ (offering .office 9 9 (encCalendar c) live).offers .office (frameOf 9 9 (encCalendar c)))
      ∧ (∀ c ∈ ([⟨1999, 12, 31, 0, 0, 0⟩, ⟨2136, 1, 1, 0, 0, 0⟩, ⟨2023, 2, 29, 12, 0, 0⟩, ⟨65535, 255, 255, 255, 255, 255⟩] : List Calendar),
        c.wellFormed = false ∧ (offering .office 9 9 (encCalendar c) live).offers .office (frameOf 9 9 (encCalendar c))) := by
  decide

theorem witness_CalendarAndStationTimeAgree :
    (⟨2135, 12, 31, 23, 59, 59⟩ : Calendar).wellFormed = true ∧ (⟨2135, 12, 31, 23, 59, 59⟩ : Calendar).time = 4291747199 := by
  decide +kernel

theorem witness_EventsOfTheRunningTime :
    (let s := { live.setSlot 3 serving with clock := { live.clock with hoursOwed := 1, daysOwed := 1 } };
      s.run ≠ .off ∧ s.clock.hoursOwed ≠ 0 ∧ s.clock.daysOwed ≠ 0 ∧ s.clock.valid = true
        ∧ periodOf s.config.periodKind s.clock.time.toNat = s.clock.period
        ∧ periodOf (.days 7) s.clock.time.toNat ≠ s.clock.period)
      ∧ (let s := { live.setSlot 3 serving with
          clock := { live.clock with hoursOwed := 1 }
          demand := [⟨3, .full, some 1, 0, false⟩, ⟨0, .order, some 2, 6, true⟩] };
        s.run = .running ∧ s.clock.hoursOwed ≠ 0 ∧ s.demandOrdered ∧ s.demandOf 3 = some ⟨3, .full, some 1, 0, false⟩
          ∧ s.demandOf 0 = some ⟨0, .order, some 2, 6, true⟩ ∧ (s.port .office).notices.length < Config.noticeRoom)
      ∧ (live.clock.hoursOwed = 0 ∧ live.clock.daysOwed = 0 ∧ live.clock.phaseMs < 1000)
      ∧ (let s := { live with run := .off, clock := { hoursOwed := 1, phaseMs := 999 } };
        s.run = .off ∧ s.clock.hoursOwed ≠ 0 ∧ s.clock.valid = false ∧ s.clock.phaseMs < 1000) := by decide

/-! ### Fill and ranging -/

theorem witness_FillSetSetsTheEstimate :
    (let pl := encSlot 7 ++ u32 4294967295;
      let s := offering .office 0x0B 9 pl (live.setSlot 7 serving);
      s.offers .office (frameOf 0x0B 9 pl) ∧ (s.slot 7).configured = true)
      ∧ ∀ pl ∈ ([[7, 0, 0, 0, 0], [8, 0, 0, 0, 0]] : List (List Byte)), pl.length = 5
        ∧ (∀ k, slotAt pl 0 = some k → (live.slot k).configured = false)
        ∧ (offering .office 0x0B 9 pl live).offers .office (frameOf 0x0B 9 pl) := by decide

/-- FILL_SET of slot 7 to a value. -/
def filling (v : Nat) (d : List DemandEntry) : State :=
  offering .office 0x0B 9 (encSlot 7 ++ u32 v) { live.setSlot 7 serving with demand := d }

theorem witness_FillSet_demand :
    (filling 30000 [⟨0, .order, some 2, 6, true⟩]).demandOrdered
      ∧ demandCase (filling 0 []) (.fillSet .office) = (none, false, false, false)
      ∧ demandCase (filling 30000 []) (.fillSet .office) = (none, true, false, true)
      ∧ demandCase (filling 30000 [⟨7, .threshold, none, 9, true⟩]) (.fillSet .office)
        = (some ⟨7, .threshold, none, 9, true⟩, true, false, true)
      ∧ demandCase (filling 0 [⟨7, .threshold, none, 9, true⟩]) (.fillSet .office)
        = (some ⟨7, .threshold, none, 9, true⟩, false, false, false) := by decide
theorem witness_FillSet_headroom :
    (27000 = ⌊(10 * caseRecord.vNom * caseRecord.tFull : ℚ) / 1000⌋₊) ∧ 27000 ≤ 27000 ∧ 26999 < 27000 := by
  refine ⟨?_, by decide, by decide⟩
  norm_num [caseRecord]

theorem witness_RangeNowAsksForABurst :
    (∀ p ∈ [Port.office, .service], p ≠ .crew ∧
      (let s := offering p 0x0C 9 (encSlot 7) (live.setSlot 7 serving);
        s.offers p (frameOf 0x0C 9 (encSlot 7)) ∧ (s.slot 7).configured = true ∧ (s.slot 7).bars.flood = false))
      ∧ ((live.setSlot 7 { serving with bars := { flood := true } }).slot 7).bars.flood = true
      ∧ ∀ pl ∈ ([[7], [8]] : List (List Byte)), pl.length = 1 ∧ (∀ k, slotAt pl 0 = some k → (live.slot k).configured = false)
        ∧ (offering .service 0x0C 9 pl live).offers .service (frameOf 0x0C 9 pl) := by decide

theorem witness_EchoTimesBecomeDistances :
    (speedOfSound (-30) = 313 ∧ echoDistance 313 900 = 140) ∧ speedOfSound 60 = 367 ∧ echoDistance 367 25000 = 4587 := by decide

theorem witness_ReadingsAreMiddlesAndBlendsStayBetween :
    brimful.record.inRange ∧ [3, 1, 2].Perm [1, 2, 3] ∧ brimful.record.hS ≤ 3500 ∧ 150 + brimful.record.hU ≤ brimful.record.hS
      ∧ 0 ≤ brimful.record.vCap ∧ brimful.record.vCap ≤ brimful.record.vCap ∧ 16 ≤ 16 := by decide

/-! ### Pit lines -/

theorem witness_RawLevelsPendUntilTheyHaveHeld :
    live.run ≠ .off ∧ ({ live with run := .off } : State).run = .off ∧ ((live.slot 0).lines.get .tilt).pending = none
      ∧ (let s := live.setSlot 7 { lines := { water := pends true 160 } };
        ((s.slot 7).lines.get .water).pending = some ⟨100, 160⟩ ∧ (s.slot 7).configured = false) := by decide

/-- Slot 7 with a session open and one line about to be accepted. -/
def turning (l : Line) (accepted : Bool) (d : DrumState) : State :=
  live.setSlot 7 { serving with
    lines := serving.lines.set (pends accepted 20) l, track := { drum := d, jamDeadline := some 30000 }
    locks := { drumReleased := true }, intake := { state := .opened { session with turnBelongs := true } } }

theorem witness_DrumTurnsAreTracked :
    (let s := turning .drumHome true .atHome;
      (s.slot 7).configured = true ∧ ((s.slot 7).lines.get .drumHome).pending = some ⟨100, 20⟩
        ∧ ((s.slot 7).lines.get .drumHome).accepted = true ∧ (s.slot 7).track.drum = .atHome)
      ∧ (let s := turning .drumHome false .turning;
        let c := { session with turnBelongs := true };
        ((s.slot 7).lines.get .drumHome).accepted = false ∧ (s.slot 7).track.drum = .turning
          ∧ (s.slot 7).intake.state = .opened c ∧ c.turnBelongs = true ∧ c.withdrawal = false ∧ c.deposits < c.limit
          ∧ (s.slot 7).bars.isEmpty = true)
      ∧ (let s := turning .drumOpen false .turning;
        ((s.slot 7).lines.get .drumOpen).pending = some ⟨100, 20⟩ ∧ ((s.slot 7).lines.get .drumOpen).accepted = false
          ∧ (s.slot 7).track.drum = .turning ∧ (s.slot 7).track.jamDeadline = some 30000 ∧ (s.slot 7).drumHome = false
          ∧ (s.slot 7).bars.drum = false ∧ s.reserveHolds = true) := by decide

theorem witness_CountedDepositsFillAndCharge :
    caseRecord.inRange ∧ brimful.record.inRange
      ∧ (let s := thirdTurn;
        (s.slot 4).configured = true ∧ ((s.slot 4).lines.get .drumHome).pending = some ⟨100, 20⟩
          ∧ ((s.slot 4).lines.get .drumHome).accepted = false ∧ (s.slot 4).track.drum = .reachedOpen
          ∧ (∃ c, (s.slot 4).intake.state = .opened c ∧ c.turnBelongs = true ∧ c.charged = true ∧ c.admission ≠ .offlineAny
            ∧ c.limit ≤ min (c.deposits + 1) 65535)
          ∧ s.store.state = .online) :=
  ⟨by decide, by decide, by decide, by decide, by decide, by decide, ⟨_, rfl, by decide, by decide, by decide, by decide⟩, by decide⟩

/-- The same deposit without a store that is ONLINE, with a charge in progress, and with the card among the waiting charges. -/
theorem witness_CountedDeposits_charges :
    ({ thirdTurn with store := {} }.store.state ≠ .online ∧ thirdTurn.cached 77 = some cachedCard)
      ∧ thirdTurn.resolver.job = none
      ∧ ({ job := some ⟨⟨5, 1⟩, .writing⟩ } : Resolver).job ≠ none
      ∧ thirdTurn.depositEntered 77 [⟨77, 1⟩]
      ∧ { thirdTurn with resolver := { charges := [⟨5, 2⟩, ⟨77, 65535⟩, ⟨6, 1⟩] } }.depositEntered 77
        [⟨5, 2⟩, ⟨77, 65535⟩, ⟨6, 1⟩] :=
  ⟨by decide, by decide, by decide, .inr ⟨by decide, by decide⟩,
    .inl ⟨[⟨5, 2⟩], ⟨77, 65535⟩, [⟨6, 1⟩], rfl, rfl, by decide, by decide⟩⟩

/-- A deposit of slot 7 at F below and above T_dem. -/
theorem witness_CountedDeposits_demand :
    let s (e : Nat) (d : List DemandEntry) := { (thirdTurn.setSlot 7 { thirdTurn.slot 4 with
      fill := { e := e, f := e / 30, measured := true } }) with demand := d }
    demandCase (s 20000 []) (.filterTimeElapsed 7 .drumHome) = (none, false, false, false)
      ∧ demandCase (s 29000 []) (.filterTimeElapsed 7 .drumHome) = (none, true, false, true)
      ∧ demandCase (s 29000 [⟨7, .threshold, none, 9, true⟩]) (.filterTimeElapsed 7 .drumHome)
        = (some ⟨7, .threshold, none, 9, true⟩, true, false, true)
      ∧ demandCase (s 29000 [⟨7, .full, none, 0, true⟩]) (.filterTimeElapsed 7 .drumHome)
        = (some ⟨7, .full, none, 0, true⟩, true, false, true) := by decide

/-- A burst in flight at slot 7. -/
def bursting (pings : List (Option Nat)) (awaiting : Bool) : State :=
  { live.setSlot 7 serving with
    ranging := { burst := some { slot := 7, cause := .office, start := 0, temp := 25, pings := pings, awaiting := awaiting } } }

theorem witness_CountedDeposits_discard_the_burst :
    (∃ b, (bursting [] true).burstOn 7 = some b) ∧ ((bursting [] true).slot 7).bars.flood = false := ⟨⟨_, rfl⟩, by decide⟩

/-- The drum home tests in their order, on an open session and on one that closes. -/
theorem witness_CountedDeposits_home_tests :
    let u := serving
    let c := { session with turnBelongs := true }
    u.homeEnd true { c with withdrawal := true } = some .full
      ∧ (∀ b ∈ [({ flood := true } : BarSet), { service := true }, { out := true }],
        { u with bars := b }.homeEnd false { c with withdrawal := true } = some .barred)
      ∧ u.homeEnd false { c with withdrawal := true, deposits := 2 } = some .cardWithdrawn
      ∧ u.homeEnd false { c with deposits := 2 } = some .limit ∧ u.homeEnd false { c with deposits := 1 } = none
      ∧ ∀ x ∈ [IntakeState.opened c, .closing c .drumFault, .idle],
        let s := (turning .drumHome false .reachedOpen).modSlot 7 fun y => { y with intake := { state := x } }
        (s.slot 7).configured = true ∧ ((s.slot 7).lines.get .drumHome).pending = some ⟨100, 20⟩
          ∧ ((s.slot 7).lines.get .drumHome).accepted = false ∧ (s.slot 7).track.drum = .reachedOpen
          ∧ (s.slot 7).intake.state = x := by decide

/-- A store transaction of a requester in flight, over a store that is ONLINE with these bytes at its item. -/
def transacting (r : Requester) (op : StoreOp) (item : List Byte) (s : State) : State :=
  { s with
    store := { online with mem := Memory.writeBytes op.address item online.mem }
    arbiter := { s.arbiter with inFlight := some ⟨r, op, op.formed s.clock.period, 0⟩ } }

/-- What the completion of the transaction in flight hands over. -/
def handed (s : State) : Option Handed :=
  s.arbiter.inFlight.map fun x => x.op.handed (s.store.mem.readBytes x.op.address x.op.size)

/-- A charge of card 77 in progress, another waiting behind it. -/
def charging (ph : ChargePhase) (op : StoreOp) (item : List Byte) : State :=
  transacting .charge op item { live with resolver := { charges := [⟨5, 2⟩], job := some ⟨⟨77, 1⟩, ph⟩ } }

theorem witness_CountedDeposits_charge_work :
    let b := bucketOf 77
    let q : Search := { card := 77 }
    let q1 : Search := { card := 77, occupancy := some 1 }
    (bucketOf neighbour.card = b ∧ record77.card = 77)
      ∧ handed (charging (.readCached b 3) (.recRead b 3) (encRecord record77)) = some (.record 3 (some record77))
      ∧ handed (charging (.readCached b 3) (.recRead b 3) (encRecord neighbour)) = some (.record 3 (some neighbour))
      ∧ handed (charging (.readCached b 3) (.recRead b 3) []) = some (.record 3 none)
      ∧ handed (charging .readFreed (.recRead b 3) (encRecord record77)) = some (.record 3 (some record77))
      ∧ (handed (charging (.searching q) (.dirRead b) (encDir 1)) = some (.directory (some 1))
        ∧ q.step (.directory (some 1)) = .read q1 0)
      ∧ (handed (charging (.searching q1) (.recRead b 0) (encRecord record77)) = some (.record 0 (some record77))
        ∧ q1.step (.record 0 (some record77)) = .ended (.found record77 0 1))
      ∧ (handed (charging (.searching q1) (.recRead b 0) (encRecord neighbour)) = some (.record 0 (some neighbour))
        ∧ q1.step (.record 0 (some neighbour)) = .ended (.absent 1))
      ∧ (handed (charging (.searching q) (.dirRead b) []) = some (.directory none)
        ∧ q.step (.directory none) = .ended (.damaged 0 none))
      ∧ (let s := charging .writing (.recWrite b 3 (.charged record77 1)) [];
        handed s = some .written ∧ s.arbiter.inFlight.map Transaction.written = some (some (record77.plus 288 1)))
      ∧ (charging .writing (.recWrite b 3 (.charged record77 1)) []).reserveHolds = true := by decide

/-- A burst of cause LIFT at slot 7, its third ping emitted. -/
def lastPing : Burst := { slot := 7, cause := .lift, start := 0, temp := 25, pings := [some 900, none], awaiting := true }

/-- Slot 7 in custody of a state with one line about to be accepted. -/
def lifting (l : Line) (accepted : Bool) (x : Custody) : State :=
  { live.setSlot 7 { serving with
      lines := serving.lines.set (pends accepted 80) l, bars := { lift := true }
      track := { tipStart := if accepted then some 50 else none } } with
    lift := { crewed with custody := { x with slot := 7 } } }

theorem witness_LiftsFollowThePlatform :
    (let s := lifting .platform true { state := .granted };
      (s.slot 7).configured = true ∧ ((s.slot 7).lines.get .platform).pending = some ⟨100, 80⟩
        ∧ ((s.slot 7).lines.get .platform).accepted = true ∧ s.custodyOn 7 = .granted ∧ (s.slot 7).locks.test = none)
      ∧ (let s := lifting .platform true {};
        ((s.slot 7).lines.get .platform).accepted = true ∧ s.custodyOn 7 ≠ .granted ∧ s.custodyOn 7 ≠ .raised)
      ∧ (let s := { lifting .platform true { state := .closing } with ranging := { queue := [⟨7, .lift⟩] } };
        s.run = .running ∧ s.custodyOn 7 = .closing ∧ s.rangeEntry 7 = some ⟨7, .lift⟩)
      ∧ (let s := { lifting .platform true { state := .closing } with ranging := { burst := some lastPing } };
        s.custodyOn 7 = .closing ∧ s.burstOn 7 = some lastPing ∧ lastPing.cause = .lift)
      ∧ (let s := { lifting .platform true {} with ranging := { burst := some lastPing } }.modSlot 7 fun u =>
          { u with range := { waitOffice := true } };
        s.run = .running ∧ s.burstOn 7 = some lastPing ∧ (s.slot 7).range.waitOffice = true)
      ∧ (∀ q o : Bool,
        let s := lifting .platform false { state := .raised, qualifying := q, orphaned := o };
        ((s.slot 7).lines.get .platform).accepted = false ∧ s.custodyOn 7 = .raised ∧ s.lift.custody.qualifying = q
          ∧ s.lift.custody.orphaned = o ∧ (s.slot 7).bars.flood = false)
      ∧ (let s := lifting .tilt false { state := .raised };
        ((s.slot 7).lines.get .tilt).pending = some ⟨100, 80⟩ ∧ s.custodyOn 7 = .raised
          ∧ ((s.slot 7).lines.get .tilt).accepted = false ∧ (s.slot 7).track.tipStart = none)
      ∧ (let s := lifting .tilt true { state := .raised };
        ((s.slot 7).lines.get .tilt).pending = some ⟨100, 80⟩ ∧ s.custodyOn 7 = .raised
          ∧ ((s.slot 7).lines.get .tilt).accepted = true ∧ (s.slot 7).track.tipStart = some 50) := by decide

/-- R38: where the platform removes a queued LIFT entry the lift is reported first and the waiters are answered behind it; where
it discards the burst in flight the waiters come first. -/
theorem test_lift_report_and_waiters :
    let kinds (x : Ranging) :=
      let s := { lifting .platform true { state := .closing } with ranging := x }.modSlot 7 fun u =>
        { u with range := { waitOffice := true } };
      let t := after (.filterTimeElapsed 7 .platform) s;
      ((t.port .office).outbox.map fun f => f.bytes.getD 1 0, t.lift.custody.state)
    kinds { queue := [⟨7, .lift⟩] } = ([0xC1, 0xC1, 0xCA, 0xC4], .none)
      ∧ kinds { burst := some lastPing } = ([0xC1, 0xC4, 0xC1, 0xCA], .none) := by decide

theorem witness_FloodSuspendsRanging :
    (∀ b : Bool,
      let s := lifting .water b {};
      (s.slot 7).configured = true ∧ ((s.slot 7).lines.get .water).pending = some ⟨100, 80⟩
        ∧ ((s.slot 7).lines.get .water).accepted = b ∧ (s.slot 7).bars.flood = false)
      ∧ (let s := { lifting .water false { state := .closing } with ranging := { queue := [⟨7, .lift⟩] } }.modSlot 7 fun u =>
          { u with range := { waitOffice := true } };
        s.run = .running ∧ s.custodyOn 7 = .closing ∧ s.rangeEntry 7 = some ⟨7, .lift⟩ ∧ (s.slot 7).range.waitOffice = true
          ∧ ((s.slot 7).lines.get .water).accepted = false)
      ∧ (let s := live.setSlot 7 { serving with bars := { flood := true }, track := { floodHold := some 600000 } };
        (s.slot 7).configured = true ∧ (s.slot 7).track.floodHold = some 600000 ∧ s.reserveHolds = true) := by decide

/-! ### Bursts -/

theorem witness_RangingIsTimed :
    (let s := live.setSlot 7 { serving with range := { due := some 3600000, delay := some 10000 } };
      (s.slot 7).range.due = some 3600000 ∧ (s.slot 7).range.delay = some 10000 ∧ (s.slot 7).configured = true
        ∧ (s.slot 7).bars.flood = false)
      ∧ (let s := live.setSlot 7 { serving with bars := { flood := true }, range := { due := some 3600000 } };
        (s.slot 7).range.due = some 3600000 ∧ (s.slot 7).bars.flood = true)
      ∧ (∃ b, (bursting [some 900, none] false).ranging.burst = some b ∧ b.awaiting = false)
      ∧ (∃ b, (bursting [some 900] true).ranging.burst = some b ∧ b.awaiting = true ∧ b.pings.length < 2 ∧ b.slot = 7) :=
  ⟨by decide, by decide, ⟨_, rfl, rfl⟩, ⟨_, rfl, rfl, by decide, rfl⟩⟩

theorem witness_BurstsCompleteIntoTheEstimate :
    (∃ b, (bursting [some 900, some 25000] true).ranging.burst = some b ∧ b.awaiting = true ∧ b.pings.length = 2
      ∧ ((bursting [some 900, some 25000] true).slot b.slot).configured = true
      ∧ ({ b with pings := b.pings ++ [none] } : Burst).reading ≠ none)
      ∧ ∃ b, (bursting [none, some 25000] true).ranging.burst = some b ∧ b.awaiting = true ∧ b.pings.length = 2
        ∧ ({ b with pings := b.pings ++ [none] } : Burst).reading = none
        ∧ ({ b with pings := b.pings ++ [some 900] } : Burst).reading ≠ none :=
  ⟨⟨_, rfl, rfl, rfl, by decide, by decide⟩, ⟨_, rfl, rfl, rfl, by decide, by decide⟩⟩

theorem witness_BurstsComplete_waiters_and_lift :
    let s := { lifting .platform true { state := .closing } with ranging := { burst := some lastPing } }.modSlot 7 fun u =>
      { u with range := { waitOffice := true, waitService := true } }
    s.run = .running ∧ s.ranging.burst = some lastPing ∧ lastPing.awaiting = true ∧ lastPing.pings.length = 2
      ∧ lastPing.cause = .lift ∧ (s.slot 7).configured = true ∧ s.custodyOn 7 = .closing ∧ (s.slot 7).range.waitOffice = true
      ∧ (s.slot 7).range.waitService = true := by decide

/-- A reading of slot 7 that fills it, and one that does not. -/
theorem witness_BurstsComplete_demand :
    let s (us : Nat) (d : List DemandEntry) := { bursting [some us, some us] true with demand := d }
    demandCase (s 25000 []) .pingTimeout = (none, false, false, false)
      ∧ demandCase (s 900 []) (.echoEdge 7 900) = (none, true, false, true)
      ∧ demandCase (s 900 [⟨7, .threshold, none, 9, true⟩]) .pingTimeout
        = (some ⟨7, .threshold, none, 9, true⟩, true, false, true)
      ∧ demandCase (s 25000 [⟨7, .threshold, none, 9, true⟩]) .pingTimeout
        = (some ⟨7, .threshold, none, 9, true⟩, false, false, false) := by decide

/-! ### Readers and sessions -/

theorem witness_ReadersArePolled :
    (let s := { live.setSlot 7 { serving with reader := { unanswered := 2, signal := some .deny } } with
        readerBus := { bus := .polling 7 0 } };
      s.readerBus.bus = .polling 7 0 ∧ (s.slot 7).reader.signal = some .deny ∧ 2 ≤ (s.slot 7).reader.unanswered
        ∧ (s.slot 7).reader.lost = false ∧ s.reserveHolds = true)
      ∧ (let s := { live.setSlot 7 { serving with reader := { unanswered := 3, lost := true, lostSince := 1000 } } with
          now := 65537001, readerBus := { bus := .polling 7 0 } };
        s.readerBus.bus = .polling 7 0 ∧ (s.slot 7).reader.lost = true ∧ (s.slot 7).reader.signal = none
          ∧ min ((s.now - (s.slot 7).reader.lostSince) / 1000) 65535 = 65535)
      ∧ (let s := { sessionExample with readerBus := { bus := .signalling 4 0 } };
        s.readerBus.bus = .signalling 4 0 ∧ (turnOrder s.readerBus.lastTurn).find? s.takesTurn = some 4)
      ∧ (turnOrder live.readerBus.lastTurn).find? live.takesTurn = none
      ∧ (sessionExample.readerBus.bus = .polling 4 0 ∧ (sessionExample.slot 4).reader.signal = none
        ∧ (turnOrder sessionExample.readerBus.lastTurn).find? sessionExample.takesTurn = some 4
        ∧ checkGood [4, 0x4E, 0] = false ∧ checkGood [] = false ∧ byteAt (withCheck [5, 0x4E]) 0 ≠ 4
        ∧ byteAt (withCheck [255, 0x4E]) 0 ≠ 4)
      ∧ (let s := sessionExample.modSlot 4 fun u => { u with reader := { lost := true, lastPoll := some 0 } };
        s.readerBus.bus = .polling 4 0 ∧ (turnOrder s.readerBus.lastTurn).find? s.takesTurn = none)
      ∧ (let s := live.setSlot 7 { serving with
          record := { caseRecord with readerEnable := true }, reader := { lost := true, lastPoll := some 0 } };
        s.readerBus.bus = .waiting ∧ (s.slot 7).configured = true ∧ (s.slot 7).record.readerEnable = true
          ∧ (s.slot 7).reader.lost = true ∧ (s.slot 7).reader.lastPoll = some 0) := by decide

theorem witness_GrantsPassEveryCheck :
    sessionExample.decision 4 (.found cachedCard false) = .grant .normal 2
      ∧ (sessionExample.setSlot 4 { sessionExample.slot 4 with bars := { out := true, log := true } } |>.slot 4).bars.first
        = some .out := by decide

/-- The session example under an offline policy for every fraction. -/
def underPolicy (x : OfflinePolicy) : State :=
  { sessionExample with config := { sessionExample.config with policies := Vector.replicate 6 x } }

theorem witness_Grants_lookup :
    (sessionExample.slot 4).bars.isEmpty = true
      ∧ (∀ x ∈ [OfflinePolicy.refuse, .cachedOnly], (underPolicy x).config.policy ((underPolicy x).slot 4).record.fraction ≠ .admitAny)
      ∧ (underPolicy .refuse).config.policy ((underPolicy .refuse).slot 4).record.fraction = .refuse :=
  ⟨by decide, by decide, by decide⟩
theorem witness_Grants_admitted :
    sessionExample.lookupAdmits 4 (.found cachedCard false) .normal (some record77)
      ∧ (underPolicy .cachedOnly).lookupAdmits 4 (.storeOffline (some cachedCard)) .offlineCached (some record77)
      ∧ (underPolicy .admitAny).lookupAdmits 4 .damaged .offlineAny none
      ∧ (underPolicy .admitAny).lookupAdmits 4 (.storeOffline none) .offlineAny none :=
  ⟨.inl ⟨_, _, rfl, rfl, rfl⟩, .inr (.inl ⟨_, rfl, by decide, rfl, rfl⟩), .inr (.inr ⟨.inl rfl, by decide, rfl, rfl⟩),
    .inr (.inr ⟨.inr rfl, by decide, rfl, rfl⟩)⟩
/-- The records that check 4 denies, in its order, and one that it passes on its last day. -/
theorem witness_Grants_records :
    let s := sessionExample
    let x := record77
    { x with status := .suspended }.status = .suspended ∧ x.status = .active
      ∧ s.pastExpiry { x with expiry := some 8765 } ∧ ¬ s.pastExpiry { x with expiry := some 8766 } ∧ ¬ s.pastExpiry x
      ∧ (s.profiles[x.profile]).marks.getD (s.slot 4).record.cls false = true
      ∧ (s.profiles[({ x with profile := 3 } : CardRecord).profile]).marks.getD (s.slot 4).record.cls false = false := by decide
theorem witness_Grants_hours :
    ¬ sessionExample.outsideHours 4
      ∧ (∀ h ∈ [({ restDays := 1 } : FractionHours), { openMinute := 826 }, { closeMinute := 825 },
          { openMinute := 1439, closeMinute := 825 }],
        { sessionExample with hours := Vector.replicate 6 h }.outsideHours 4)
      ∧ ¬ { sessionExample with hours := Vector.replicate 6 { openMinute := 825, closeMinute := 825 } }.outsideHours 4 := by decide
theorem witness_Grants_charged :
    let s := sessionExample
    let x := record77
    (s.slot 4).record.charged = true ∧ s.quotaLeft x = 2 ∧ s.quotaLeft { x with usage := 40 } = 0
      ∧ s.quotaLeft { x with usage := 65535, stamp := 287 } = 40 ∧ s.store.state = .online
      ∧ 8 ≤ ({ charges := List.replicate 8 ⟨5, 1⟩ } : Resolver).charges.length ∧ s.resolver.charges.length < 8
      ∧ s.chargedSessions + s.inPreparation + 8 < 256 - s.log.records.length
      ∧ ({ live with store := {} } : State).store.state ≠ .online
      ∧ (s.modSlot 4 fun u => { u with record := { u.record with charged := false } }).quotaLeft x = 2 := by decide
theorem witness_Grants_log_full :
    let s := { sessionExample with log := fullLog }
    256 - s.log.records.length ≤ s.chargedSessions + s.inPreparation + 8 := by decide +kernel

theorem witness_CardsAreDecidedAndSessionsEnd :
    (let s := sessionExample;
      s.readerBus.bus = .polling 4 0 ∧ (77 : CardNo) ≠ noCard ∧ (s.slot 4).configured = true
        ∧ (s.slot 4).record.readerEnable = true ∧ (s.slot 4).reader.lost = false ∧ (s.slot 4).intake.state = .idle
        ∧ (∀ j, j ≠ 4 → (s.slot j).intake.state.card ≠ some 77) ∧ s.cached 77 = some cachedCard ∧ s.store.state = .online
        ∧ s.busyBucket ≠ some (bucketOf 77))
      ∧ (let s := { sessionExample with hours := Vector.replicate 6 { closeMinute := 1 } };
        s.decision 4 (.found cachedCard false) = .deny .hours)
      ∧ ∀ b : Bool,
        let s := live.setSlot 7 { serving with
          track := { drum := if b then .atHome else .turning }
          intake := { state := .opened { session with deposits := 1 }, idleDeadline := some 15000 } };
        (s.slot 7).intake.state = .opened { session with deposits := 1 } ∧ (s.slot 7).intake.idleDeadline = some 15000
          ∧ (s.slot 7).drumHome = b := by decide

/-- A card at a slot that is BARRED, and one that another slot holds. -/
theorem witness_Cards_denied_at_once :
    (let s := sessionExample.modSlot 4 fun u => { u with bars := { drum := true, log := true }, intake := { state := .barred } };
      s.readerBus.bus = .polling 4 0 ∧ (s.slot 4).configured = true ∧ (s.slot 4).record.readerEnable = true
        ∧ (s.slot 4).reader.lost = false ∧ (s.slot 4).intake.state = .barred ∧ (s.slot 4).bars.first = some .drum)
      ∧ (let s := sessionExample.setSlot 7 { serving with intake := { state := .closing { session with card := 77 } .idle } };
        s.readerBus.bus = .polling 4 0 ∧ (s.slot 4).intake.state = .idle ∧ (7 : Slot) ≠ 4
          ∧ (s.slot 7).intake.state.card = some 77) := by decide

/-- All three requesters wait at the Arbiter; the charge job's bucket is free, and so is that of the batch. -/
def contending (starvation : Nat) : State :=
  { live with
    store := online
    arbiter := { refill := { waiting := some ⟨.recRead 5 0, true⟩ }, charge := { waiting := some ⟨.dirRead 6, true⟩ }
                 batch := { waiting := some ⟨.dirRead 7, true⟩ }, starvation := starvation } }

theorem witness_GrantsFollowPriorityAndHazards :
    writing.arbiter.inFlight ≠ none
      ∧ (live.arbiter.inFlight = none ∧ live.eligible .refill = false ∧ live.eligible .charge = false
        ∧ live.eligible .batch = false)
      ∧ ((contending 4).arbiter.inFlight = none ∧ (contending 4).arbiter.starvation = 4 ∧ (contending 4).eligible .batch = true)
      ∧ ((contending 3).eligible .refill = true ∧ (contending 3).arbiter.starvation ≠ 4)
      ∧ { contending 0 with store := { state := .formatting } }.eligible .batch = true
      ∧ { contending 0 with store := { state := .formatting } }.eligible .refill = false
      ∧ { contending 0 with arbiter := { (contending 0).arbiter with refill := { held := some 6 } } }.eligible .charge = false := by
  decide

/-! ### Emptying demand and the log -/

theorem witness_DemandIsAddedAndListed :
    (let s := offering .office 0x0D 9 (encSlot 7) (live.setSlot 7 serving);
      s.offers .office (frameOf 0x0D 9 (encSlot 7)) ∧ (s.slot 7).configured = true ∧ s.demandOf 7 = none)
      ∧ (let s := offering .office 0x0D 9 (encSlot 0) { live.setSlot 0 serving with demand := ordered.demand };
        s.offers .office (frameOf 0x0D 9 (encSlot 0)) ∧ (s.demandOf 0).map DemandEntry.cause = some .order)
      ∧ (∀ pl ∈ ([[7], [8]] : List (List Byte)), pl.length = 1 ∧ (∀ k, slotAt pl 0 = some k → (live.slot k).configured = false)
        ∧ (offering .office 0x0D 9 pl live).offers .office (frameOf 0x0D 9 pl))
      ∧ (offering .office 0x0F 9 [] ordered).offers .office (frameOf 0x0F 9 []) := by decide

theorem witness_DemandCancelRemovesTheEntry :
    (let s := offering .office 0x0E 9 (encSlot 7) ordered; s.offers .office (frameOf 0x0E 9 (encSlot 7)) ∧ s.demandOf 7 = none)
      ∧ (let s := offering .office 0x0E 9 (encSlot 0) ordered; s.offers .office (frameOf 0x0E 9 (encSlot 0)) ∧ s.demandOf 0 ≠ none)
      ∧ ∀ n ∈ [8, 255], (offering .office 0x0E 9 (u8 n) live).offers .office (frameOf 0x0E 9 (u8 n)) := by decide

/-- A log with a short record, and behind it one of 7 dropped pairs. -/
def mixedLog : StationLog :=
  { records := [⟨0, .alert (some 1) (.seated 0)⟩, ⟨1, .alert (some 1) (.chargesDropped true (List.replicate 7 ⟨7, 1⟩))⟩], seq := 2 }

theorem witness_LogFetchReturnsWhatFits :
    (∀ pl ∈ ([[0, 0], [0, 1], [1, 1], [1, 2], [2, 0], [255, 255]] : List (List Byte)),
      (offering .service 0x10 9 pl { live with log := mixedLog }).offers .service (frameOf 0x10 9 pl))
      ∧ mixedLog.records.length ≤ 2
      ∧ (∃ r rs, mixedLog.records.drop 0 = r :: rs ∧ r.bytes.length ≤ 50)
      ∧ ∃ r rs, mixedLog.records.drop 1 = r :: rs ∧ 50 < r.bytes.length ∧ 1 < r.parts ∧ r.parts ≤ 2 :=
  ⟨by decide, by decide, ⟨_, _, rfl, by decide⟩, ⟨_, _, rfl, by decide, by decide, by decide⟩⟩

theorem witness_LogReleaseRemovesTheOldest :
    ∀ n ∈ [0, 2, 65535], n < 65536
      ∧ (offering .office 0x11 9 (u16 n) { live.setSlot 7 serving with log := mixedLog }).offers .office (frameOf 0x11 9 (u16 n)) := by
  decide

/-! ### Batches -/

/-- A batch that is OPEN. -/
def batching (packed : Bool) : Batch := { state := .opened, id := 41, declared := 3, packed := packed }

/-- The entry SUSPEND of card 5 in the Commit slot. -/
def committing : Commit := { entry := .suspend 5, index := 1, phase := .searching { card := 5 } }

theorem witness_BatchesBeginEndAndAbort :
    (∀ n ∈ [0, 1, 1024, 1025], ∀ mode ∈ [0, 1, 2, 255],
      let pl := u16 65535 ++ u16 n ++ u8 mode;
      (offering .office 0x12 9 pl { live with store := online }).offers .office (frameOf 0x12 9 pl))
      ∧ (live.batch.state = .none ∧ live.store.state ≠ .online ∧ online.state = .online ∧ (batching true).state ≠ .none)
      ∧ (∀ b ∈ ([batching true, { batching true with inbox := [1] }, { batching true with commit := some committing },
          { batching true with state := .ending, commit := some committing }, { batching true with assembler := .building [3] false },
          { batching true with assembler := .building (3 :: List.replicate 19 0) false },
          { batching true with assembler := .building [3] true, commit := some committing }] : List Batch),
        (b.state = .opened ∨ b.state = .ending) ∧ (offering .office 0x14 9 [] { live with batch := b }).offers .office (frameOf 0x14 9 [])
          ∧ b.abort = none ∧ (offering .office 0x15 9 [] { live with batch := b }).offers .office (frameOf 0x15 9 []))
      ∧ ((batching true).inbox = [] ∧ (batching true).assembler = .empty ∧ (batching true).commit = none)
      ∧ (entryAt true false [3] = none ∧ entryAt true false (3 :: List.replicate 19 0) = some (.suspend 0))
      ∧ (∀ begins : Bool,
        let s := offering .office 0x15 9 [] { live with
          batch := { batching true with commit := some committing }, arbiter := { batch := { waiting := some ⟨.dirRead 7, begins⟩ } } };
        s.offers .office (frameOf 0x15 9 []) ∧ s.batch.commit ≠ none ∧ s.arbiter.batch.waiting = some ⟨.dirRead 7, begins⟩)
      ∧ live.arbiter.batch.waiting = none := by decide

/-- An entry in the Commit slot with a transaction of its work in flight. -/
def workingOn (e : Entry) (ph : CommitPhase) (op : StoreOp) (item : List Byte) : State :=
  transacting .batch op item { live with batch := { batching true with commit := some { entry := e, index := 1, phase := ph } } }

/-- The entry ADD of card 77. -/
def adding : Entry := .add 77 .suspended 15 (some 65535) none

/-- A search that ends at the position behind the last that it has read. -/
def searchAt (occupancy next : Nat) : Search := { card := 77, occupancy := some occupancy, next := next }

theorem witness_BatchEntries_searched :
    let b := bucketOf 77
    (∀ e ∈ [adding, .suspend 77, .resume 77, .setUsage 77 65535 65535, .revoke 77],
      let s := workingOn e (.searching { card := 77 }) (.dirRead b) (encDir 16);
      s.run = .running ∧ s.store.format = none ∧ s.arbiter.inFlight.map Transaction.requester = some .batch
        ∧ s.batch.commit = some { entry := e, index := 1, phase := .searching { card := 77 } }
        ∧ s.batch.assembler.isWaiting = false ∧ s.batch.inbox = [] ∧ e.card = 77
        ∧ handed s = some (.directory (some 16)))
      ∧ ({ card := 77 : Search }.step (.directory (some 16)) = .read (searchAt 16 0) 0
        ∧ { card := 77 : Search }.step (.directory (some 0)) = .ended (.absent 0)
        ∧ { card := 77 : Search }.step (.directory none) = .ended (.damaged 0 none))
      ∧ (∀ c ∈ [15, 16], handed (workingOn adding (.searching (searchAt c (c - 1))) (.recRead b 14) (encRecord neighbour))
          = some (.record 14 (some neighbour))
        ∧ (searchAt c (c - 1)).step (.record 14 (some neighbour)) = .ended (.absent c))
      ∧ (handed (workingOn adding (.searching (searchAt 1 0)) (.recRead b 0) []) = some (.record 0 none)
        ∧ (searchAt 1 0).step (.record 0 none) = .ended (.damaged 1 (some 0)))
      ∧ (∀ c ∈ [1, 2], handed (workingOn (.revoke 77) (.searching (searchAt c 0)) (.recRead b 0) (encRecord record77))
          = some (.record 0 (some record77))
        ∧ (searchAt c 0).step (.record 0 (some record77)) = .ended (.found record77 0 c)) := by decide

/-- A closed entry in the Assembler: SUSPEND of card 77, one that is MALFORMED, each with and without bytes behind it. -/
theorem witness_Batches_waiting :
    let sus : List Byte := [3, 0, 0, 0, 77] ++ List.replicate 15 0
    (entryAt true false sus = some (.suspend 77) ∧ entryAt true false [9] = none ∧ entryAt true true sus = none)
      ∧ (∀ bs ∈ [sus, [9]], ∀ inbox ∈ ([[], [1], List.replicate 19 1] : List (List Byte)),
        let b := { batching true with assembler := .waiting bs false 2, closed := 2, inbox := inbox };
        b.state = .opened ∧ b.abort = none ∧ b.packed = true ∧ b.closed ≠ b.declared ∧ b.inbox.length < 20
          ∧ (offering .office 0x14 9 [] { live with batch := b }).offers .office (frameOf 0x14 9 []))
      ∧ (∀ bs ∈ [sus, [9]], ∀ inbox ∈ ([[], [1], List.replicate 19 1] : List (List Byte)), ∀ st ∈ [BatchState.opened, .ending],
        let s := workingOn (.suspend 5) (.writing 0 none) (.recWrite (bucketOf 5) 0 (.newCard record77)) [];
        let u := { s with batch := { s.batch with state := st, assembler := .waiting bs false 2, closed := 2, inbox := inbox } };
        u.run = .running ∧ u.store.format = none ∧ handed u = some .written ∧ u.batch.packed = true
          ∧ u.batch.closed ≠ u.batch.declared ∧ u.batch.inbox.length < 20) := by decide

/-- What a report can say of the length: LONG, EXACT, SHORT, and ABORTED with either reason. -/
theorem witness_Batches_reports :
    ((batching true).abort = none ∧ { batching true with long := true }.long = true ∧ (batching true).long = false)
      ∧ ({ batching true with closed := 3 }.closed = (batching true).declared ∧ (batching true).closed ≠ (batching true).declared)
      ∧ (∀ a ∈ [AbortMark.request, .store], { batching true with abort := some a }.abort = some a) := by decide

/-- SUSPEND of card 5 applied while slots hold sessions of it with the drum home and away, and one of another card. -/
theorem witness_Batches_withdrawn :
    let s := (workingOn (.suspend 5) (.writing 0 none) (.recWrite (bucketOf 5) 0 (.newCard record77)) []).setSlot 1
      { serving with intake := { state := .opened session } }
    let u := (s.setSlot 2 { serving with intake := { state := .opened session }, track := { drum := .turning } }).setSlot 3
      { serving with intake := { state := .opened { session with card := 6 } } }
    (u.slot 1).intake.state = .opened session ∧ session.card = 5 ∧ (u.slot 1).drumHome = true ∧ (u.slot 2).drumHome = false
      ∧ (u.slot 1).homeEnd (u.slot 1).bars.full { session with withdrawal := true } = some .cardWithdrawn
      ∧ handed u = some .written ∧ u.run = .running := by decide

/-- R95, R113 (log entry 32): a REVOKE frees the location at which a charge of the card was to be read. -/
theorem test_freed_location :
    let b := bucketOf 77
    let s := workingOn (.revoke 77) (.shrinking 0 none) (.dirWrite b 0) []
    (after (.transactionComplete .held) { s with resolver := { job := some ⟨⟨77, 1⟩, .readCached b 0⟩ } }).resolver.job
      = some ⟨⟨77, 1⟩, .readFreed⟩ := by decide

/-- The scan of a REVOKE, the writes, and a batch in ENDING with its last entry. -/
theorem witness_BatchEntries_written :
    let b := bucketOf 77
    (∀ q ∈ [(1 : Position), 15],
      handed (workingOn (.revoke 77) (.scanning 0 q) (.recRead b q) (encRecord neighbour)) = some (.record q (some neighbour))
        ∧ handed (workingOn (.revoke 77) (.scanning 0 q) (.recRead b q) []) = some (.record q none))
      ∧ (∀ ph ∈ [CommitPhase.writing 0 (some 1), .writing 0 none, .moving 0 neighbour],
        handed (workingOn adding ph (.recWrite b 0 (.newCard record77)) []) = some .written)
      ∧ (∀ ph ∈ [CommitPhase.writingDir 0, .shrinking 0 none, .shrinking 0 (some neighbour)],
        handed (workingOn adding ph (.dirWrite b 1) []) = some .written)
      ∧ (∀ st ∈ [BatchState.opened, .ending],
        let s := workingOn (.revoke 77) (.shrinking 0 none) (.dirWrite b 0) [];
        { s with batch := { s.batch with state := st } }.batch.inbox = []
          ∧ { s with batch := { s.batch with state := st } }.batch.assembler.isWaiting = false)
      ∧ sessionExample.cached 77 = some cachedCard
      ∧ ({ job := some ⟨⟨77, 1⟩, .readCached b 0⟩ } : Resolver).job = some ⟨⟨77, 1⟩, .readCached b 0⟩ := by decide

theorem witness_BatchDataFeedsTheParser :
    (let s (pl : List Byte) (b : Batch) := offering .office 0x13 9 pl { live with batch := b };
      (∀ n ∈ [0, 1, 48, 49, 61], (List.replicate n (1 : Byte)).length ≤ 61
        ∧ (s (List.replicate n 1) {}).offers .office (frameOf 0x13 9 (List.replicate n 1)))
      ∧ (let pl : List Byte := 0x7E :: 3 :: [0, 0x7E, 5].flatMap fun b => if b = 0x7E then [b, b] else [b];
        (s pl (batching false)).offers .office (frameOf 0x13 9 pl))
      ∧ (batching false).assembler = .empty ∧ (batching false).sepSeen = false ∧ (batching false).packed = false
      ∧ (batching false).inbox = [] ∧ (batching false).closed ≠ (batching false).declared
      ∧ ({ batching true with inbox := [1] } : Batch).inbox ≠ []
      ∧ (let pl := List.replicate 19 (0 : Byte);
        (s pl { batching true with assembler := .building [3] false }).offers .office (frameOf 0x13 9 pl)
          ∧ [(3 : Byte)].length + pl.length = 20 ∧ entryAt true false ([3] ++ pl) = some (.suspend 0)
          ∧ entryAt true false ([9] ++ pl) = none)) := by decide

/-- FRAMED: bytes ahead of the first entry, bytes up to and past the 24th of an entry, and a separator that closes one. -/
theorem witness_BatchData_framed :
    let b := { batching false with started := true, assembler := .building [3, 0, 0, 0, 77] false }
    let s (pl : List Byte) (b : Batch) := offering .office 0x13 9 pl { live with batch := b }
    ((batching false).started = false ∧ (0x7E : Byte) ∉ List.replicate 48 (1 : Byte))
      ∧ (∀ n ∈ [1, 19, 20, 48], (s (List.replicate n 1) b).offers .office (frameOf 0x13 9 (List.replicate n 1)))
      ∧ (s [0x7E, 4] b).offers .office (frameOf 0x13 9 [0x7E, 4])
      ∧ (b.sepSeen = false ∧ b.packed = false ∧ b.closed ≠ b.declared ∧ (0x04 : Byte) ≠ 0x7E ∧ b.commit = none)
      ∧ entryAt false false [3, 0, 0, 0, 77] = some (.suspend 77) ∧ entryAt false false [3] = none
      ∧ entryAt false true [3, 0, 0, 0, 77] = none
      ∧ { b with closed := 2 }.closed + 1 = b.declared ∧ { b with commit := some committing }.commit ≠ none := by decide

/-- FRAMED with the separator seen or not: the separator alone, an entry that starts, a literal 0x7E ahead of the first entry and
in one, and a kind byte that closes an entry. -/
theorem witness_BatchData_separator :
    let s (pl : List Byte) (b : Batch) := offering .office 0x13 9 pl { live with batch := b }
    (∀ seen : Bool, ∀ a ∈ [Assembler.empty, .building [3, 0, 0, 0, 77] false, .building (List.replicate 24 3) true],
      ∀ pl ∈ ([[0x7E], [4], (if seen then [] else [0x7E]) ++ 4 :: List.replicate 23 0, 0x7E :: List.replicate 47 1] : List (List Byte)),
      let b := { batching false with assembler := a, sepSeen := seen };
      (s pl b).offers .office (frameOf 0x13 9 pl) ∧ 1 ≤ pl.length ∧ pl.length ≤ 48 ∧ b.state = .opened ∧ b.inbox = []
        ∧ b.packed = false ∧ b.closed ≠ b.declared ∧ b.assembler.isWaiting = false ∧ b.started = false ∧ b.sepSeen = seen)
      ∧ ((0x7E : Byte) ∉ List.replicate 47 (1 : Byte) ∧ (0x7E : Byte) ∉ ([] : List Byte) ∧ (List.replicate 24 (3 : Byte)).length ≤ 24)
      ∧ { batching false with started := true }.started = true := by decide

/-- PACKED: an entry that starts from an empty Assembler, one that 20 bytes close with bytes behind them, and the parser paused. -/
theorem witness_BatchData_packed :
    let s (pl : List Byte) (b : Batch) := offering .office 0x13 9 pl { live with batch := b }
    (∀ n ∈ [1, 19, 20, 39], (s (List.replicate n 3) (batching true)).offers .office (frameOf 0x13 9 (List.replicate n 3)))
      ∧ (List.replicate 39 (3 : Byte) = List.replicate 20 3 ++ List.replicate 19 3
        ∧ (List.replicate 20 (3 : Byte)).length = 20 ∧ (List.replicate 19 (3 : Byte)).length < 20)
      ∧ (entryAt true false (List.replicate 20 3) = some (.suspend 0x03030303) ∧ entryAt true false (List.replicate 20 9) = none)
      ∧ (batching true).commit = none ∧ (batching true).packed = true
      ∧ { batching true with assembler := .waiting [9] false 1 }.assembler = .waiting [9] false 1
      ∧ { batching true with closed := 3 }.closed = (batching true).declared ∧ (batching true).assembler.isWaiting = false := by
  decide

/-! ### Card store and Card Resolver -/

theorem witness_CardRecordsRoundTrip :
    (⟨0xFFFFFFFE, .suspended, 15, 65535, 65535, some 65535, none⟩ : CardRecord).inRange
      ∧ (⟨0, .active, 0, 0, 0, none, some 0⟩ : CardRecord).inRange := by
  refine ⟨⟨by decide, by decide, by decide, ?_, ?_⟩, by decide, by decide, by decide, ?_, ?_⟩ <;> intro d h <;> cases h <;> decide

/-- A bucket full of one record, one of damaged records, and one with none below the occupancy. -/
theorem witness_CardRecords_search :
    (∀ q : Position, q < 0 → ∀ x, some record77 = some x → x.card ≠ 77)
      ∧ (∀ p : Position, p.val < 16 → ∃ r, some neighbour = some r ∧ r.card ≠ 77)
      ∧ ((0 : Position).val < 16 ∧ (∀ q : Position, q < 0 → (none : Option CardRecord) ≠ none)
        ∧ ∀ (q : Position) (r : CardRecord), q.val < 16 → none = some r → r.card ≠ 77) :=
  ⟨fun q h => absurd h (by simp), fun _ _ => ⟨_, rfl, by decide⟩, by decide, fun q h => absurd h (by simp), by simp⟩

theorem witness_TransactionsCompleteOrFaultTheStore :
    (∃ x, writing.arbiter.inFlight = some x ∧ x.op.isWrite = true)
      ∧ (∃ x, reading.arbiter.inFlight = some x ∧ x.op.isWrite = false ∧ ([0, 0xFF] : List Byte).length = x.op.size)
      ∧ writing.memCanonical ∧ reading.memCanonical :=
  ⟨⟨_, rfl, rfl⟩, ⟨_, rfl, rfl, rfl⟩, by decide, by decide⟩

theorem witness_Transactions_fault_alert :
    writing.reserveHolds = true ∧ writing.run = .running ∧ reading.reserveHolds = true := by decide

theorem witness_StartUpReadsTheHeader :
    State.reset.store.headerRead = some (.startUp, 0) ∧ State.reset.arbiter.inFlight = none
      ∧ (encHeader true).length = 8 ∧ ([] : List Byte).length ≠ 8 ∧ (List.replicate 9 (0 : Byte)).length ≠ 8 := by decide

/-- STORE_ATTACH in progress over a memory. -/
def attaching (m : Memory) : State :=
  { live.setPort .office { inProgress := some (0x18, 9) } with store := { headerRead := some (.attach, 0), mem := m } }

theorem witness_StoresAreAttachedAndFormatted :
    (∀ st ∈ [StoreState.absent, .unformatted, .formatting, .online, .faulted], ∀ c ∈ [0x18, 0x19],
      (offering .office c 9 [] { live with store := { online with state := st } }).offers .office (frameOf c 9 []))
      ∧ (∀ m ∈ [[], online.mem], (attaching m).store.headerRead = some (.attach, 0)
        ∧ ((attaching m).port .office).inProgress = some (0x18, 9))
      ∧ headerValid (online.mem.readBytes 0 8) = true ∧ headerValid (Memory.readBytes 0 8 []) = false
      ∧ ({ live with store := online } : State).formatBusy = false ∧ live.arbiter.inFlight = none
      ∧ (let s := { live with store := online, batch := batching true }; s.store.state = .online ∧ s.formatBusy = true)
      ∧ ∀ n ∈ [0, 2047, 2048, 2049],
        let s := { writing with store := { online with state := .formatting, format := some n } };
        (s.arbiter.inFlight.map fun x => (x.requester, x.op.isWrite)) = some (.batch, true) ∧ s.store.format = some n
          ∧ s.store.state = .formatting ∧ s.run = .running := by
  decide

/-- A running state whose port is free offers the frame it is given, whatever its bytes. -/
theorem offering_offers {s : State} {p : Port} (hr : s.run = .running) (hp : (s.port p).inProgress = none)
    (ho : (s.port p).responses.length < Config.responseRoom) (kind : Nat) (tag : Byte) (pl : List Byte) :
    (offering p kind tag pl s).offers p (frameOf kind tag pl) := by
  cases p <;> exact ⟨hr, hp, ho, rfl⟩

theorem witness_CardQueriesAndCacheControl_noCard :
    (offering .service 0x16 9 (u32 noCard.toNat) live).offers .service (frameOf 0x16 9 (u32 noCard.toNat)) :=
  offering_offers rfl rfl (by decide) ..

theorem witness_CrewOpenDecidesTheOpening_noCard :
    let pl := u16 65535 ++ u32 noCard.toNat ++ u8 Fraction.textile.code
    (offering .crew 0x20 9 pl live).offers .crew (frameOf 0x20 9 pl) :=
  offering_offers rfl rfl (by decide) ..

theorem witness_CardQueriesAndCacheControl :
    (∀ n ∈ [(77 : CardNo), 5], ∀ p ∈ [Port.office, .service], (offering p 0x16 9 (u32 n.toNat) sessionExample).offers p (frameOf 0x16 9 (u32 n.toNat)))
      ∧ ((77 : CardNo) ≠ noCard ∧ sessionExample.resolver.queryPort = none ∧ sessionExample.cached 77 = some cachedCard
        ∧ sessionExample.cached 5 = none ∧ sessionExample.store.state = .online
        ∧ sessionExample.busyBucket ≠ some (bucketOf 77) ∧ sessionExample.busyBucket ≠ some (bucketOf 5)
        ∧ sessionExample.resolver.lookups = [] ∧ sessionExample.resolver.refill = none)
      ∧ (live.cached 77 = none ∧ live.store.state ≠ .online ∧ ({ queryPort := some .service } : Resolver).queryPort ≠ none
        ∧ ({ refill := some ⟨none, { card := 5 }⟩ } : Resolver).refill ≠ none)
      ∧ ∀ a ∈ [(0 : Byte), 1, 2, 3, 255], (offering .office 0x17 9 [a] live).offers .office (frameOf 0x17 9 [a]) := by
  refine ⟨fun n _ p _ => by cases p <;> exact offering_offers rfl rfl (by decide) .., ?_, ?_, ?_⟩ <;> decide

/-! ### Crew sessions and lifts -/

/-- Card 77 is a crew card, or not. -/
def crewCard (kind : ProfileKind) (status : CardStatus) : State :=
  let e := { cachedCard with record := { cachedCard.record with status := status } }
  { sessionExample with
    profiles := live.profiles.set 4 { kind := kind }
    resolver := { sets := Vector.set (Vector.replicate 32 ({ } : CacheSet)) (setOf 77) { ways := #v[some e, none, none, none] } } }

theorem witness_CrewOpen_bad_fraction :
    ∀ code ∈ [6, 255], (offering .crew 0x20 9 (u16 65535 ++ u32 (77 : CardNo).toNat ++ u8 code) live).offers .crew
      (frameOf 0x20 9 (u16 65535 ++ u32 (77 : CardNo).toNat ++ u8 code)) :=
  fun _ _ => offering_offers rfl rfl (by decide) ..

/-- A refill for card 77 in flight, of a requester or of none. -/
def refilling (r : Option LookupRequester) (q : Search) (op : StoreOp) (item : List Byte) : State :=
  transacting .refill op item { live.modSlot 4 fun _ => { serving with intake := { state := .verifying 77 } } with
    lift := { opening := some ⟨9, 77, .glass⟩ }
    resolver := { lookups := (r.map fun x => ⟨x, 77⟩).toList, refill := some ⟨r, q⟩, queryPort := some .service } }

theorem witness_CrewOpen_refill_work :
    let b := bucketOf 77
    (∀ r ∈ [none, some (LookupRequester.intake 4), some .crewOpen, some .cardQuery],
      let s := refilling r { card := 77 } (.dirRead b) (encDir 1);
      s.run = .running ∧ s.arbiter.inFlight.map Transaction.requester = some .refill
        ∧ s.resolver.refill = some ⟨r, { card := 77 }⟩ ∧ (∀ l ∈ s.resolver.lookups, some l.requester = r)
        ∧ s.arbiter.refill.waiting = none ∧ s.resolver.queryPort = some .service ∧ s.lift.opening = some ⟨9, 77, .glass⟩
        ∧ (s.slot 4).intake.state = .verifying 77 ∧ handed s = some (.directory (some 1)))
      ∧ { card := 77 : Search }.step (.directory (some 1)) = .read (searchAt 1 0) 0
      ∧ (handed (refilling none (searchAt 1 0) (.recRead b 0) (encRecord record77)) = some (.record 0 (some record77))
        ∧ (searchAt 1 0).step (.record 0 (some record77)) = .ended (.found record77 0 1))
      ∧ (handed (refilling none { card := 77 } (.dirRead b) (encDir 0)) = some (.directory (some 0))
        ∧ { card := 77 : Search }.step (.directory (some 0)) = .ended (.absent 0))
      ∧ (handed (refilling none { card := 77 } (.dirRead b) []) = some (.directory none)
        ∧ { card := 77 : Search }.step (.directory none) = .ended (.damaged 0 none))
      ∧ (refilling none { card := 77 } (.dirRead b) []).resolver.frozen = false := by decide

theorem witness_CrewOpenDecidesTheOpening :
    (∀ n ∈ [(0 : CardNo), 77],
      let pl := u16 65535 ++ u32 n.toNat ++ u8 Fraction.textile.code;
      (offering .crew 0x20 9 pl (crewCard .crew .active)).offers .crew (frameOf 0x20 9 pl)
        ∧ (offering .crew 0x20 9 pl { live with lift := crewed }).offers .crew (frameOf 0x20 9 pl))
      ∧ (crewed.session ≠ none ∧ live.lift.session = none ∧ live.lift.opening = none ∧ live.lift.visit = none)
      ∧ live.chargedSessions + live.inPreparation < live.logFree ∧ live.cached 77 = none ∧ live.store.state ≠ .online
      ∧ (∀ kind ∈ [ProfileKind.crew, .resident], ∀ st ∈ [CardStatus.active, .suspended],
        let s := crewCard kind st;
        (s.cached 77).map (fun e => (e.record.status, s.profiles[e.record.profile].kind)) = some (st, kind)
          ∧ (s.cacheSet 77).find 77 = some 0 ∧ s.busyBucket ≠ some (bucketOf 77) ∧ s.store.state = .online)
      ∧ (let s := { live with store := online }; s.cached 77 = none ∧ s.store.state = .online
        ∧ s.busyBucket ≠ some (bucketOf 77) ∧ s.resolver.lookups = [] ∧ s.resolver.refill = none) := by
  refine ⟨fun n _ => ⟨offering_offers rfl rfl (by decide) .., offering_offers rfl rfl (by decide) ..⟩, ?_, ?_, ?_, ?_, ?_, ?_⟩ <;> decide

theorem witness_full_log :
    let s := { live with log := fullLog }
    s.logFree ≤ s.chargedSessions + s.inPreparation ∧ s.reserveHolds = false := by decide +kernel

/-- The crew session with custody of slot 7 in a state. -/
def custodyAt (x : CustodyState) (orphaned : Bool) : State :=
  { live.setSlot 7 { serving with bars := { lift := true } } with
    lift := { crewed with custody := { state := x, slot := 7, orphaned := orphaned, deadline := some 30000 } } }

/-- A lift that can be measured, and what keeps it from being measured. -/
theorem witness_returned_lifts :
    let s := custodyAt .returned false
    ((s.slot 7).accepted .platform = true ∧ (s.slot 7).bars.flood = false ∧ s.run = .running)
      ∧ (let u := s.modSlot 7 fun x => { x with lines := x.lines.set (pends false 80) .platform };
        (u.slot 7).accepted .platform = false ∧ u.custodyOn 7 = .returned ∧ (u.slot 7).configured = true
          ∧ u.lift.custody.orphaned = false)
      ∧ (let u := s.modSlot 7 fun x => { x with bars := { lift := true, flood := true } };
        (u.slot 7).bars.flood = true ∧ u.custodyOn 7 = .returned ∧ (u.slot 7).configured = true
          ∧ u.lift.custody.orphaned = false) := by decide

theorem witness_CrewCloseCompletesTheVisit :
    (∀ x ∈ [CustodyState.none, .waiting, .granted, .raised, .returned, .closing],
      let s := offering .crew 0x21 9 [] (custodyAt x false);
      s.offers .crew (frameOf 0x21 9 []) ∧ s.lift.session = crewed.session ∧ crewed.session.map CrewSession.closePending = some false
        ∧ s.lift.visit = crewed.visit ∧ crewed.visit.isSome = true ∧ s.lift.custody.state = x ∧ s.lift.custody.orphaned = false
        ∧ (s.slot s.lift.custody.slot).configured = true ∧ (s.slot s.lift.custody.slot).bars.flood = false)
      ∧ (custodyAt .raised true).lift.custody.orphaned = true
      ∧ ((offering .crew 0x24 9 [] live).offers .crew (frameOf 0x24 9 [])
        ∧ (offering .crew 0x21 9 [] live).offers .crew (frameOf 0x21 9 []) ∧ live.lift.session = none) := by decide

theorem witness_CustodyIsGrantedOrWaits :
    (let s := offering .crew 0x22 9 (encSlot 7) ({ live with lift := crewed }.setSlot 7 serving);
      s.offers .crew (frameOf 0x22 9 (encSlot 7)) ∧ s.lift.session.map CrewSession.fraction = some (s.slot 7).record.fraction
        ∧ (s.slot 7).configured = true ∧ s.lift.visit.map Visit.lifted = some [] ∧ (s.slot 7).bars.service = false
        ∧ (s.slot 7).bars.out = false ∧ s.lift.custody.state = .none ∧ s.chargedSessions + s.inPreparation < s.logFree
        ∧ (s.slot 7).intake.state.busy = false)
      ∧ ((IntakeState.opened session).busy = true ∧ caseRecord.fraction ≠ .glass ∧ (live.slot 7).configured = false
        ∧ (custodyAt .closing false).lift.custody.state ≠ .none)
      ∧ (7 : Slot) ∈ ({ truck := 9, card := 6, openTime := none, lifted := [3, 7] } : Visit).lifted
      ∧ ∀ n ∈ [8, 255], (offering .crew 0x22 9 (u8 n) { live with lift := crewed }).offers .crew (frameOf 0x22 9 (u8 n))
        ∧ (offering .crew 0x22 9 (u8 n) live).offers .crew (frameOf 0x22 9 (u8 n)) := by decide

theorem witness_CustodyReleaseFollowsTheState :
    (∀ x ∈ [CustodyState.none, .waiting, .granted, .raised, .returned, .closing],
      let s := offering .crew 0x23 9 (encSlot 7) (custodyAt x false);
      s.offers .crew (frameOf 0x23 9 (encSlot 7)) ∧ s.lift.session ≠ none ∧ s.lift.custody.orphaned = false ∧ s.custodyOn 7 = x
        ∧ (s.slot 7).configured = true ∧ (s.slot 7).bars.flood = false)
      ∧ (custodyAt .raised true).lift.custody.orphaned = true
      ∧ ((offering .crew 0x23 9 (encSlot 7) live).offers .crew (frameOf 0x23 9 (encSlot 7)) ∧ live.lift.session = none)
      ∧ ∀ n ∈ [8, 255], (offering .crew 0x23 9 (u8 n) (custodyAt .raised false)).offers .crew (frameOf 0x23 9 (u8 n))
        ∧ (offering .crew 0x23 9 (u8 n) live).offers .crew (frameOf 0x23 9 (u8 n)) := by decide

theorem witness_CustodyTimersAct :
    (∀ x ∈ [CustodyState.waiting, .granted, .raised], (custodyAt x false).lift.custody.deadline = some 30000
        ∧ (custodyAt x false).lift.custody.state = x
        ∧ ((custodyAt x false).slot (custodyAt x false).lift.custody.slot).configured = true)
      ∧ (∀ b : Bool,
        let s := (custodyAt .waiting false).modSlot 7 fun u => { u with
          intake := { state := .opened session }, track := { drum := if b then .atHome else .turning } };
        (s.slot s.lift.custody.slot).intake.state = .opened session ∧ (s.slot s.lift.custody.slot).drumHome = b
          ∧ (s.slot s.lift.custody.slot).bars.out = false ∧ session.charged = true)
      ∧ (custodyAt .raised false).reserveHolds = true
      ∧ (∀ x ∈ [IntakeState.barred, .verifying 77, .opened session, .closing session .idle], ∀ out : Bool,
        let s := (custodyAt .waiting false).modSlot 7 fun u => { u with
          record := { u.record with readerEnable := true }, bars := { lift := true, out := out }, intake := { state := x } };
        s.lift.custody.state = .waiting ∧ s.lift.custody.slot = 7 ∧ s.lift.custody.deadline = some 30000
          ∧ (s.slot 7).intake.state = x ∧ (s.slot 7).bars.out = out ∧ (s.slot 7).inRotation = true
          ∧ s.run = .running ∧ s.lift.session.isSome = true) := by decide

theorem witness_LinkLossEndsTheSession :
    (∀ x ∈ [CustodyState.none, .waiting, .granted, .raised, .returned, .closing],
      let s := custodyAt x false
      s.lift.linkDeadline = some 120000 ∧ s.lift.visit = crewed.visit ∧ crewed.visit.isSome = true
        ∧ s.lift.custody.orphaned = false ∧ s.lift.custody.state = x
        ∧ (s.slot s.lift.custody.slot).configured = true ∧ (s.slot s.lift.custody.slot).bars.flood = false)
      ∧ ∀ x ∈ [CustodyState.raised, .closing],
        let s := custodyAt x true
        s.lift.linkDeadline = some 120000 ∧ s.lift.visit.isSome = true ∧ s.lift.custody.orphaned = true := by decide

/-! ### Service -/

theorem witness_ServiceHoldsAndReleases :
    ∀ c ∈ [0x28, 0x29],
      ((offering .service c 9 (encSlot 7) live).offers .service (frameOf c 9 (encSlot 7)) ∧ (live.slot 7).configured = false)
        ∧ (offering .service c 9 (encSlot 7) (live.setSlot 7 serving)).offers .service (frameOf c 9 (encSlot 7))
        ∧ ((live.setSlot 7 serving).slot 7).configured = true ∧ (live.setSlot 7 serving).custodyOn 7 = .none
        ∧ (custodyAt .raised true).custodyOn 7 ≠ .none
        ∧ ∀ n ∈ [8, 255], (offering .service c 9 (u8 n) live).offers .service (frameOf c 9 (u8 n)) := by decide

theorem witness_ServiceHolds_bars :
    let s := live.setSlot 7 serving
    (∀ b ∈ [Bar.full, .out, .lift], (s.slot 7).configured = true ∧ (s.slot 7).bars.has b = !true ∧ (s.slot 7).bars.has b = false)
      ∧ (live.slot 7).configured = false ∧ (s.slot 7).bars.service = false ∧ (s.slot 7).intake.state.isOpen = false := by decide

/-- Slot 7 under SERVICE, a release test on it or none. -/
def serviced (x : Option (ReleaseTest × Nat)) : State :=
  live.setSlot 7 { serving with bars := { service := true }, intake := { state := .barred }, locks := { test := x } }

theorem witness_OutputTestsReleaseAndEngage :
    (∀ x ∈ [none, some (ReleaseTest.drum, 30000), some (.hatch, 1000)], ∀ kind ∈ [(0 : Byte), 1, 2],
      let s := offering .service 0x2A 9 (encSlot 7 ++ [kind, 3]) (serviced x);
      s.offers .service (frameOf 0x2A 9 (encSlot 7 ++ [kind, 3])) ∧ (s.slot 7).configured = true
        ∧ (s.slot 7).bars.service = true ∧ (s.slot 7).intake.state.busy = false ∧ (s.slot 7).locks.test = x
        ∧ (s.slot 7).accepted .platform = true)
      ∧ (((serviced none).setSlot 7 {}).slot 7).accepted .platform = false ∧ TonePattern.ofCode (3 : Byte).toNat = some .fault
      ∧ (live.slot 7).bars.service = false := by decide

theorem witness_OutputTests_refused :
    (∀ pl ∈ ([[8, 0, 1], [255, 1, 1], [8, 2, 3], [0, 3, 1], [9, 255, 1], [0, 2, 4], [0, 2, 255]] : List (List Byte)),
      (offering .service 0x2A 9 pl live).offers .service (frameOf 0x2A 9 pl))
      ∧ (∀ kind ∈ [(0 : Byte), 1, 2], ∀ x ∈ [IntakeState.verifying 77, .opened session, .closing session .drumFault],
        let s := offering .service 0x2A 9 (encSlot 7 ++ [kind, 3]) ((serviced none).modSlot 7 fun u => { u with intake := { state := x } });
        s.offers .service (frameOf 0x2A 9 (encSlot 7 ++ [kind, 3])) ∧ (s.slot 7).configured = true
          ∧ (s.slot 7).bars.service = true ∧ (s.slot 7).intake.state.busy = true)
      ∧ ∀ kind ∈ [(0 : Byte), 1, 2], ∀ u ∈ [({} : SlotUnit), serving],
        let s := offering .service 0x2A 9 (encSlot 7 ++ [kind, 3]) (live.setSlot 7 u);
        s.offers .service (frameOf 0x2A 9 (encSlot 7 ++ [kind, 3]))
          ∧ ((s.slot 7).configured = false ∨ (s.slot 7).bars.service = false) := by decide

end Sys2Proof.Machine.Tests
end

section
/-! SUPPORT. The invariants of the tables and of the slot ranges: which commands change the tables (O4), the ranges of slot
and fill records (O8), and the machine right after reset (O12). -/

namespace Sys2Proof.Machine

/-! ## Properties that look neither at the ports nor at the clock -/

/-- A property that looks neither at the ports, nor at the demand queue, nor at the clock is kept by every way in which a
command takes, answers, writes or reads a frame. -/
def Serves.ofQuiet (I : Kept) (hports : ∀ {s : State} (q : Ports), I.P s → I.P { s with ports := q })
    (hdemand : ∀ {s : State} (q : List DemandEntry), I.P s → I.P { s with demand := q })
    (hclock : ∀ {s : State} (c : Clock), I.P s → I.P { s with clock := c }) : Serves I where
  pre _ := Kept.top
  pop _ _ _ _ h := ⟨hports _ h, trivial⟩
  answer _ _ _ h := hports _ h.1
  write _ _ h := by
    unfold State.frameWrite
    dsimp only
    split
    · exact h
    · split <;> exact hports _ h
  read _ _ h := by
    unfold State.frameRead
    split
    · exact h
    · exact hports _ h
  announceAll h := hdemand _ h
  clock c _ h := hclock c h
  clockPre _ _ _ := trivial

/-! ## The tables (R1, R3, R7 to R11, R69, R87) -/

/-- The tables of t are those of s, but for the one that the command i may carry. -/
def tablesKeptBy (i : Instr) (s t : State) : Prop :=
  ((∀ p, i ≠ .stationConfig p) → t.config = s.config)
    ∧ ((∀ p, i ≠ .profileWrite p) → t.profiles = s.profiles)
    ∧ ((∀ p, i ≠ .hoursWrite p) → t.hours = s.hours)
    ∧ ((∀ p, i ≠ .toneWrite p) → t.tones = s.tones)
    ∧ ((∀ p, i ≠ .slotConfig p) → (∀ p, i ≠ .slotRemove p) →
        ∀ k, (t.slot k).configured = (s.slot k).configured ∧ (t.slot k).record = (s.slot k).record)
    ∧ ((∀ p, i ≠ .cacheNormal p) → (∀ p, i ≠ .cacheFrozen p) → t.resolver.frozen = s.resolver.frozen)

/-- The tables do not depend on anything else that a shared operation changes. -/
theorem tablesKeptBy.congr {i : Instr} {s t u : State} (h : tablesKeptBy i s t) (hc : u.config = t.config)
    (hp : u.profiles = t.profiles) (hh : u.hours = t.hours) (ht : u.tones = t.tones) (hs : u.slots = t.slots)
    (hf : u.resolver.frozen = t.resolver.frozen) : tablesKeptBy i s u := by
  have hslot (k : Slot) : u.slot k = t.slot k := State.slot_congr hs k
  unfold tablesKeptBy at h ⊢
  simpa only [hc, hp, hh, ht, hf, hslot] using h

/-- A change of one slot that leaves its slot state and record leaves the tables. -/
theorem tablesKeptBy.modSlot {i : Instr} {s t : State} {k : Slot} {f : SlotUnit → SlotUnit}
    (hf : (f (t.slot k)).record = (t.slot k).record ∧ (f (t.slot k)).configured = (t.slot k).configured)
    (h : tablesKeptBy i s t) : tablesKeptBy i s (t.modSlot k f) := by
  obtain ⟨hc, hp, hh, ht, hs, hz⟩ := h
  refine ⟨hc, hp, hh, ht, fun h1 h2 j => ?_, hz⟩
  rw [State.slot_modSlot]
  split
  · next e => subst e; rw [hf.1, hf.2]; exact hs h1 h2 j
  · exact hs h1 h2 j

/-- The tables of s are kept, but for the one that i carries: every shared operation keeps this. -/
def Kept.tables (i : Instr) (s : State) : Kept where
  P := tablesKeptBy i s
  memOk := True
  frame e h := h.congr e.config e.profiles e.hours e.tones e.slots e.frozen
  elapse _ h := h
  slot _ _ hf _ h := h.modSlot hf
  notify _ _ _ h := h.congr (by simp) (by simp) (by simp) (by simp) (by simp) (by simp)
  mem _ _ _ _ h := h
  raise _ _ h := h
  rehf _ _ _ _ h := h
  mark _ _ _ h := h
  unraise _ h := h
  enqueue _ _ _ h := h
  dequeue _ h := h
  chargeIn _ h := h
  chargeOut _ h := h
  chargesOut h := h
  starve _ _ h := h
  append _ h := h

def Serves.tables (i : Instr) (s : State) : Serves (Kept.tables i s) :=
  .ofQuiet _ (fun _ h => h) (fun _ h => h) (fun _ h => h)

/-- Each command but a reset changes no table but its own. -/
theorem Serves.tables_admits {i : Instr} (s : State) (hi : ¬ resets i) : (Serves.tables i s).admits i := by
  cases i
  case stationConfig p => exact fun _ h => ⟨⟨fun hn => absurd rfl (hn p), h.1.2⟩, trivial⟩
  case profileWrite p =>
    exact fun _ ⟨⟨hc, _, h⟩, _⟩ => ⟨⟨hc, fun hn => absurd rfl (hn p), h⟩, trivial⟩
  case hoursWrite p =>
    exact fun _ ⟨⟨hc, hp, _, h⟩, _⟩ => ⟨⟨hc, hp, fun hn => absurd rfl (hn p), h⟩, trivial⟩
  case toneWrite p =>
    exact fun _ ⟨⟨hc, hp, hh, _, h⟩, _⟩ => ⟨⟨hc, hp, hh, fun hn => absurd rfl (hn p), h⟩, trivial⟩
  case slotConfig p =>
    exact fun _ _ _ ⟨⟨hc, hp, hh, ht, _, h⟩, _⟩ => ⟨⟨hc, hp, hh, ht, fun hn => absurd rfl (hn p), h⟩, trivial⟩
  case slotRemove p =>
    exact fun _ _ _ ⟨⟨hc, hp, hh, ht, _, h⟩, _⟩ => ⟨⟨hc, hp, hh, ht, fun _ hn => absurd rfl (hn p), h⟩, trivial⟩
  case cacheNormal p =>
    exact fun _ ⟨⟨hc, hp, hh, ht, hs, _⟩, _⟩ => ⟨⟨hc, hp, hh, ht, hs, fun hn => absurd rfl (hn p)⟩, trivial⟩
  case cacheFrozen p =>
    exact fun _ ⟨⟨hc, hp, hh, ht, hs, _⟩, _⟩ => ⟨⟨hc, hp, hh, ht, hs, fun _ hn => absurd rfl (hn p)⟩, trivial⟩
  case timeSet => exact fun _ h => h
  case logRelease => exact fun _ _ h => h
  case storeAttach => exact fun h => h.1
  case restart p => exact absurd (.inl ⟨p, rfl⟩) hi
  case powerOn b => exact absurd (.inr (.inl ⟨b, rfl⟩)) hi
  case resetLine => exact absurd (.inr (.inr (.inl rfl))) hi
  case mainSupplyLoss => exact absurd (.inr (.inr (.inr rfl))) hi
  case transactionComplete => trivial
  case transactionTimeout => exact ⟨trivial, fun _ _ h => h, fun _ _ h => ⟨h, trivial⟩⟩
  case headerReadComplete => exact ⟨trivial, fun _ _ h => h, fun _ _ h => ⟨h, trivial⟩⟩
  all_goals trivial

/-- Settles O4: the tables are a property that every command keeps but the one that carries the table. -/
theorem onlyTheirRequestsChangeTheTables : Obligations.OnlyTheirRequestsChangeTheTables := by
  intro i s t hx hi
  have h0 : (Kept.tables i s).holds s :=
    ⟨fun _ => rfl, fun _ => rfl, fun _ => rfl, fun _ => rfl, fun _ _ _ => ⟨rfl, rfl⟩, fun _ _ => rfl⟩
  exact (Serves.tables i s).exec (Serves.tables_admits s hi) h0 hx

/-! ## The ranges of slot and fill records (R1, R2, R39) -/

/-- A slot with the reset values of its record and fill is in range (R1, R39). -/
theorem SlotUnit.inRange_default {u : SlotUnit} (hr : u.record = {}) (hf : u.fill = {}) : u.inRange := by
  unfold SlotUnit.inRange
  rw [hr, hf]
  decide

/-- Slots that a reset leaves are in range, whatever state they had (R185). -/
theorem State.slotsInRange_of_afterReset {s t : State} (h : t.slots = s.slots.map SlotUnit.afterReset) :
    t.slotsInRange := by
  intro k
  have hk : t.slot k = (s.slot k).afterReset := by simp [State.slot, h]
  rw [hk]
  exact SlotUnit.inRange_default rfl rfl

/-- A change of one slot that keeps its ranges keeps those of all. -/
theorem State.slotsInRange_modSlot {s : State} {k : Slot} {f : SlotUnit → SlotUnit}
    (hf : (s.slot k).inRange → (f (s.slot k)).inRange) (h : s.slotsInRange) : (s.modSlot k f).slotsInRange := by
  intro j
  rw [State.slot_modSlot]
  split
  · next e => subst e; exact hf (h j)
  · exact h j

theorem State.slotsInRange_congr {s t : State} (e : t.slots = s.slots) (h : s.slotsInRange) : t.slotsInRange :=
  fun k => State.slot_congr e k ▸ h k

/-- Every slot is in range: every shared operation keeps this. -/
def Kept.ranges : Kept where
  P s := s.slotsInRange
  memOk := True
  frame e h := State.slotsInRange_congr e.slots h
  elapse _ h := h
  slot _ _ _ hf h := State.slotsInRange_modSlot hf h
  notify _ _ _ h := State.slotsInRange_congr (by simp) h
  mem _ _ _ _ h := h
  raise _ _ h := h
  rehf _ _ _ _ h := h
  mark _ _ _ h := h
  unraise _ h := h
  enqueue _ _ _ h := h
  dequeue _ h := h
  chargeIn _ h := h
  chargeOut _ h := h
  chargesOut h := h
  starve _ _ h := h
  append _ h := h

def Serves.ranges : Serves Kept.ranges := .ofQuiet _ (fun _ h => h) (fun _ h => h) (fun _ h => h)

/-- A write that is cut off leaves the slots. -/
@[simp] theorem State.cutOff_slots (s : State) : s.cutOff.slots = s.slots := by
  unfold State.cutOff State.cutOffItem
  split
  · split <;> rfl
  · rfl

/-- Every command admits the ranges: the requests of the tables write clamped records, and a reset default ones. -/
theorem Serves.ranges_admits (i : Instr) : Serves.ranges.admits i := by
  have reset (r : ResetKind) (c : Clock → Clock) (s : State) : (s.takeReset r c).slotsInRange :=
    State.slotsInRange_of_afterReset (s := s.cutOff) rfl
  cases i
  case stationConfig => exact fun {_} _ h => h
  case profileWrite => exact fun {_} _ h => h
  case hoursWrite => exact fun {_} _ h => h
  case toneWrite => exact fun {_} _ h => h
  case timeSet => exact fun {_} _ h => h
  case slotConfig => exact fun {_} _ _ hf h => ⟨State.slotsInRange_modSlot hf h.1, trivial⟩
  case slotRemove => exact fun {_} _ _ hf h => ⟨State.slotsInRange_modSlot hf h.1, trivial⟩
  case logRelease => exact fun {_} _ _ h => h
  case cacheNormal => exact fun {_} _ h => h
  case cacheFrozen => exact fun {_} _ h => h
  case storeAttach => exact fun {_} h => h.1
  case restart => exact fun {_} _ _ _ _ => reset _ _ _
  case powerOn => exact fun {_} _ _ _ _ => reset _ _ _
  case resetLine => exact fun {_} _ _ _ _ => reset _ _ _
  case mainSupplyLoss => exact fun {s} _ => State.slotsInRange_of_afterReset (s := s.cutOff) rfl
  case transactionComplete => trivial
  case transactionTimeout => exact ⟨trivial, fun _ _ h => h, fun _ _ h => ⟨h, trivial⟩⟩
  case headerReadComplete => exact ⟨trivial, fun _ _ h => h, fun _ _ h => ⟨h, trivial⟩⟩
  all_goals trivial

/-- Settles O8: the ranges are a property that every command keeps, and so every step. -/
theorem stepsKeepTheSlotsInRange : Obligations.StepsKeepTheSlotsInRange :=
  fun _ _ h hx => Serves.ranges.step Serves.ranges_admits (fun _ h => h) h hx

/-! ## The machine right after reset (R1, R39, R177, R185) -/

/-- Every slot right after reset holds what an unconfigured slot of a pit at rest holds. -/
@[simp] theorem State.reset_slot (k : Slot) : State.reset.slot k = { lines := restLines } := by
  simp [State.slot, State.reset]

@[simp] theorem State.reset_port (p : Port) : State.reset.port p = {} := by cases p <;> rfl

/-- Right after reset no custody stands. -/
@[simp] theorem State.reset_custodyOn (k : Slot) : State.reset.custodyOn k = .none := by
  unfold State.custodyOn
  split <;> rfl

theorem State.reset_portsWithinCapacity : State.reset.portsWithinCapacity := by
  constructor
  · intro p
    rw [State.reset_port]
    decide
  · intro h
    simp [State.reset] at h

theorem State.reset_locksSafe : State.reset.locksSafe := by
  intro k
  rw [State.locksCommanded, State.releasesApart]
  simp [State.hatchFree, BarSet.isEmpty]

/-- Settles O12: the lists are empty, the counts 0, the records and fills at their reset values. -/
theorem resetMeetsEveryInvariant : Obligations.ResetMeetsEveryInvariant := by
  have slots : State.reset.slotsInRange := fun k => SlotUnit.inRange_default (by simp) (by simp)
  have numbered : State.reset.logNumbered := ⟨0, rfl, rfl⟩
  have room : State.reset.logHasRoom := by decide
  have charges : State.reset.chargesDistinct := ⟨List.nodup_nil, fun _ h => absurd h List.not_mem_nil⟩
  exact ⟨rfl, State.reset_portsWithinCapacity, slots, by decide, by decide, numbered, charges, by decide, room,
    State.reset_locksSafe⟩

end Sys2Proof.Machine
end

section
/-! SUPPORT. The resets (O13): what each leaves of the state. -/

namespace Sys2Proof.Machine

/-! ## Resets and the loss of supply (R118, R185, R186) -/

/-- Without a write in flight nothing is cut off. -/
theorem State.cutOff_of_noWrite {s : State} (h : ∀ x ∈ s.arbiter.inFlight, x.op.isWrite = false) : s.cutOff = s := by
  unfold State.cutOff
  split
  · next x e => simp [State.cutOffItem, h x e]
  · rfl

theorem State.takeReset_of_noWrite {s : State} (h : ∀ x ∈ s.arbiter.inFlight, x.op.isWrite = false) (r : ResetKind)
    (c : Clock → Clock) : s.takeReset r c = resetFrom s r (c s.clock) := by
  unfold State.takeReset
  rw [State.cutOff_of_noWrite h]
  rfl

theorem State.loseSupply_of_noWrite {s : State} (h : ∀ x ∈ s.arbiter.inFlight, x.op.isWrite = false) :
    s.loseSupply = { resetFrom s s.resetKind s.clock with run := .off, store := { mem := s.store.mem } } := by
  unfold State.loseSupply
  rw [State.cutOff_of_noWrite h]
  rfl

/-- Settles O13. -/
theorem resetsReturnEveryRegister : Obligations.ResetsReturnEveryRegister := by
  intro s h
  have reset := State.takeReset_of_noWrite h
  refine ⟨?_, ?_, fun hr => ?_, fun tag ho => ?_, fun hr => ?_, fun hr => ?_⟩
  · exact congrArg _ (reset ..)
  · exact congrArg _ (reset ..)
  · exact congrArg _ ((if_neg hr).trans (reset ..))
  · refine congrArg _ ((State.takeKind_offers _ ho (by simp) rfl (by decide) (by decide) rfl rfl).trans ?_)
    exact State.takeReset_of_noWrite (s := s.popRequest .office _) h .restart Clock.afterReset
  · exact congrArg _ ((if_neg hr).trans (State.loseSupply_of_noWrite h))
  · exact ⟨congrArg _ (if_pos hr), congrArg _ (if_pos hr)⟩

end Sys2Proof.Machine
end

section
/-! SUPPORT. What the fields of a payload read back as (R187), the queries (O18) and the writes of the profile, hours and
tone tables (O20). -/

namespace Sys2Proof.Machine

/-! ## Fields read back (R187) -/

@[simp] theorem byteAt_cons_zero (b : Byte) (bs : List Byte) : byteAt (b :: bs) 0 = b.toNat := rfl
@[simp] theorem byteAt_cons_succ (b : Byte) (bs : List Byte) (i : Nat) : byteAt (b :: bs) (i + 1) = byteAt bs i := rfl

@[simp] theorem slotAt_encSlot (k : Slot) (bs : List Byte) : slotAt (encSlot k ++ bs) 0 = some k := by
  have hk : byteAt (encSlot k ++ bs) 0 = k.val := by
    show (BitVec.ofNat 8 k.val).toNat = k.val
    simp; omega
  simp [slotAt, hk]

/-- No slot has a number above 7 (R2). -/
theorem slotAt_none {bs : List Byte} (h : 8 ≤ byteAt bs 0) : slotAt bs 0 = none := dif_neg (by omega)

/-- A number in two bytes, most significant first, reads back. -/
theorem u16_bytes {n : Nat} (h : n < 65536) : n / 256 % 256 * 256 + n % 256 = n := by omega

theorem byteAt_u8 {n : Nat} (h : n < 256) : byteAt (u8 n) 0 = n := by simp [u8]; omega

/-! ## Taking a request leaves the state (R179) -/

@[simp] theorem State.restartLink_office (s : State) : s.restartLink .office = s := rfl
@[simp] theorem State.restartLink_service (s : State) : s.restartLink .service = s := rfl

theorem State.restartLink_of_ne_crew (s : State) {p : Port} (h : p ≠ .crew) : s.restartLink p = s := by
  cases p
  case crew => exact absurd rfl h
  all_goals rfl

/-- The taking of a request changes its port, and at CREW the link timer (R141, R179). -/
theorem State.popRequest_frame (s : State) (p : Port) (f : List Byte) :
    s.popRequest p f = { s with
      ports := (s.popRequest p f).ports
      lift := { s.lift with linkDeadline := (s.popRequest p f).lift.linkDeadline } } := by
  unfold State.popRequest State.restartLink
  cases p
  case crew =>
    dsimp only
    split
    · split <;> rfl
    · rfl
  all_goals rfl

/-! ## Queries (R17, R121) -/

/-- The taking of the request does not show in what a query reports. -/
theorem statusPayload_popRequest (s : State) (p : Port) (f : List Byte) :
    statusPayload (s.popRequest p f) = statusPayload s := by
  rw [s.popRequest_frame]; rfl

theorem slotPayload_popRequest (s : State) (p : Port) (f : List Byte) (k : Slot) :
    slotPayload (s.popRequest p f) k = slotPayload s k := by
  rw [s.popRequest_frame]; rfl

theorem timePayload_popRequest (s : State) (p : Port) (f : List Byte) : timePayload (s.popRequest p f) = timePayload s := by
  rw [s.popRequest_frame]; rfl

variable {s : State} {p : Port} {tag : Byte}

theorem exec_stationStatus (h : s.offers p (frameOf 0x01 tag [])) :
    exec (.stationStatus p) s = .next ((s.restartLink p).answered1 p 0x01 tag .ok (statusPayload s)) := by
  refine congrArg _ ((State.takeKind_offers _ h (by simp) rfl (by decide) (by decide) rfl rfl).trans ?_)
  exact (State.answer_popRequest 0x01 tag [] _ .ok).trans (by rw [statusPayload_popRequest])

theorem exec_slotQuery {pl : List Byte} (hl : pl.length = 1) (h : s.offers p (frameOf 0x02 tag pl)) :
    exec (.slotQuery p) s = .next (match slotAt pl 0 with
      | some k => (s.restartLink p).answered1 p 0x02 tag .ok (slotPayload s k)
      | none => (s.restartLink p).answered1 p 0x02 tag .badField []) := by
  refine congrArg _ ((State.takeKind_offers _ h (by omega) rfl (by decide) (by decide) rfl (by simp [hl, RequestKind.admits])).trans ?_)
  unfold State.slotQuery Taken.slot
  cases slotAt pl 0 with
  | some k => exact (State.answer_popRequest ..).trans (by rw [slotPayload_popRequest])
  | none => exact State.refuse_popRequest ..

theorem exec_timeQuery (hp : p ≠ .crew) (h : s.offers p (frameOf 0x0A tag [])) :
    exec (.timeQuery p) s = .next (s.answered1 p 0x0A tag .ok (timePayload s)) := by
  have permitted : RequestKind.timeQuery.permitted p = true := by simpa [RequestKind.permitted] using hp
  refine congrArg _ ((State.takeKind_offers _ h (by simp) rfl (by decide) (by decide) permitted rfl).trans ?_)
  exact (State.answer_popRequest ..).trans (by rw [timePayload_popRequest, s.restartLink_of_ne_crew hp])

/-- Settles O18. -/
theorem queriesReportTheState : Obligations.QueriesReportTheState := by
  intro s p tag
  refine ⟨exec_stationStatus, fun k h => ?_, fun n h8 hn h => ?_, fun hp h => ?_⟩
  · rw [exec_slotQuery rfl h, ← List.append_nil (encSlot k), slotAt_encSlot]
    rfl
  · rw [exec_slotQuery rfl h, slotAt_none (by rwa [byteAt_u8 hn])]
  · simpa [timePayload, clockFields, dayNumber, weekday, minuteOfDay, secondOfDay, List.append_assoc] using exec_timeQuery hp h

/-! ## Marks of a rights map (R9, R187) -/

/-- Bit i of a number built from marks, mark 0 in bit 0, is mark i. -/
theorem testBit_foldr_marks (ms : List Bool) (i : Nat) :
    (ms.foldr (fun (m : Bool) n => (if m then 1 else 0) + 2 * n) 0).testBit i = ms.getD i false := by
  induction ms generalizing i with
  | nil => simp
  | cons m ms ih =>
    cases i with
    | zero => cases m <;> simp [Nat.testBit_zero, Nat.add_mod]
    | succ i =>
      rw [Nat.testBit_succ, List.getD_cons_succ, ← ih i, List.foldr_cons]
      congr 1
      cases m <;> simp; omega

theorem getLsbD_encMarkByte (ms : List Bool) {i : Nat} (h : i < 8) : (encMarkByte ms).getLsbD i = ms.getD i false := by
  rw [← testBit_foldr_marks ms i, encMarkByte, BitVec.getLsbD_ofNat]
  simp [h]

/-- The marks sent in bytes behind other bytes read back. -/
theorem markAt_encMarks (pre : List Byte) (fuel : Nat) (ms : List Bool) {i : Nat} (hi : i < ms.length)
    (hf : ms.length ≤ 8 * fuel) : markAt (pre ++ encMarks fuel ms) pre.length i = ms.getD i false := by
  induction fuel generalizing pre ms i with
  | zero => omega
  | succ fuel ih =>
    cases ms with
    | nil => simp at hi
    | cons m ms =>
      rw [encMarks]
      by_cases h8 : i < 8
      · have hd : i / 8 = 0 := by omega
        have hm : i % 8 = i := by omega
        simp only [markAt, hd, hm, Nat.add_zero, List.getD_eq_getElem?_getD, List.getElem?_append_right (Nat.le_refl _),
          Nat.sub_self, List.getElem?_cons_zero, Option.getD_some]
        rw [getLsbD_encMarkByte _ h8, List.getD_eq_getElem?_getD, List.getElem?_take_of_lt h8]
      · have h := ih (pre ++ [encMarkByte ((m :: ms).take 8)]) ((m :: ms).drop 8) (i := i - 8)
          (by rw [List.length_drop]; omega) (by rw [List.length_drop]; omega)
        have hd : pre.length + 1 + (i - 8) / 8 = pre.length + i / 8 := by omega
        have hm : (i - 8) % 8 = i % 8 := by omega
        have hg : ((m :: ms).drop 8).getD (i - 8) false = (m :: ms).getD i false := by
          rw [List.getD_eq_getElem?_getD, List.getElem?_drop, List.getD_eq_getElem?_getD]
          congr 2
          omega
        rw [← hg, ← h]
        simp only [markAt, List.length_append, List.length_singleton, hd, hm, List.append_assoc, List.singleton_append]

theorem marksAt_encMarks (pre : List Byte) {ms : List Bool} (h : ms.length ≤ 64) :
    marksAt (pre ++ encMarks 8 ms) pre.length ms.length = ms := by
  refine List.ext_getElem (by simp [marksAt]) fun i hi hi' => ?_
  simp only [marksAt, List.getElem_map, List.getElem_range]
  rw [markAt_encMarks pre 8 ms hi' h, List.getD_eq_getElem?_getD, List.getElem?_eq_getElem hi', Option.getD_some]

theorem encMarks_length (fuel : Nat) (ms : List Bool) (h : ms.length ≤ 8 * fuel) :
    (encMarks fuel ms).length = (ms.length + 7) / 8 := by
  induction fuel generalizing ms with
  | zero => simp [encMarks]; omega
  | succ fuel ih =>
    cases ms with
    | nil => simp [encMarks]
    | cons m ms =>
      rw [encMarks, List.length_cons, ih _ (by rw [List.length_drop]; omega), List.length_drop]
      have cons : (m :: ms).length = ms.length + 1 := rfl
      omega

/-! ## PROFILE_WRITE, HOURS_WRITE, TONE_WRITE (R9 to R11) -/

variable {pl : List Byte}

@[simp] theorem ProfileKind.ofCode_code (x : ProfileKind) : ProfileKind.ofCode x.code = some x := by cases x <;> rfl

theorem ProfileKind.ofCode_none {n : Nat} (h : 2 ≤ n) : ProfileKind.ofCode n = none := by
  unfold ProfileKind.ofCode
  split <;> first | omega | rfl

theorem ProfileKind.lt_of_ofCode {n : Nat} {x : ProfileKind} (h : ProfileKind.ofCode n = some x) : n < 2 := by
  by_contra hn
  simp [ProfileKind.ofCode_none (Nat.not_lt.mp hn)] at h

theorem ProfileKind.ofCode_some {n : Nat} (h : n < 2) : ∃ x, ProfileKind.ofCode n = some x := by
  obtain rfl | rfl : n = 0 ∨ n = 1 := by omega
  · exact ⟨.resident, rfl⟩
  · exact ⟨.crew, rfl⟩

/-- A number or a kind that names none is refused, ahead of the length (R9, log entry 21). -/
theorem State.profileWrite_badField {t : Taken} (h : 16 ≤ byteAt t.payload 0 ∨ 2 ≤ byteAt t.payload 1) :
    s.profileWrite t = s.refuse t .badField := by
  unfold State.profileWrite
  split
  · rfl
  · next hk =>
    have := ProfileKind.lt_of_ofCode hk
    exact dif_neg (by omega)

/-- Fewer mark bytes than the declared map length needs (R9, R187). -/
theorem State.profileWrite_badLength {t : Taken} (hn : byteAt t.payload 0 < 16) (hk : byteAt t.payload 1 < 2)
    (hm : t.payload.length < 6 + markBytes (byteAt t.payload 2)) : s.profileWrite t = s.refuse t .badLength := by
  obtain ⟨kind, hk⟩ := ProfileKind.ofCode_some hk
  unfold State.profileWrite
  simp only [hk, hn, ↓reduceDIte, hm, ↓reduceIte]

/-- A good number and kind, with the mark bytes that the map length needs: the entry is stored (R9). -/
theorem State.profileWrite_stores {t : Taken} (n : Fin 16) {kind : ProfileKind} (hn : byteAt t.payload 0 = n.val)
    (hk : byteAt t.payload 1 = kind.code) (hm : 6 + markBytes (byteAt t.payload 2) ≤ t.payload.length) :
    s.profileWrite t = ({ s with profiles := s.profiles.set n (profileAt t.payload kind) }).answer t .ok
      (encProfile (profileAt t.payload kind)) := by
  unfold State.profileWrite
  simp only [hk, ProfileKind.ofCode_code, hn, n.isLt, ↓reduceDIte, if_neg (Nat.not_lt.mpr hm)]

/-- A PROFILE_WRITE whose payload holds the fixed fields reaches the rule of R9. -/
theorem exec_profileWrite (h6 : 6 ≤ pl.length) (hl : pl.length ≤ 61) (h : s.offers .office (frameOf 0x06 tag pl)) :
    exec (.profileWrite .office) s = .next ((s.popRequest .office (frameOf 0x06 tag pl)).profileWrite
      { port := .office, kind := BitVec.ofNat 8 0x06, tag := tag, payload := pl }) :=
  congrArg _ (State.takeKind_offers _ h hl rfl (by decide) (by decide) rfl (by simpa [RequestKind.admits] using h6))

theorem exec_profileWrite_stores (n : Fin 16) {kind : ProfileKind} (hn : byteAt pl 0 = n.val) (hk : byteAt pl 1 = kind.code)
    (hm : 6 + markBytes (byteAt pl 2) ≤ pl.length) (hl : pl.length ≤ 61) (h : s.offers .office (frameOf 0x06 tag pl)) :
    exec (.profileWrite .office) s = .next (({ s with profiles := s.profiles.set n (profileAt pl kind) }).answered1 .office
      0x06 tag .ok (encProfile (profileAt pl kind))) :=
  (exec_profileWrite (by omega) hl h).trans (congrArg _ ((State.profileWrite_stores n hn hk hm).trans
    (State.answer_popRequest (s := { s with profiles := s.profiles.set n (profileAt pl kind) }) ..)))

/-- A stored profile is sent as it reads back, but for the clamp of its limit (R9, R187). -/
theorem profileAt_encProfile (n : Fin 16) {x : Profile} (hm : x.marks.length ≤ 64) (hs : x.sessionLimit < 256)
    (hq : x.quota < 65536) :
    profileAt (u8 n.val ++ encProfile x) x.kind = { x with sessionLimit := clamp 1 8 x.sessionLimit } := by
  have marks := marksAt_encMarks (u8 n.val ++ (u8 x.kind.code ++ u8 x.marks.length ++ u8 x.sessionLimit ++ u16 x.quota)) hm
  have limit : x.sessionLimit % 256 = x.sessionLimit := Nat.mod_eq_of_lt hs
  have length : min (x.marks.length % 256) 64 = x.marks.length := by omega
  simp only [profileAt, encProfile, u8, u16, List.cons_append, List.nil_append, byteAt_cons_succ, byteAt_cons_zero,
    BitVec.toNat_ofNat, Nat.reducePow, limit, length, u16At, u16_bytes hq]
  simpa [u8, u16] using marks

@[simp] theorem Fraction.ofCode_code (f : Fraction) : Fraction.ofCode f.code = some f := by cases f <;> rfl

theorem Fraction.ofCode_none {n : Nat} (h : 6 ≤ n) : Fraction.ofCode n = none := by
  unfold Fraction.ofCode
  split <;> first | omega | rfl

theorem Fraction.code_lt (f : Fraction) : f.code < 6 := by cases f <;> decide

theorem TonePattern.ofCode_none {n : Nat} (h : 4 ≤ n) : TonePattern.ofCode n = none := by
  unfold TonePattern.ofCode
  split <;> first | omega | rfl

theorem TonePattern.lt_of_ofCode {n : Nat} {x : TonePattern} (h : TonePattern.ofCode n = some x) : n < 4 := by
  by_contra hn
  simp [TonePattern.ofCode_none (Nat.not_lt.mp hn)] at h

/-- What HOURS_WRITE does with a payload (R10). -/
theorem exec_hoursWrite (hl : pl.length = 6) (h : s.offers .office (frameOf 0x07 tag pl)) :
    exec (.hoursWrite .office) s = .next (match Fraction.ofCode (byteAt pl 0) with
      | some f => ({ s with hours := s.hours.set f.index (hoursAt pl) }).answered1 .office 0x07 tag .ok (encHours (hoursAt pl))
      | none => s.answered1 .office 0x07 tag .badField []) := by
  refine congrArg _ ((State.takeKind_offers _ h (by omega) rfl (by decide) (by decide) rfl
    (by simp [hl, RequestKind.admits])).trans ?_)
  unfold State.hoursWrite
  cases Fraction.ofCode (byteAt pl 0) with
  | some f => exact State.answer_popRequest (s := { s with hours := s.hours.set f.index (hoursAt pl) }) ..
  | none => exact State.refuse_popRequest ..

/-- What TONE_WRITE does with a payload (R11). -/
theorem exec_toneWrite (hl : pl.length = 4) (h : s.offers .office (frameOf 0x08 tag pl)) :
    exec (.toneWrite .office) s = .next (match TonePattern.ofCode (byteAt pl 0) with
      | some x => ({ s with tones := s.tones.set (toneAt pl) x }).answered1 .office 0x08 tag .ok (encTone (toneAt pl))
      | none => s.answered1 .office 0x08 tag .badField []) := by
  refine congrArg _ ((State.takeKind_offers _ h (by omega) rfl (by decide) (by decide) rfl
    (by simp [hl, RequestKind.admits])).trans ?_)
  unfold State.toneWrite
  cases TonePattern.ofCode (byteAt pl 0) with
  | some x => exact State.answer_popRequest (s := { s with tones := s.tones.set (toneAt pl) x }) ..
  | none => exact State.refuse_popRequest ..

/-- The hours of a payload with its fields in their bytes (R10). -/
theorem hoursAt_fields (n o c : Nat) (d : Byte) (ho : o < 65536) (hc : c < 65536) :
    hoursAt (u8 n ++ u16 o ++ u16 c ++ [d]) = ⟨min o 1439, clamp 1 1440 c, d.setWidth 7⟩ := by
  simp only [hoursAt, u8, u16, u16At, List.cons_append, List.nil_append, byteAt_cons_succ, byteAt_cons_zero,
    BitVec.toNat_ofNat, Nat.reducePow, u16_bytes ho, u16_bytes hc, BitVec.ofNat_toNat]
  simp [clamp]

/-- The tone entry of a payload with its fields in their bytes (R11). -/
theorem toneAt_fields (n i d r : Nat) (hi : i < 256) (hd : d < 256) (hr : r < 256) :
    toneAt (u8 n ++ u8 i ++ u8 d ++ u8 r) = ⟨clamp 8 160 i, clamp 5 200 d, clamp 1 4 r⟩ := by
  simp [toneAt, u8, Nat.mod_eq_of_lt, hi, hd, hr]

/-- Settles O20. -/
theorem tableWritesStoreTheirEntries : Obligations.TableWritesStoreTheirEntries := by
  intro s tag
  refine ⟨fun n x hm hs hq h => ?_, fun n kind x pl hn hk hm hl hx h => ?_, fun f o c d ho hc h => ?_,
    fun n x i d r hx hi hd hr h => ?_, fun pl h6 hl hb h => ?_, fun pl h6 hm hn hk h => ?_, fun pl hl hb h => ?_,
    fun pl hl hb h => ?_⟩
  · rw [← profileAt_encProfile n hm hs hq]
    have marks := encMarks_length 8 x.marks (by omega)
    have kind : x.kind.code < 2 := by cases x.kind <;> decide
    have number : n.val < 16 := n.isLt
    refine exec_profileWrite_stores n ?_ ?_ ?_ ?_ h
    · simp [u8]; omega
    · simp [u8, encProfile]; omega
    · simp [u8, u16, encProfile, marks, markBytes]; omega
    · simp [u8, u16, encProfile, marks]; omega
  · subst hx
    exact exec_profileWrite_stores n hn hk hm hl h
  · have code : f.code < 6 := f.code_lt
    have number : byteAt (u8 f.code ++ u16 o ++ u16 c ++ [d]) 0 = f.code := by simp [u8]; omega
    rw [exec_hoursWrite rfl h, number, Fraction.ofCode_code, hoursAt_fields _ o c d ho hc]
    simp [encHours]
  · have code : n < 4 := TonePattern.lt_of_ofCode hx
    have number : byteAt (u8 n ++ u8 i ++ u8 d ++ u8 r) 0 = n := by simp [u8]; omega
    rw [exec_toneWrite rfl h, number, hx, toneAt_fields n i d r hi hd hr]
    rfl
  · exact (exec_profileWrite h6 hl h).trans (congrArg _ ((State.profileWrite_badField hb).trans
      (State.refuse_popRequest ..)))
  · have mapByte : byteAt pl 2 < 256 := BitVec.isLt _
    exact (exec_profileWrite h6 (by omega) h).trans (congrArg _ ((State.profileWrite_badLength hn hk hm).trans
      (State.refuse_popRequest ..)))
  · rw [exec_hoursWrite hl h, Fraction.ofCode_none hb]
  · rw [exec_toneWrite hl h, TonePattern.ofCode_none hb]

end Sys2Proof.Machine
end

section
/-! SUPPORT. The access decision (O39): each check as a condition on the state, and the decision that follows (R103 to
R108). -/

namespace Sys2Proof.Machine

/-! ## The first bar (R15) -/

/-- What a search passes over fails the test. -/
theorem find?_passes_over {α : Type} [BEq α] [LawfulBEq α] {l : List α} {p : α → Bool} {a b : α} (h : l.find? p = some b)
    (hi : l.idxOf a < l.idxOf b) : p a = false := by
  obtain ⟨-, i, hl, hb, hn⟩ := List.find?_eq_some_iff_getElem.mp h
  have hle : l.idxOf b ≤ i := by
    by_contra hc
    simpa [hb] using List.not_of_lt_findIdx (p := (· == b)) (Nat.lt_of_not_le hc)
  have ha := hn (l.idxOf a) (by omega)
  rwa [List.getElem_idxOf, Bool.not_eq_true'] at ha

/-- No bar is first exactly in the empty set. -/
theorem BarSet.first_eq_none_iff (x : BarSet) : x.first = none ↔ x.isEmpty = true := by
  simp [BarSet.first, denyOrder, BarSet.isEmpty, BarSet.has]
  tauto

/-! ## The checks (R103 to R106) -/

variable {s : State} {k : Slot} {o : LookupOutcome} {a : Admission} {r : Option CardRecord}

/-- Check 3 admits exactly where R103 and R104 say so. -/
theorem State.checkLookup_eq_admitted_iff :
    checkLookup (s.config.policy (s.slot k).record.fraction) o = .admitted a r ↔ s.lookupAdmits k o a r := by
  unfold State.lookupAdmits
  generalize s.config.policy (s.slot k).record.fraction = policy
  constructor
  · intro h
    cases o with
    | found e b => cases h; exact .inl ⟨e, b, rfl, rfl, rfl⟩
    | absent => cases h
    | damaged => cases policy <;> cases h; exact .inr (.inr ⟨.inl rfl, rfl, rfl, rfl⟩)
    | storeOffline e =>
      cases e with
      | some e => cases policy <;> cases h <;> exact .inr (.inl ⟨e, rfl, nofun, rfl, rfl⟩)
      | none => cases policy <;> cases h; exact .inr (.inr ⟨.inr rfl, rfl, rfl, rfl⟩)
  · rintro (⟨e, b, rfl, rfl, rfl⟩ | ⟨e, rfl, hp, rfl, rfl⟩ | ⟨rfl | rfl, rfl, rfl, rfl⟩)
    · rfl
    · cases policy
      · exact absurd rfl hp
      all_goals rfl
    · rfl
    · rfl

/-- A record has passed its expiry day (R105). -/
theorem State.expired_iff (x : CardRecord) : s.expired x = true ↔ s.pastExpiry x := by
  unfold State.expired State.pastExpiry dayNumber
  cases x.expiry <;> simp

theorem CardStatus.eq_active_of_ne {x : CardStatus} (h : x ≠ .suspended) : x = .active := by
  cases x
  · rfl
  · exact absurd rfl h

/-- Checks 4 to 6 pass an ACTIVE record that has not expired and has a PERMIT for the class (R105). -/
theorem State.checkRecord_eq_none_iff (x : CardRecord) : s.checkRecord k x = none ↔
    x.status = .active ∧ s.expired x = false ∧ (s.profileOf x).permits (s.slot k).record.cls = true := by
  unfold State.checkRecord
  constructor
  · intro h
    split at h
    · cases h
    · next hs =>
      split at h
      · cases h
      · next he =>
        split at h
        · cases h
        · next hp => exact ⟨CardStatus.eq_active_of_ne hs, by simpa using he, by simpa using hp⟩
  · rintro ⟨hs, he, hp⟩
    simp [hs, he, hp]

/-- Check 7 denies exactly outside the hours (R10, R105). -/
theorem State.checkHours_eq (s : State) (k : Slot) [Decidable (s.outsideHours k)] :
    s.checkHours k = if s.outsideHours k then some .hours else none := by
  unfold State.checkHours
  refine if_congr ?_ rfl rfl
  unfold State.outsideHours FractionHours.within minuteOfDay secondOfDay weekday dayNumber
  generalize s.hoursOf (s.slot k).record.fraction = x
  simp only [Bool.and_eq_true, Bool.not_eq_true']
  refine and_congr_right fun _ => ?_
  cases x.restDays.getLsbD ((s.clock.time.toNat / 86400 + 5) % 7)
  · rcases Nat.lt_trichotomy x.openMinute x.closeMinute with h | h | h
    · simp [h, Nat.not_lt.mpr h.le]
    · simp [h]
    · simp [h, Nat.not_lt.mpr h.le]
      omega
  · simp

/-- The reserve fails where the free places do not exceed what is in preparation by more than eight (R172). -/
theorem State.reserveHolds_iff (s : State) :
    s.reserveHolds = true ↔ s.chargedSessions + s.inPreparation + 8 < 256 - s.log.records.length := by
  exact decide_eq_true_iff

/-- Check 8 on an uncharged slot passes (R106). -/
theorem State.checkCharged_uncharged (h : (s.slot k).record.charged = false) : s.checkCharged k r = none := by
  simp [State.checkCharged, h]

/-- Check 8 on a charged slot: quota, backlog, log, in this order (R106). -/
theorem State.checkCharged_charged (h : (s.slot k).record.charged = true) : s.checkCharged k r =
    if ∃ x ∈ r, s.remainingQuota x = 0 then some .quota
    else if s.store.state = .online ∧ 8 ≤ s.resolver.charges.length then some .chargeBacklog
    else if s.reserveHolds = true then none else some .logFull := by
  unfold State.checkCharged
  have backlog : (s.store.state == .online && decide (Config.chargeBacklog ≤ s.resolver.charges.length)) = true
      ↔ s.store.state = .online ∧ 8 ≤ s.resolver.charges.length := by
    rw [Bool.and_eq_true, beq_iff_eq, decide_eq_true_iff]; rfl
  rw [h, if_neg (by decide)]
  refine if_congr ?_ rfl (if_congr backlog rfl ?_)
  · cases r <;> simp
  · cases s.reserveHolds <;> rfl

/-- Checks 4 to 8 pass together (R105, R106). -/
theorem State.checkAdmission_eq_none_iff : s.checkAdmission k r = none ↔
    (∀ x, r = some x → s.checkRecord k x = none) ∧ s.checkHours k = none ∧ s.checkCharged k r = none := by
  unfold State.checkAdmission
  cases r with
  | none => cases s.checkHours k <;> simp
  | some x => cases hx : s.checkRecord k x <;> cases s.checkHours k <;> simp [hx]

/-- A record that fails its checks decides (R105). -/
theorem State.checkAdmission_record {x : CardRecord} {d : DenyReason} (h : s.checkRecord k x = some d) :
    s.checkAdmission k (some x) = some d := by
  simp [State.checkAdmission, h]

/-- With the records' checks passed the hours decide, and then the charged checks (R105, R106). -/
theorem State.checkAdmission_passed (h : ∀ x, r = some x → s.checkRecord k x = none) :
    s.checkAdmission k r = (s.checkHours k).or (s.checkCharged k r) := by
  unfold State.checkAdmission
  cases r with
  | none => cases s.checkHours k <;> rfl
  | some x => simp only [Option.bind_some, h x rfl]; cases s.checkHours k <;> rfl

/-! ## The limit (R50, R108) -/

/-- A quotient rounded up, as an integer ceiling. -/
theorem ceilDiv_eq_ceil (a b : Nat) : ceilDiv a b = ⌈(a : ℚ) / b⌉₊ := by
  unfold ceilDiv
  rcases Nat.eq_zero_or_pos b with rfl | hb
  · simp
  · refine eq_of_forall_ge_iff fun n => ?_
    rw [Nat.ceil_le, div_le_iff₀ (by exact_mod_cast hb), ← Nat.lt_succ_iff, Nat.div_lt_iff_lt_mul hb, Nat.succ_mul]
    norm_cast
    omega

theorem State.grantLimit_eq (s : State) (k : Slot) (a : Admission) (r : Option CardRecord) : s.grantLimit k a r =
    match r with
    | some x => if (s.slot k).record.charged then min (s.grantBound k a r) (s.quotaLeft x) else s.grantBound k a r
    | none => s.grantBound k a r := by
  unfold State.grantLimit State.grantBound State.depositBound
  cases r <;> cases a <;> rfl

/-- A limit lies within the bound of its admission and the allowance. -/
theorem State.grantLimit_le (s : State) (k : Slot) (a : Admission) (r : Option CardRecord) :
    s.grantLimit k a r ≤ s.depositBound a r ∧ s.grantLimit k a r ≤ (s.slot k).allowance := by
  unfold State.grantLimit
  cases r with
  | none => simp
  | some x =>
    dsimp only
    split <;> simp

/-- On a charged slot it lies within the remaining quota. -/
theorem State.grantLimit_le_quota (a : Admission) {x : CardRecord} (h : (s.slot k).record.charged = true) :
    s.grantLimit k a (some x) ≤ s.remainingQuota x := by
  simp [State.grantLimit, h]

/-! ## The decision (R103 to R108) -/

theorem State.decision_barred {b : Bar} (h : (s.slot k).bars.first = some b) : s.decision k o = .deny (.barred b) := by
  simp [State.decision, h]

/-- Without a bar an admitted lookup is decided by the checks 4 to 8. -/
theorem State.decision_admitted (hb : (s.slot k).bars.isEmpty = true) (h : s.lookupAdmits k o a r) : s.decision k o =
    (s.checkAdmission k r).elim (.grant a (s.grantLimit k a r)) .deny := by
  cases hc : s.checkAdmission k r <;>
    simp [State.decision, (BarSet.first_eq_none_iff _).mpr hb, State.checkLookup_eq_admitted_iff.mpr h, hc]

/-- A grant has passed every check. -/
theorem State.decision_eq_grant {limit : Nat} (h : s.decision k o = .grant a limit) :
    (s.slot k).bars.isEmpty = true ∧ ∃ r, s.lookupAdmits k o a r ∧ s.checkAdmission k r = none
      ∧ limit = s.grantLimit k a r := by
  unfold State.decision at h
  split at h
  · cases h
  · next hb =>
    split at h
    · cases h
    · next a' r hl =>
      split at h
      · cases h
      · next hc =>
        cases h
        exact ⟨(BarSet.first_eq_none_iff _).mp hb, r, State.checkLookup_eq_admitted_iff.mp hl, hc, rfl⟩

/-- The record an admission names is the one the outcome carries, where it carries one. -/
theorem State.lookupAdmits_entry (h : s.lookupAdmits k o a r) {e : CacheEntry} (he : o.entry = some e) :
    r = some e.record := by
  obtain ⟨e', b, rfl, -, rfl⟩ | ⟨e', rfl, -, -, rfl⟩ | ⟨rfl | rfl, -, -, -⟩ := h <;> cases he <;> rfl

/-- A lookup that is not admitted is denied by its outcome under the policy (R103, R104). -/
theorem State.decision_denied (hb : (s.slot k).bars.isEmpty = true) {d : DenyReason}
    (h : checkLookup (s.config.policy (s.slot k).record.fraction) o = .deny d) : s.decision k o = .deny d := by
  unfold State.decision
  rw [(BarSet.first_eq_none_iff _).mpr hb, h]

/-- What a grant has passed (R103 to R108). -/
theorem State.decision_grant_passes {limit : Nat} (h : s.decision k o = .grant a limit) :
    (s.slot k).bars.isEmpty = true ∧ s.checkHours k = none ∧ limit ≤ (s.slot k).allowance
      ∧ ((s.slot k).record.charged = true → s.reserveHolds = true
          ∧ (s.store.state = .online → s.resolver.charges.length < 8))
      ∧ (∃ r, s.lookupAdmits k o a r ∧ limit ≤ s.depositBound a r)
      ∧ ∀ e, o.entry = some e → e.record.status = .active ∧ s.expired e.record = false
        ∧ (s.profileOf e.record).permits (s.slot k).record.cls = true
        ∧ ((s.slot k).record.charged = true → 0 < s.remainingQuota e.record ∧ limit ≤ s.remainingQuota e.record) := by
  obtain ⟨hb, r, hl, hc, rfl⟩ := State.decision_eq_grant h
  obtain ⟨hr, hh, hq⟩ := State.checkAdmission_eq_none_iff.mp hc
  obtain ⟨bound, allowed⟩ := s.grantLimit_le k a r
  refine ⟨hb, hh, allowed, fun charged => ?_, ?_, fun e he => ?_⟩
  · rw [State.checkCharged_charged charged] at hq
    split at hq
    · cases hq
    · split at hq
      · cases hq
      · next backlog =>
        split at hq
        · next reserve => exact ⟨reserve, fun online => Nat.lt_of_not_le fun full => backlog ⟨online, full⟩⟩
        · cases hq
  · exact ⟨r, hl, bound⟩
  · obtain rfl := State.lookupAdmits_entry hl he
    obtain ⟨active, current, permitted⟩ := (State.checkRecord_eq_none_iff _).mp (hr _ rfl)
    refine ⟨active, current, permitted, fun charged => ⟨Nat.pos_of_ne_zero fun spent => ?_, State.grantLimit_le_quota a charged⟩⟩
    rw [State.checkCharged_charged charged, if_pos ⟨_, rfl, spent⟩] at hq
    cases hq

/-- A record that fails its checks is denied (R105). -/
theorem State.decision_record (hb : (s.slot k).bars.isEmpty = true) {x : CardRecord} (h : s.lookupAdmits k o a (some x))
    {d : DenyReason} (hd : s.checkRecord k x = some d) : s.decision k o = .deny d := by
  rw [State.decision_admitted hb h, State.checkAdmission_record hd, Option.elim_some]

/-- Where the record passes, the hours and the charged checks decide, and else the limit is granted (R105, R106, R108). -/
theorem State.decision_passed (hb : (s.slot k).bars.isEmpty = true) (h : s.lookupAdmits k o a r)
    (hr : ∀ x, r = some x → s.checkRecord k x = none) : s.decision k o =
      ((s.checkHours k).or (s.checkCharged k r)).elim (.grant a (s.grantLimit k a r)) .deny := by
  rw [State.decision_admitted hb h, State.checkAdmission_passed hr]

/-- Settles O39: a grant has passed the checks, and the first failing check denies. -/
theorem grantsPassEveryCheck : Obligations.GrantsPassEveryCheck := by
  classical
  intro s k o
  refine ⟨fun a limit h => ?_, fun b hb => ⟨State.decision_barred hb, List.find?_some hb, ?_⟩, fun hb => ?_,
    by rw [← ceilDiv_eq_ceil]; rfl, fun hb => ⟨?_, fun ho hp => ?_, ?_, fun a r h => ⟨?_, fun hr => ?_⟩⟩⟩
  · obtain ⟨empty, hours, allowed, charged, ⟨r, hl, bound⟩, record⟩ := State.decision_grant_passes h
    refine ⟨empty, hours, allowed, charged, ?_, record⟩
    obtain ⟨e, b, rfl, rfl, rfl⟩ | ⟨e, rfl, hp, rfl, rfl⟩ | ⟨ho, hp, rfl, rfl⟩ := hl
    · exact ⟨e, b, rfl, bound⟩
    · exact ⟨e, rfl, bound, hp⟩
    · exact ⟨ho, bound, hp⟩
  · rintro b' order rfl hi
    exact find?_passes_over (l := denyOrder) hb hi
  · refine Option.ne_none_iff_exists'.mp fun hn => ?_
    rw [(BarSet.first_eq_none_iff _).mp hn] at hb
    cases hb
  · rintro rfl
    exact State.decision_denied hb rfl
  · subst ho
    refine State.decision_denied hb ?_
    revert hp
    cases s.config.policy (s.slot k).record.fraction <;> simp [checkLookup]
  · rintro ⟨e, rfl, hp⟩
    refine State.decision_denied hb ?_
    revert hp
    cases e <;> cases s.config.policy (s.slot k).record.fraction <;> simp [checkLookup]
  · rintro x rfl
    refine ⟨fun hs => State.decision_record hb h ?_, fun hs he => State.decision_record hb h ?_,
      fun hs he hp => State.decision_record hb h ?_⟩
    · simp [State.checkRecord, hs]
    · simp [State.checkRecord, hs, (s.expired_iff x).mpr he]
    · have current : s.expired x = false := Bool.eq_false_iff.mpr (mt (s.expired_iff x).mp he)
      have denied : (s.profileOf x).permits (s.slot k).record.cls = false := hp
      simp [State.checkRecord, hs, current, denied]
  · have passed (x : CardRecord) (hx : r = some x) : s.checkRecord k x = none := by
      obtain ⟨active, current, permitted⟩ := hr x hx
      exact (s.checkRecord_eq_none_iff x).mpr ⟨active, Bool.eq_false_iff.mpr (mt (s.expired_iff x).mp current), permitted⟩
    rw [State.decision_passed hb h passed, s.checkHours_eq k, State.grantLimit_eq]
    refine ⟨fun hh => by rw [if_pos hh]; rfl, fun hh hc => ?_, fun hh hc => ?_⟩
    · rw [if_neg hh, Option.none_or, State.checkCharged_uncharged hc]
      cases r <;> simp [hc]
    · rw [if_neg hh, Option.none_or, State.checkCharged_charged hc]
      refine ⟨fun x hx hq => by rw [if_pos ⟨x, hx, hq⟩, Option.elim_some], fun hq => ?_⟩
      have quota : ¬ ∃ x ∈ r, s.remainingQuota x = 0 := fun ⟨x, hx, hz⟩ => (hq x hx).ne' hz
      rw [if_neg quota]
      refine ⟨fun ho hl => by rw [if_pos ⟨ho, hl⟩, Option.elim_some], fun hn => ?_⟩
      have backlog : ¬ (s.store.state = .online ∧ 8 ≤ s.resolver.charges.length) :=
        fun ⟨ho, hl⟩ => hn.elim (· ho) (by omega)
      rw [if_neg backlog]
      refine ⟨fun hf => ?_, fun hf => ?_⟩
      · rw [if_neg (mt s.reserveHolds_iff.mp (by omega)), Option.elim_some]
      · rw [if_pos (s.reserveHolds_iff.mpr hf)]
        constructor
        · rintro rfl; rfl
        · rintro x rfl; simp [hc]

end Sys2Proof.Machine
end

section
/-! SUPPORT. What notices, bars and the log leave of the state (R12 to R14, R171 to R176, R180): the ports grow by notices
alone, and an append changes no more than the LOG bars. -/

namespace Sys2Proof.Machine

/-! ## Ports that grow by notices (R180) -/

/-- A port has taken some more notices; its requests and its responses are as they were. -/
structure PortState.Noticed (q q' : PortState) : Prop where
  requests : q'.requests = q.requests
  inProgress : q'.inProgress = q.inProgress
  overrun : q'.overrun = q.overrun
  outbox : ∃ l, (∀ f ∈ l, f.isNotice = true) ∧ q'.outbox = q.outbox ++ l

theorem PortState.Noticed.refl (q : PortState) : q.Noticed q := ⟨rfl, rfl, rfl, [], nofun, (List.append_nil _).symm⟩

theorem PortState.Noticed.trans {a b c : PortState} (h : a.Noticed b) (h' : b.Noticed c) : a.Noticed c := by
  obtain ⟨l, hl, e⟩ := h.outbox
  obtain ⟨l', hl', e'⟩ := h'.outbox
  refine ⟨h'.requests.trans h.requests, h'.inProgress.trans h.inProgress, h'.overrun.trans h.overrun, l ++ l', ?_, ?_⟩
  · intro f hf
    exact (List.mem_append.mp hf).elim (hl f) (hl' f)
  · rw [e', e, List.append_assoc]

/-- Every port has taken some more notices, while the part ran on or stood still. -/
structure State.Noticed (s t : State) : Prop where
  run : t.run = s.run
  port : ∀ p, (s.port p).Noticed (t.port p)

theorem State.Noticed.refl (s : State) : s.Noticed s := ⟨rfl, fun _ => .refl _⟩

theorem State.Noticed.congr {s t u : State} (h : s.Noticed t) (hr : u.run = t.run) (hp : u.ports = t.ports) :
    s.Noticed u := ⟨hr.trans h.run, fun p => State.port_congr hp p ▸ h.port p⟩

/-- A notice that reaches a port leaves the other ports. -/
theorem State.notify_port_other (s : State) {p q : Port} (n : Nat) (pl : List Byte) (h : q ≠ p) :
    (s.notify p n pl).port q = s.port q := by
  unfold State.notify
  dsimp only
  split
  · rfl
  · split <;> exact State.port_setPort_other _ _ h

theorem State.post_port_other (s : State) {p q : Port} (n : NoticeKind) (pl : List Byte) (h : q ≠ p) :
    (s.post p n pl).port q = s.port q := s.notify_port_other _ _ h

/-- The port that a notice reaches. -/
theorem State.notify_port_same (s : State) (p : Port) (n : Nat) (pl : List Byte) : (s.notify p n pl).port p =
    if s.run ≠ .running then s.port p
    else if (s.port p).noticeRoom then
      { s.port p with outbox := (s.port p).outbox ++ [.notice n (s.port p).noticesLost pl], noticesLost := false }
    else { s.port p with noticesLost := true } := by
  unfold State.notify
  dsimp only
  split
  · rfl
  · split <;> exact State.port_setPort_same ..

/-- What a notice does to its port depends on the port and on whether the part runs. -/
theorem State.notify_port_congr {s t : State} {p : Port} (hr : t.run = s.run) (hp : t.port p = s.port p) (n : Nat)
    (pl : List Byte) : (t.notify p n pl).port p = (s.notify p n pl).port p := by
  rw [State.notify_port_same, State.notify_port_same, hr, hp]

theorem State.noticed_notify (s : State) (p : Port) (n : Nat) (pl : List Byte) : s.Noticed (s.notify p n pl) := by
  refine ⟨by simp, fun q => ?_⟩
  by_cases hq : q = p
  · subst hq
    rw [State.notify_port_same]
    split
    · exact .refl _
    · split
      · exact ⟨rfl, rfl, rfl, _, by simp [OutFrame.isNotice], rfl⟩
      · exact ⟨rfl, rfl, rfl, [], nofun, (List.append_nil _).symm⟩
  · rw [State.notify_port_other _ _ _ hq]
    exact .refl _

theorem State.Noticed.trans {s t u : State} (h : s.Noticed t) (h' : t.Noticed u) : s.Noticed u :=
  ⟨h'.run.trans h.run, fun p => (h.port p).trans (h'.port p)⟩

/-- The ports of s have grown by notices: every shared operation keeps this. -/
def Kept.noticed (s : State) : Kept where
  P t := s.Noticed t
  memOk := True
  frame e h := h.congr e.run e.ports
  elapse _ h := h.congr rfl rfl
  slot _ _ _ _ h := h.congr rfl rfl
  notify _ _ _ h := h.trans (State.noticed_notify ..)
  mem _ _ _ _ h := h.congr rfl rfl
  raise _ _ h := h.congr rfl rfl
  rehf _ _ _ _ h := h.congr rfl rfl
  mark _ _ _ h := h.congr rfl rfl
  unraise _ h := h.congr rfl rfl
  enqueue _ _ _ h := h.congr rfl rfl
  dequeue _ h := h.congr rfl rfl
  chargeIn _ h := h.congr rfl rfl
  chargeOut _ h := h.congr rfl rfl
  chargesOut h := h.congr rfl rfl
  starve _ _ h := h.congr rfl rfl
  append _ h := h.congr rfl rfl

theorem PortState.Noticed.outboxPrefix {a b : PortState} (h : a.Noticed b) : a.outbox <+: b.outbox := by
  obtain ⟨l, -, e⟩ := h.outbox
  exact ⟨l, e.symm⟩

/-- A notice that was posted on the way has been posted, whatever the port has taken since (R180). -/
theorem State.posted_of_notify {s a t : State} {p : Port} {n : Nat} {pl : List Byte} (hr : a.run = .running)
    (h : (s.port p).outbox <+: (a.port p).outbox) (h' : ((a.notify p n pl).port p).outbox <+: (t.port p).outbox) :
    s.posted t p n pl := by
  have grew := ((State.noticed_notify a p n pl).port p).outboxPrefix
  refine ⟨h.trans (grew.trans h'), fun room => ?_⟩
  have before : (a.port p).notices.length ≤ (t.port p).notices.length := ((grew.trans h').filter _).length_le
  have placed : (a.port p).noticeRoom = true := decide_eq_true (by omega)
  rw [State.notify_port_same, if_neg (by simp [hr]), if_pos placed] at h'
  obtain ⟨l, hl⟩ := h
  obtain ⟨l', hl'⟩ := h'
  refine ⟨.notice n (a.port p).noticesLost pl, ?_, ?_⟩
  · rw [← hl', ← hl]
    simp
  · cases (a.port p).noticesLost
    · exact .inl rfl
    · exact .inr rfl

@[simp] theorem State.restartLink_ports (s : State) (p : Port) : (s.restartLink p).ports = s.ports := by
  unfold State.restartLink
  split
  · split <;> rfl
  · rfl

/-- The port at which a request has been taken (R179). -/
theorem State.popRequest_port_same (s : State) (p : Port) (f : List Byte) : (s.popRequest p f).port p =
    { s.port p with requests := (s.port p).requests.drop 1, inProgress := some (f.getD 1 0, f.getD 2 0) } := by
  unfold State.popRequest
  rw [State.port_congr (State.restartLink_ports ..), State.port_setPort_same]

theorem State.popRequest_port_other (s : State) {p q : Port} (f : List Byte) (h : q ≠ p) :
    (s.popRequest p f).port q = s.port q := by
  unfold State.popRequest
  rw [State.port_congr (State.restartLink_ports ..), State.port_setPort_other _ _ h]

/-- The port at which a request has been answered (R178, R179). -/
theorem State.answer_port_same (s : State) (t : Taken) (st : Status) (pl : List Byte) : (s.answer t st pl).port t.port =
    { s.port t.port with
      outbox := (s.port t.port).outbox ++ [.response t.kind t.tag st.code (s.port t.port).overrun pl]
      overrun := false
      inProgress := none } := State.port_setPort_same ..

theorem State.answer_port_other (s : State) {t : Taken} {q : Port} (st : Status) (pl : List Byte) (h : q ≠ t.port) :
    (s.answer t st pl).port q = s.port q := State.port_setPort_other _ _ h

/-- The taking of a request places no frame. -/
theorem State.popRequest_outbox (s : State) (p q : Port) (f : List Byte) :
    ((s.popRequest p f).port q).outbox = (s.port q).outbox := by
  by_cases h : q = p
  · subst h; rw [State.popRequest_port_same]
  · rw [State.popRequest_port_other _ _ h]

/-- The answer of a request is added behind what stands in its port. -/
theorem State.answer_outbox (s : State) (t : Taken) (q : Port) (st : Status) (pl : List Byte) :
    (s.port q).outbox <+: ((s.answer t st pl).port q).outbox := by
  by_cases h : q = t.port
  · subst h; rw [State.answer_port_same]; exact List.prefix_append ..
  · rw [State.answer_port_other _ _ _ h]

section
variable {s u : State} {p : Port} {n : Nat} {tag : Byte} {pl : List Byte}

/-- A request at whose port only notices have been posted since its taking is answered behind them (R178, R179, R182). -/
theorem State.answeredWith_of_outbox {before : List OutFrame} (st : Status) (q : List Byte)
    (h : (s.popRequest p (frameOf n tag pl)).Noticed u)
    (hb : (u.port p).outbox = (s.port p).outbox ++ before) :
    s.answeredWith (u.answer { port := p, kind := BitVec.ofNat 8 n, tag := tag, payload := pl } st q) p n tag st q before
      [] := by
  have taken := s.popRequest_port_same p (frameOf n tag pl)
  have answered := u.answer_port_same { port := p, kind := BitVec.ofNat 8 n, tag := tag, payload := pl } st q
  dsimp only at answered
  refine ⟨?_, ?_, ?_, ?_⟩
  · rw [answered, (h.port p).requests, taken]
  · rw [answered]
  · rw [answered]
  · rw [answered, (h.port p).overrun, taken, hb, List.append_nil]

theorem State.answeredLast_of_noticed (st : Status) (q : List Byte) (h : (s.popRequest p (frameOf n tag pl)).Noticed u) :
    s.answeredLast (u.answer { port := p, kind := BitVec.ofNat 8 n, tag := tag, payload := pl } st q) p n tag st q := by
  obtain ⟨l, hl, e⟩ := (h.port p).outbox
  rw [State.popRequest_outbox] at e
  exact ⟨l, hl, State.answeredWith_of_outbox st q h e⟩

end

/-! ## A change of a bar (R12 to R14) -/

/-- A slot with a bar put in or taken out, where that is a change (R12, R13). -/
def SlotUnit.withBar (b : Bar) (v : Bool) (u : SlotUnit) : SlotUnit :=
  if u.configured && u.bars.has b != v then
    { u with bars := u.bars.put v b, intake := { u.intake with state := u.intake.state.follow (u.bars.put v b) } }
  else u

@[simp] theorem BarSet.has_put_same (x : BarSet) (b : Bar) (v : Bool) : (x.put v b).has b = v := by cases b <;> rfl

theorem BarSet.has_put_other (x : BarSet) {b c : Bar} (v : Bool) (h : c ≠ b) : (x.put v b).has c = x.has c := by
  cases b <;> cases c <;> first | rfl | exact absurd rfl h

/-- Two bar sets with the same bars are the same. -/
theorem BarSet.ext_has {x y : BarSet} (h : ∀ b, x.has b = y.has b) : x = y := by
  cases x
  cases y
  simpa [BarSet.has] using
    And.intro (h .full) ⟨h .unmeasured, h .lift, h .service, h .flood, h .drum, h .out, h .log⟩

theorem BarSet.put_eq_self {x : BarSet} {b : Bar} {v : Bool} (h : x.has b = v) : x.put v b = x := by
  refine BarSet.ext_has fun c => ?_
  by_cases hc : c = b
  · subst hc; rw [BarSet.has_put_same, h]
  · exact x.has_put_other v hc

section
variable (b : Bar) (v : Bool) (u : SlotUnit)

/-- A change of a bar leaves everything of the slot but the bar set and the state of the intake. -/
theorem SlotUnit.withBar_frame : u.withBar b v =
    { u with bars := (u.withBar b v).bars, intake := { u.intake with state := (u.withBar b v).intake.state } } := by
  unfold SlotUnit.withBar; split <;> rfl

@[simp] theorem SlotUnit.withBar_configured : (u.withBar b v).configured = u.configured :=
  (congrArg SlotUnit.configured (u.withBar_frame b v) :)
@[simp] theorem SlotUnit.withBar_record : (u.withBar b v).record = u.record :=
  (congrArg SlotUnit.record (u.withBar_frame b v) :)
@[simp] theorem SlotUnit.withBar_lines : (u.withBar b v).lines = u.lines :=
  (congrArg SlotUnit.lines (u.withBar_frame b v) :)
@[simp] theorem SlotUnit.withBar_track : (u.withBar b v).track = u.track :=
  (congrArg SlotUnit.track (u.withBar_frame b v) :)
@[simp] theorem SlotUnit.withBar_locks : (u.withBar b v).locks = u.locks :=
  (congrArg SlotUnit.locks (u.withBar_frame b v) :)
@[simp] theorem SlotUnit.withBar_range : (u.withBar b v).range = u.range :=
  (congrArg SlotUnit.range (u.withBar_frame b v) :)
@[simp] theorem SlotUnit.withBar_fill : (u.withBar b v).fill = u.fill :=
  (congrArg SlotUnit.fill (u.withBar_frame b v) :)
@[simp] theorem SlotUnit.withBar_reader : (u.withBar b v).reader = u.reader :=
  (congrArg SlotUnit.reader (u.withBar_frame b v) :)
@[simp] theorem SlotUnit.withBar_idleDeadline : (u.withBar b v).intake.idleDeadline = u.intake.idleDeadline :=
  (congrArg (fun x : SlotUnit => x.intake.idleDeadline) (u.withBar_frame b v) :)

/-- On a configured slot the bar stands as it was put. -/
theorem SlotUnit.withBar_bars (h : u.configured = true) : (u.withBar b v).bars = u.bars.put v b := by
  unfold SlotUnit.withBar
  split
  · rfl
  · next hc =>
    have : u.bars.has b = v := by simpa [h] using hc
    exact (BarSet.put_eq_self this).symm

/-- Every other bar stands as before. -/
theorem SlotUnit.withBar_has_other {c : Bar} (h : c ≠ b) : (u.withBar b v).bars.has c = u.bars.has c := by
  unfold SlotUnit.withBar
  split
  · exact u.bars.has_put_other v h
  · rfl

end

/-- An intake in VERIFYING, OPEN or CLOSING does not follow the bars. -/
theorem IntakeState.follow_of_busy {x : IntakeState} (b : BarSet) (h : x.busy = true) : x.follow b = x := by
  cases x <;> first | rfl | cases h

@[simp] theorem restState_busy (b : BarSet) : (restState b).busy = false := by unfold restState; split <;> rfl

@[simp] theorem restState_follow (a b : BarSet) : (restState a).follow b = restState b := by
  unfold restState; split <;> rfl

@[simp] theorem restState_chargedSession (b : BarSet) : (restState b).chargedSession = false := by
  unfold restState; split <;> rfl

@[simp] theorem IntakeState.busy_follow (x : IntakeState) (b : BarSet) : (x.follow b).busy = x.busy := by
  cases x <;> first | rfl | exact restState_busy b

@[simp] theorem IntakeState.chargedSession_follow (x : IntakeState) (b : BarSet) :
    (x.follow b).chargedSession = x.chargedSession := by
  cases x <;> first | rfl | exact restState_chargedSession b

@[simp] theorem IntakeState.follow_follow (x : IntakeState) (a b : BarSet) : (x.follow a).follow b = x.follow b := by
  cases x <;> first | rfl | exact restState_follow a b

/-- What the requests of the Container Table and the events of the pit lines and of the readers leave alone, but for what each
states of its own: the tables, the clock, the card store and its users. -/
structure State.Calm (s t : State) : Prop where
  run : t.run = s.run := by rfl
  resetKind : t.resetKind = s.resetKind := by rfl
  now : t.now = s.now := by rfl
  config : t.config = s.config := by rfl
  profiles : t.profiles = s.profiles := by rfl
  hours : t.hours = s.hours := by rfl
  tones : t.tones = s.tones := by rfl
  store : t.store = s.store := by rfl
  arbiter : t.arbiter = s.arbiter := by rfl
  resolver : t.resolver = s.resolver := by rfl
  clock : t.clock = s.clock := by rfl
  batch : t.batch = s.batch := by rfl
  pending : t.pending = s.pending := by rfl

theorem State.Calm.trans {s t u : State} (h : s.Calm t) (h' : t.Calm u) : s.Calm u where
  run := h'.run.trans h.run
  resetKind := h'.resetKind.trans h.resetKind
  now := h'.now.trans h.now
  config := h'.config.trans h.config
  profiles := h'.profiles.trans h.profiles
  hours := h'.hours.trans h.hours
  tones := h'.tones.trans h.tones
  store := h'.store.trans h.store
  arbiter := h'.arbiter.trans h.arbiter
  resolver := h'.resolver.trans h.resolver
  clock := h'.clock.trans h.clock
  batch := h'.batch.trans h.batch
  pending := h'.pending.trans h.pending

theorem State.Calm.stamp {s t : State} (h : s.Calm t) : t.stamp = s.stamp := by unfold State.stamp; rw [h.clock]

theorem State.calm_post (s : State) (p : Port) (n : NoticeKind) (pl : List Byte) : s.Calm (s.post p n pl) :=
  { run := by simp, resetKind := by simp, now := by simp, config := by simp, profiles := by simp, hours := by simp
    tones := by simp, store := by simp, arbiter := by simp, resolver := by simp, clock := by simp, batch := by simp
    pending := by simp }

/-- What a change of the bars and of the log leaves: all but the slots, the log and the ports OFFICE and CREW. -/
structure State.Barred (s t : State) : Prop extends s.Calm t where
  service : t.ports.service = s.ports.service := by rfl
  readerBus : t.readerBus = s.readerBus := by rfl
  ranging : t.ranging = s.ranging := by rfl
  demand : t.demand = s.demand := by rfl
  lift : t.lift = s.lift := by rfl
  probe : t.probe = s.probe := by rfl
  freeIndex : t.freeIndex = s.freeIndex := by rfl

theorem State.Barred.trans {s t u : State} (h : s.Barred t) (h' : t.Barred u) : s.Barred u where
  toCalm := h.toCalm.trans h'.toCalm
  service := h'.service.trans h.service
  readerBus := h'.readerBus.trans h.readerBus
  ranging := h'.ranging.trans h.ranging
  demand := h'.demand.trans h.demand
  lift := h'.lift.trans h.lift
  probe := h'.probe.trans h.probe
  freeIndex := h'.freeIndex.trans h.freeIndex

theorem State.Barred.frame {s t : State} (h : s.Barred t) :
    t = { s with ports := t.ports, slots := t.slots, log := t.log } := by
  obtain ⟨⟨_, _, _, _, _, _, _, _, _, _, _, _, _⟩, -, _, _, _, _, _, _⟩ := h
  cases s
  cases t
  simp_all

theorem State.Barred.custodyOn {s t : State} (h : s.Barred t) (k : Slot) : t.custodyOn k = s.custodyOn k := by
  unfold State.custodyOn; rw [h.lift]

theorem State.barred_post (s : State) {p : Port} (hp : p ≠ .service) (n : NoticeKind) (pl : List Byte) :
    s.Barred (s.post p n pl) :=
  { s.calm_post p n pl with
    service := s.post_port_other _ _ hp.symm
    readerBus := by simp, ranging := by simp, demand := by simp, lift := by simp, probe := by simp, freeIndex := by simp }

/-- BAR_CHANGE reaches the ports OFFICE and CREW (R14). -/
theorem State.barred_postBarChange (s : State) (k : Slot) (b : Bar) (v : Bool) : s.Barred (s.postBarChange k b v) := by
  unfold State.postBarChange
  dsimp only
  split
  · exact (s.barred_post (by decide) ..).trans (State.barred_post _ (by decide) ..)
  · exact s.barred_post (by decide) ..

@[simp] theorem State.postBarChange_slots (s : State) (k : Slot) (b : Bar) (v : Bool) :
    (s.postBarChange k b v).slots = s.slots := by unfold State.postBarChange; dsimp only; split <;> simp

@[simp] theorem State.postBarChange_log (s : State) (k : Slot) (b : Bar) (v : Bool) :
    (s.postBarChange k b v).log = s.log := by unfold State.postBarChange; dsimp only; split <;> simp

theorem State.barred_changeBar (s : State) (k : Slot) (b : Bar) (v : Bool) : s.Barred (s.changeBar k b v) := by
  unfold State.changeBar
  split
  · exact State.Barred.trans {} (State.barred_postBarChange ..)
  · exact {}

@[simp] theorem State.changeBar_log (s : State) (k : Slot) (b : Bar) (v : Bool) : (s.changeBar k b v).log = s.log := by
  unfold State.changeBar; split <;> simp

/-- The slots after a change of a bar. -/
theorem State.slot_changeBar (s : State) (k j : Slot) (b : Bar) (v : Bool) :
    (s.changeBar k b v).slot j = if j = k then (s.slot j).withBar b v else s.slot j := by
  unfold State.changeBar SlotUnit.withBar
  split
  · next h =>
    rw [State.slot_congr (State.postBarChange_slots ..), State.slot_modSlot]
    split
    · next e => subst e; rw [if_pos h]
    · rfl
  · next h =>
    split
    · next e => subst e; rw [if_neg h]
    · rfl

@[simp] theorem State.slot_changeBar_same (s : State) (k : Slot) (b : Bar) (v : Bool) :
    (s.changeBar k b v).slot k = (s.slot k).withBar b v := by rw [State.slot_changeBar, if_pos rfl]

theorem State.slot_changeBar_other (s : State) {k j : Slot} (b : Bar) (v : Bool) (h : j ≠ k) :
    (s.changeBar k b v).slot j = s.slot j := by rw [State.slot_changeBar, if_neg h]

/-! ## What an append to the log leaves (R171 to R176) -/

/-- A slot of which at most the LOG bar has changed, and with it the state of an intake without a session (R13, R173). -/
def SlotUnit.Relogged (u v : SlotUnit) : Prop :=
  v = u ∨ u.configured = true ∧ v = { u with
    bars := { u.bars with log := v.bars.log }
    intake := { u.intake with state := u.intake.state.follow v.bars } }

/-- The LOG bar is put in or taken out. -/
theorem SlotUnit.relogged_withBar (u : SlotUnit) (v : Bool) : u.Relogged (u.withBar .log v) := by
  unfold SlotUnit.withBar
  split
  · next h => exact .inr ⟨by simp_all, rfl⟩
  · exact .inl rfl

theorem SlotUnit.Relogged.trans {u v w : SlotUnit} (h : u.Relogged v) (h' : v.Relogged w) : u.Relogged w := by
  obtain rfl | ⟨hc, e⟩ := h
  · exact h'
  · obtain rfl | ⟨-, e'⟩ := h'
    · exact .inr ⟨hc, e⟩
    · refine .inr ⟨hc, e'.trans ?_⟩
      rw [e]
      simp

section
variable {u v : SlotUnit} (h : u.Relogged v)
include h

/-- Everything of the slot but its LOG bar and the state of its intake is as it was. -/
theorem SlotUnit.Relogged.frame : v = { u with
    bars := { u.bars with log := v.bars.log }, intake := { u.intake with state := v.intake.state } } := by
  obtain rfl | ⟨-, e⟩ := h
  · rfl
  · rw [e]

theorem SlotUnit.Relogged.configured : v.configured = u.configured := (congrArg SlotUnit.configured h.frame :)
theorem SlotUnit.Relogged.record : v.record = u.record := (congrArg SlotUnit.record h.frame :)
theorem SlotUnit.Relogged.lines : v.lines = u.lines := (congrArg SlotUnit.lines h.frame :)
theorem SlotUnit.Relogged.track : v.track = u.track := (congrArg SlotUnit.track h.frame :)
theorem SlotUnit.Relogged.locks : v.locks = u.locks := (congrArg SlotUnit.locks h.frame :)
theorem SlotUnit.Relogged.range : v.range = u.range := (congrArg SlotUnit.range h.frame :)
theorem SlotUnit.Relogged.fill : v.fill = u.fill := (congrArg SlotUnit.fill h.frame :)
theorem SlotUnit.Relogged.reader : v.reader = u.reader := (congrArg SlotUnit.reader h.frame :)
theorem SlotUnit.Relogged.bars : v.bars = { u.bars with log := v.bars.log } := (congrArg SlotUnit.bars h.frame :)
theorem SlotUnit.Relogged.idleDeadline : v.intake.idleDeadline = u.intake.idleDeadline :=
  (congrArg (fun x : SlotUnit => x.intake.idleDeadline) h.frame :)

/-- The slot but its bars and its intake. -/
theorem SlotUnit.Relogged.but : v = { u with bars := v.bars, intake := v.intake } := by
  obtain rfl | ⟨-, e⟩ := h
  · rfl
  · rw [e]

theorem SlotUnit.Relogged.has {b : Bar} (hb : b ≠ .log) : v.bars.has b = u.bars.has b := by
  rw [h.bars]
  cases b <;> first | rfl | exact absurd rfl hb

theorem SlotUnit.Relogged.busy : v.intake.state.busy = u.intake.state.busy := by
  obtain rfl | ⟨-, e⟩ := h
  · rfl
  · rw [e]; exact IntakeState.busy_follow ..

theorem SlotUnit.Relogged.chargedSession : v.intake.state.chargedSession = u.intake.state.chargedSession := by
  obtain rfl | ⟨-, e⟩ := h
  · rfl
  · rw [e]; exact IntakeState.chargedSession_follow ..

/-- An intake in VERIFYING, OPEN or CLOSING is left as it was. -/
theorem SlotUnit.Relogged.intake_of_busy (hb : u.intake.state.busy = true) : v.intake = u.intake := by
  obtain rfl | ⟨-, e⟩ := h
  · rfl
  · rw [e, IntakeState.follow_of_busy _ hb]

/-- An intake that stands by its bars goes on to. -/
theorem SlotUnit.Relogged.rests (hr : u.intake.state = restState u.bars) : v.intake.state = restState v.bars := by
  obtain rfl | ⟨-, e⟩ := h
  · exact hr
  · have follows : v.intake.state = u.intake.state.follow v.bars := (congrArg (fun x : SlotUnit => x.intake.state) e :)
    rw [follows, hr, restState_follow]

/-- An unconfigured slot is left as it was. -/
theorem SlotUnit.Relogged.eq_of_unconfigured (hc : u.configured = false) : v = u := by
  obtain e | ⟨h1, -⟩ := h
  · exact e
  · simp [hc] at h1

end

/-- What an append to the log may have changed: the log, the LOG bars, the ports OFFICE and CREW. -/
structure State.Relogged (s t : State) : Prop extends s.Barred t where
  slot : ∀ j, (s.slot j).Relogged (t.slot j)

theorem State.Relogged.refl (s : State) : s.Relogged s := { slot := fun _ => .inl rfl }

theorem State.Relogged.trans {s t u : State} (h : s.Relogged t) (h' : t.Relogged u) : s.Relogged u :=
  { h.toBarred.trans h'.toBarred with slot := fun j => (h.slot j).trans (h'.slot j) }

/-- The LOG bar of one slot is put in or taken out. -/
theorem State.relogged_changeBar (s : State) (k : Slot) (v : Bool) : s.Relogged (s.changeBar k .log v) := by
  refine { s.barred_changeBar k .log v with slot := fun j => ?_ }
  rw [State.slot_changeBar]
  split
  · exact SlotUnit.relogged_withBar ..
  · exact .inl rfl

/-- What the turns of the LOG evaluation over some slots leave. -/
theorem State.relogged_evaluateLogAt (s : State) (short : Bool) (l : List Slot) :
    s.Relogged (l.foldl (fun t k => t.evaluateLogAt short k) s) := by
  induction l generalizing s with
  | nil => exact .refl s
  | cons k l ih =>
    refine State.Relogged.trans ?_ (ih (s.evaluateLogAt short k))
    unfold State.evaluateLogAt
    split <;> exact State.relogged_changeBar ..

theorem State.relogged_evaluateLog (s : State) : s.Relogged s.evaluateLog :=
  s.relogged_evaluateLogAt (!s.reserveHolds) allSlots

theorem State.evaluateLogAt_log (s : State) (short : Bool) (l : List Slot) :
    (l.foldl (fun t k => t.evaluateLogAt short k) s).log = s.log := by
  induction l generalizing s with
  | nil => rfl
  | cons k l ih =>
    rw [List.foldl_cons, ih]
    unfold State.evaluateLogAt
    split <;> exact State.changeBar_log ..

@[simp] theorem State.evaluateLog_log (s : State) : s.evaluateLog.log = s.log :=
  s.evaluateLogAt_log (!s.reserveHolds) allSlots

/-- The level notice changes the log in its level state alone (R176). -/
theorem State.relogged_logLevel (s : State) : s.Relogged s.logLevel := by
  unfold State.logLevel
  split
  · exact { (s.barred_post (p := .office) (by decide) .logLevel (logLevelPayload s)).trans {} with
            slot := fun j => .inl (State.slot_congr (State.post_slots ..) j) }
  · exact .refl s

@[simp] theorem State.logLevel_records (s : State) : s.logLevel.log.records = s.log.records := by
  unfold State.logLevel; split <;> simp

theorem State.relogged_withLog (s : State) (l : StationLog) : s.Relogged { s with log := l } :=
  { slot := fun _ => .inl rfl }

theorem State.relogged_logAppend (s : State) (b : LogBody) : s.Relogged (s.logAppend b) := by
  unfold State.logAppend
  exact (s.relogged_withLog _).trans ((State.relogged_evaluateLog _).trans (State.relogged_logLevel _))

/-- An append adds its record (R171). -/
@[simp] theorem State.logAppend_records (s : State) (b : LogBody) :
    (s.logAppend b).log.records = s.log.records ++ [⟨s.log.seq, b⟩] := by simp [State.logAppend]

theorem State.relogged_logOffer (s : State) (b : LogBody) : s.Relogged (s.logOffer b) := by
  unfold State.logOffer
  split
  · exact s.relogged_logAppend b
  · exact s.relogged_withLog _

theorem State.relogged_alert (s : State) (a : Alert) : s.Relogged (s.alert a) := s.relogged_logOffer _

/-- The sessions that the reserve counts stay with the slots (R172). -/
theorem State.chargedSessions_congr {s t : State}
    (h : ∀ j, (t.slot j).intake.state.chargedSession = (s.slot j).intake.state.chargedSession) :
    t.chargedSessions = s.chargedSessions := by
  unfold State.chargedSessions
  simp only [h]

end Sys2Proof.Machine
end

section
/-! SUPPORT. What the Ranging Unit leaves of the state, and which requests stand in its queue (R31 to R38). -/

namespace Sys2Proof.Machine

/-! ## What a ranging request leaves (R31, R35) -/

/-- What the Ranging Unit leaves: all but the ports, the slots, the log, its own state and the probe input. -/
structure State.Ranged (s t : State) : Prop extends s.Calm t where
  readerBus : t.readerBus = s.readerBus := by rfl
  demand : t.demand = s.demand := by rfl
  lift : t.lift = s.lift := by rfl

theorem State.Ranged.refl (s : State) : s.Ranged s := {}

theorem State.Ranged.trans {s t u : State} (h : s.Ranged t) (h' : t.Ranged u) : s.Ranged u where
  toCalm := h.toCalm.trans h'.toCalm
  readerBus := h'.readerBus.trans h.readerBus
  demand := h'.demand.trans h.demand
  lift := h'.lift.trans h.lift

theorem State.Barred.ranged {s t : State} (h : s.Barred t) : s.Ranged t :=
  { h.toCalm with readerBus := h.readerBus, demand := h.demand, lift := h.lift }

theorem State.Ranged.custodyOn {s t : State} (h : s.Ranged t) (k : Slot) : t.custodyOn k = s.custodyOn k := by
  unfold State.custodyOn; rw [h.lift]

theorem State.Ranged.frame {s t : State} (h : s.Ranged t) : t = { s with
    ports := t.ports, slots := t.slots, ranging := t.ranging, log := t.log, probe := t.probe, freeIndex := t.freeIndex } := by
  obtain ⟨⟨_, _, _, _, _, _, _, _, _, _, _, _, _⟩, _, _, _⟩ := h
  cases s
  cases t
  simp_all

/-- What the choice of a burst may have changed: the Ranging Unit, and what an append to the log changes. -/
structure State.Reranged (s t : State) : Prop extends s.Ranged t where
  service : t.ports.service = s.ports.service := by rfl
  slot : ∀ j, (s.slot j).Relogged (t.slot j)

theorem State.Relogged.reranged {s t : State} (h : s.Relogged t) : s.Reranged t :=
  { h.ranged with service := h.service, slot := h.slot }

theorem State.Reranged.refl (s : State) : s.Reranged s := (State.Relogged.refl s).reranged

theorem State.Reranged.trans {s t u : State} (h : s.Reranged t) (h' : t.Reranged u) : s.Reranged u :=
  { h.toRanged.trans h'.toRanged with
    service := h'.service.trans h.service, slot := fun j => (h.slot j).trans (h'.slot j) }

theorem State.reranged_modRanging (s : State) (f : Ranging → Ranging) : s.Reranged (s.modRanging f) :=
  { slot := fun _ => .inl rfl }

theorem State.reranged_noteProbe (s : State) : s.Reranged s.noteProbe := by
  unfold State.noteProbe
  split
  · exact s.reranged_modRanging _
  · split
    · exact .refl s
    · exact (s.reranged_modRanging _).trans (State.relogged_alert ..).reranged

/-- Reading the probe leaves the queue and the burst (R31). -/
theorem State.noteProbe_queue (s : State) :
    s.noteProbe.ranging.queue = s.ranging.queue ∧ s.noteProbe.ranging.burst = s.ranging.burst := by
  unfold State.noteProbe
  split
  · exact ⟨rfl, rfl⟩
  · split
    · exact ⟨rfl, rfl⟩
    · rw [(State.relogged_alert ..).ranging]
      exact ⟨rfl, rfl⟩

theorem State.reranged_sampleProbe (s : State) : s.Reranged s.sampleProbe := { slot := fun _ => .inl rfl }

theorem State.reranged_startBurst (s : State) (e : RangeEntry) : s.Reranged (s.startBurst e) := by
  unfold State.startBurst
  exact (s.reranged_modRanging _).trans ((State.reranged_noteProbe _).trans
    ((State.reranged_sampleProbe _).trans (State.reranged_modRanging _ _)))

/-- A burst that starts takes its entry from the queue (R35). -/
theorem State.startBurst_ranging (s : State) (e : RangeEntry) :
    (s.startBurst e).ranging.queue = removeRange e.slot s.ranging.queue
      ∧ ∃ b, (s.startBurst e).ranging.burst = some b ∧ b.slot = e.slot ∧ b.cause = e.cause :=
  ⟨(State.noteProbe_queue _).1, _, rfl, rfl, rfl⟩

/-- The choice of a burst changes nothing, or it starts a burst at the first eligible entry (R35). -/
theorem State.chooseBurst_cases (s : State) : s.chooseBurst = s
    ∨ ∃ e, s.ranging.burst = none ∧ s.ranging.queue.find? s.mayMeasure = some e ∧ s.chooseBurst = s.startBurst e := by
  unfold State.chooseBurst
  split
  · exact .inl rfl
  · next hb =>
    split
    · next e he => exact .inr ⟨e, by simpa using hb, he, rfl⟩
    · exact .inl rfl

theorem State.reranged_chooseBurst (s : State) : s.Reranged s.chooseBurst := by
  obtain h | ⟨e, -, -, h⟩ := s.chooseBurst_cases
  · rw [h]; exact .refl s
  · rw [h]; exact s.reranged_startBurst e

/-- A request of another class than LIFT is dropped under FLOOD without a report (R32). -/
theorem State.queueRange_eq (s : State) (b : Bool) (k : Slot) {c : RangeCause} (hc : c ≠ .lift) : s.queueRange b k c =
    if (s.slot k).configured = true ∧ (s.slot k).bars.flood = false then
      s.modRanging fun x => { x with queue := queueAfter b k c x.queue }
    else s := by
  unfold State.queueRange State.reportDiscard
  cases (s.slot k).configured <;> cases (s.slot k).bars.flood <;> simp [hc]

theorem State.reranged_queueRange (s : State) (b : Bool) (k : Slot) {c : RangeCause} (hc : c ≠ .lift) :
    s.Reranged (s.queueRange b k c) := by
  rw [s.queueRange_eq b k hc]
  split
  · exact s.reranged_modRanging _
  · exact .refl s

theorem State.queueRange_slots (s : State) (b : Bool) (k : Slot) {c : RangeCause} (hc : c ≠ .lift) :
    (s.queueRange b k c).slots = s.slots := by rw [s.queueRange_eq b k hc]; split <;> rfl

theorem State.reranged_requestRange (s : State) (k : Slot) {c : RangeCause} (hc : c ≠ .lift) :
    s.Reranged (s.requestRange k c) := (s.reranged_queueRange false k hc).trans (State.reranged_chooseBurst _)

/-! ## The first entry of a slot in the queue (R32) -/

/-- The first entry of a slot in a queue. -/
def firstOf (k : Slot) (q : List RangeEntry) : Option RangeEntry := q.find? fun e => e.slot == k

theorem firstOf_slot {k : Slot} {q : List RangeEntry} {e : RangeEntry} (h : firstOf k q = some e) : e.slot = k := by
  simpa using List.find?_some h

theorem firstOf_insertAtEnd_other {k : Slot} {e : RangeEntry} (h : e.slot ≠ k) (q : List RangeEntry) :
    firstOf k (insertAtEnd e q) = firstOf k q := by
  induction q with
  | nil => simp [firstOf, insertAtEnd, h]
  | cons x q ih =>
    unfold firstOf at ih ⊢
    unfold insertAtEnd
    split
    · rw [List.find?_cons_of_neg (by simpa using h)]
    · simp only [List.find?_cons, ih]

theorem firstOf_insertAtHead_other {k : Slot} {e : RangeEntry} (h : e.slot ≠ k) (q : List RangeEntry) :
    firstOf k (insertAtHead e q) = firstOf k q := by
  induction q with
  | nil => simp [firstOf, insertAtHead, h]
  | cons x q ih =>
    unfold firstOf at ih ⊢
    unfold insertAtHead
    split
    · rw [List.find?_cons_of_neg (by simpa using h)]
    · simp only [List.find?_cons, ih]

theorem firstOf_insertAtEnd_same {e : RangeEntry} {q : List RangeEntry} (h : firstOf e.slot q = none) :
    firstOf e.slot (insertAtEnd e q) = some e := by
  induction q with
  | nil => simp [firstOf, insertAtEnd]
  | cons x q ih =>
    unfold firstOf at ih h ⊢
    rw [List.find?_cons] at h
    unfold insertAtEnd
    split
    · simp
    · split at h
      · cases h
      · next hx => rw [List.find?_cons, hx]; exact ih h

theorem firstOf_insertAtHead_same {e : RangeEntry} {q : List RangeEntry} (h : firstOf e.slot q = none) :
    firstOf e.slot (insertAtHead e q) = some e := by
  induction q with
  | nil => simp [firstOf, insertAtHead]
  | cons x q ih =>
    unfold firstOf at ih h ⊢
    rw [List.find?_cons] at h
    unfold insertAtHead
    split
    · simp
    · split at h
      · cases h
      · next hx => rw [List.find?_cons, hx]; exact ih h

theorem firstOf_removeRange_same (k : Slot) (q : List RangeEntry) : firstOf k (removeRange k q) = none := by
  simp [firstOf, removeRange]

theorem firstOf_removeRange_other {j k : Slot} (h : j ≠ k) (q : List RangeEntry) :
    firstOf k (removeRange j q) = firstOf k q := by
  unfold firstOf removeRange
  rw [List.find?_filter]
  congr 1
  funext e
  by_cases he : e.slot = k
  · simp [he, h.symm]
  · simp [he]

/-- A request for a slot leaves the entries of the others (R32). -/
theorem firstOf_queueAfter_other {j k : Slot} (h : j ≠ k) (b : Bool) (c : RangeCause) (q : List RangeEntry) :
    firstOf k (queueAfter b j c q) = firstOf k q := by
  have put (q : List RangeEntry) :
      firstOf k ((if b then insertAtHead ⟨j, c⟩ else insertAtEnd ⟨j, c⟩) q) = firstOf k q := by
    cases b
    · exact firstOf_insertAtEnd_other (e := ⟨j, c⟩) h q
    · exact firstOf_insertAtHead_other (e := ⟨j, c⟩) h q
  unfold queueAfter
  dsimp only
  split
  · exact put q
  · split
    · rw [put, firstOf_removeRange_other h]
    · rfl

/-- After a request for a slot its first entry is of that class or a higher one (R32, R37). -/
theorem firstOf_queueAfter_same (b : Bool) (k : Slot) (c : RangeCause) (q : List RangeEntry) :
    ∃ e, firstOf k (queueAfter b k c q) = some e ∧ e.cause.code ≤ c.code := by
  have put {q : List RangeEntry} (h : firstOf k q = none) :
      firstOf k ((if b then insertAtHead ⟨k, c⟩ else insertAtEnd ⟨k, c⟩) q) = some ⟨k, c⟩ := by
    cases b
    · exact firstOf_insertAtEnd_same (e := ⟨k, c⟩) h
    · exact firstOf_insertAtHead_same (e := ⟨k, c⟩) h
  unfold queueAfter
  dsimp only
  split
  · next h => exact ⟨_, put h, Nat.le_refl _⟩
  · next e h =>
    split
    · exact ⟨_, put (firstOf_removeRange_same k q), Nat.le_refl _⟩
    · exact ⟨e, h, by omega⟩

/-- A request of at least a class stands for slot k, as the first of the slot in the queue or as the burst in flight (R32,
R35): what keeps `State.rangingAsked` when a burst is chosen. -/
def State.firstAsked (t : State) (k : Slot) (c : RangeCause) : Prop :=
  (∃ e, firstOf k t.ranging.queue = some e ∧ e.cause.code ≤ c.code)
    ∨ ∃ b, t.ranging.burst = some b ∧ b.slot = k ∧ b.cause.code ≤ c.code

section
variable {s t : State} {k : Slot} {c : RangeCause}

theorem State.firstAsked.rangingAsked (h : s.firstAsked k c) : s.rangingAsked k c := by
  obtain ⟨e, he, hc⟩ | h := h
  · exact .inl ⟨e, List.mem_of_find?_eq_some he, firstOf_slot he, hc⟩
  · exact .inr h

theorem State.firstAsked.congr (h : s.firstAsked k c) (e : t.ranging = s.ranging) : t.firstAsked k c := by
  unfold State.firstAsked at h ⊢; rwa [e]

/-- A request brings about that it stands (R32). -/
theorem State.firstAsked_queueRange (b : Bool) (hc : c ≠ .lift) (hk : (s.slot k).configured = true)
    (hf : (s.slot k).bars.flood = false) : (s.queueRange b k c).firstAsked k c := by
  rw [s.queueRange_eq b k hc, if_pos ⟨hk, hf⟩]
  exact .inl (firstOf_queueAfter_same b k c s.ranging.queue)

/-- Another request keeps it (R32). -/
theorem State.firstAsked.queueRange (h : s.firstAsked k c) (b : Bool) {j : Slot} (hj : j ≠ k) {d : RangeCause}
    (hd : d ≠ .lift) : (s.queueRange b j d).firstAsked k c := by
  rw [s.queueRange_eq b j hd]
  split
  · obtain ⟨e, he, hc⟩ | h := h
    · exact .inl ⟨e, (firstOf_queueAfter_other hj b d _).trans he, hc⟩
    · exact .inr h
  · exact h

/-- An entry that may be measured behind an ineligible first one of its slot is of class LIFT (R35). -/
theorem State.cause_of_mayMeasure {e x : RangeEntry} (he : s.mayMeasure e = false) (hx : s.mayMeasure x = true)
    (hs : x.slot = e.slot) : x.cause = .lift := by
  unfold State.mayMeasure at he hx
  rw [hs] at hx
  simp only [Bool.and_eq_true, Bool.or_eq_true, beq_iff_eq] at hx
  obtain ⟨⟨⟨configured, dry⟩, seated⟩, home | lift⟩ := hx
  · simp [configured, dry, seated, home] at he
  · exact lift

/-- The burst that is chosen takes the first entry of its slot, or one of class LIFT behind it (R35). -/
theorem State.find?_mayMeasure_le {q : List RangeEntry} {e x : RangeEntry} (he : firstOf k q = some e)
    (hx : q.find? s.mayMeasure = some x) (hk : x.slot = k) : x.cause.code ≤ e.cause.code := by
  induction q with
  | nil => cases he
  | cons a q ih =>
    unfold firstOf at he ih
    rw [List.find?_cons] at he hx
    cases hm : s.mayMeasure a with
    | true =>
      rw [hm] at hx
      cases hx
      rw [beq_iff_eq.mpr hk] at he
      cases he
      exact Nat.le_refl _
    | false =>
      rw [hm] at hx
      by_cases ha : a.slot = k
      · rw [beq_iff_eq.mpr ha] at he
        cases he
        rw [State.cause_of_mayMeasure hm (List.find?_some hx) (hk.trans ha.symm)]
        exact Nat.zero_le _
      · rw [beq_eq_false_iff_ne.mpr ha] at he
        exact ih he hx

/-- The choice of a burst keeps it (R35). -/
theorem State.firstAsked.chooseBurst (h : s.firstAsked k c) : s.chooseBurst.firstAsked k c := by
  obtain e | ⟨x, hb, hx, e⟩ := s.chooseBurst_cases
  · rwa [e]
  · rw [e]
    obtain ⟨queue, b, burst, slot, cause⟩ := s.startBurst_ranging x
    obtain ⟨y, hy, hc⟩ | ⟨b', hb', -⟩ := h
    · by_cases hk : x.slot = k
      · refine .inr ⟨b, burst, slot.trans hk, ?_⟩
        rw [cause]
        exact (State.find?_mayMeasure_le hy hx hk).trans hc
      · exact .inl ⟨y, by rw [queue, firstOf_removeRange_other hk, hy], hc⟩
    · rw [hb] at hb'
      cases hb'

end

/-! ## The waiters of RANGE_NOW (R34) -/

/-- The state in which the waiters of a slot have been told an outcome, but still stand. -/
def State.toldWaiters (k : Slot) (o : RangeOutcome) (s : State) : State :=
  let s1 := if (s.slot k).range.waitOffice then s.post .office .rangeResult (encSlot k ++ o.fields) else s
  if (s.slot k).range.waitService then s1.post .service .rangeResult (encSlot k ++ o.fields) else s1

theorem State.answerWaiters_eq (s : State) (k : Slot) (o : RangeOutcome) : s.answerWaiters k o =
    (s.toldWaiters k o).modRange k fun x => { x with waitOffice := false, waitService := false } := rfl

@[simp] theorem State.toldWaiters_slots (s : State) (k : Slot) (o : RangeOutcome) :
    (s.toldWaiters k o).slots = s.slots := by
  unfold State.toldWaiters; dsimp only; split <;> split <;> simp

@[simp] theorem State.toldWaiters_ranging (s : State) (k : Slot) (o : RangeOutcome) :
    (s.toldWaiters k o).ranging = s.ranging := by
  unfold State.toldWaiters; dsimp only; split <;> split <;> simp

/-- The slots when the waiters of one have been answered. -/
theorem State.slot_answerWaiters (s : State) (k j : Slot) (o : RangeOutcome) : (s.answerWaiters k o).slot j =
    if j = k then { s.slot j with range := { (s.slot j).range with waitOffice := false, waitService := false } }
    else s.slot j := by
  rw [State.answerWaiters_eq, State.modRange, State.slot_modSlot, State.slot_congr (State.toldWaiters_slots ..)]

theorem State.ranged_post (s : State) (p : Port) (n : NoticeKind) (pl : List Byte) : s.Ranged (s.post p n pl) :=
  { s.calm_post p n pl with readerBus := by simp, demand := by simp, lift := by simp }

theorem State.ranged_modSlot (s : State) (k : Slot) (f : SlotUnit → SlotUnit) : s.Ranged (s.modSlot k f) := {}

theorem State.ranged_toldWaiters (s : State) (k : Slot) (o : RangeOutcome) : s.Ranged (s.toldWaiters k o) := by
  unfold State.toldWaiters
  dsimp only
  split <;> split
  · exact (s.ranged_post ..).trans (State.ranged_post ..)
  · exact s.ranged_post ..
  · exact s.ranged_post ..
  · exact .refl s

theorem State.ranged_answerWaiters (s : State) (k : Slot) (o : RangeOutcome) : s.Ranged (s.answerWaiters k o) := by
  rw [State.answerWaiters_eq, State.modRange]
  exact (s.ranged_toldWaiters k o).trans (State.ranged_modSlot ..)

@[simp] theorem State.answerWaiters_ranging (s : State) (k : Slot) (o : RangeOutcome) :
    (s.answerWaiters k o).ranging = s.ranging := s.toldWaiters_ranging k o

/-- A change of a slot that changes nothing. -/
theorem State.modSlot_eq_self {s : State} {k : Slot} {f : SlotUnit → SlotUnit} (h : f (s.slot k) = s.slot k) :
    s.modSlot k f = s := by
  unfold State.modSlot
  rw [h]
  simp [State.setSlot, State.slot]

/-- Where no one waits nothing is answered. -/
theorem State.answerWaiters_none {s : State} {k : Slot} (o : RangeOutcome) (ho : (s.slot k).range.waitOffice = false)
    (hs : (s.slot k).range.waitService = false) : s.answerWaiters k o = s := by
  have told : s.toldWaiters k o = s := by simp [State.toldWaiters, ho, hs]
  have range : { (s.slot k).range with waitOffice := false, waitService := false } = (s.slot k).range := by
    cases hr : (s.slot k).range
    simp_all
  rw [State.answerWaiters_eq, told]
  refine State.modSlot_eq_self ?_
  dsimp only
  rw [range]

/-! ## Entries and bursts that are removed (R7, R38) -/

/-- Without custody in CLOSING on a slot no report ends a lift (R150). -/
theorem State.reportDiscard_eq {s : State} {k : Slot} (h : s.custodyOn k = .none) (c : RangeCause) :
    s.reportDiscard k c = s := by simp [State.reportDiscard, State.liftReport, h]

theorem State.removeEntry_eq {s : State} {k : Slot} (h : s.custodyOn k = .none) (o : RangeOutcome) :
    s.removeEntry k o = if (s.rangeEntry k).isSome then
      (s.modRanging fun x => { x with queue := removeRange k x.queue }).answerWaiters k o else s := by
  unfold State.removeEntry
  cases s.rangeEntry k with
  | none => rfl
  | some e =>
    refine State.reportDiscard_eq ?_ e.cause
    rw [(State.ranged_answerWaiters ..).custodyOn]
    exact h

theorem State.discardBurst_eq {s : State} {k : Slot} (h : s.custodyOn k = .none) (o : RangeOutcome) :
    s.discardBurst k o = if (s.burstOn k).isSome then
      (s.modRanging fun x => { x with burst := none }).answerWaiters k o else s := by
  unfold State.discardBurst
  cases s.burstOn k with
  | none => rfl
  | some b =>
    refine State.reportDiscard_eq ?_ b.cause
    rw [(State.ranged_answerWaiters ..).custodyOn]
    exact h

/-- The waiters of slot k are in t as in s; the port SERVICE is as it was, and OFFICE has taken frames at most. -/
structure State.WaitersKept (s t : State) (k : Slot) : Prop where
  waitOffice : (t.slot k).range.waitOffice = (s.slot k).range.waitOffice
  waitService : (t.slot k).range.waitService = (s.slot k).range.waitService
  run : t.run = s.run
  office : (s.port .office).outbox <+: (t.port .office).outbox
  service : t.port .service = s.port .service

/-- The waiters of slot k in s have been told an outcome once, each at its port, and none stands in t (R34). -/
structure State.WaitersTold (s t : State) (k : Slot) (o : RangeOutcome) : Prop where
  noOffice : (t.slot k).range.waitOffice = false
  noService : (t.slot k).range.waitService = false
  run : t.run = s.run
  office : (s.slot k).range.waitOffice = true → ∃ a : State, a.run = s.run
    ∧ (s.port .office).outbox <+: (a.port .office).outbox
    ∧ ((a.post .office .rangeResult (encSlot k ++ o.fields)).port .office).outbox <+: (t.port .office).outbox
  service : t.port .service
    = (if (s.slot k).range.waitService then s.post .service .rangeResult (encSlot k ++ o.fields) else s).port .service

section
variable {s t u : State} {k : Slot} {o : RangeOutcome}

theorem State.WaitersKept.refl (s : State) (k : Slot) : s.WaitersKept s k := ⟨rfl, rfl, rfl, List.prefix_rfl, rfl⟩

theorem State.WaitersKept.trans (h : s.WaitersKept t k) (h' : t.WaitersKept u k) : s.WaitersKept u k :=
  ⟨h'.waitOffice.trans h.waitOffice, h'.waitService.trans h.waitService, h'.run.trans h.run, h.office.trans h'.office,
    h'.service.trans h.service⟩

theorem State.WaitersTold.trans (h : s.WaitersTold t k o) (h' : t.WaitersKept u k) : s.WaitersTold u k o where
  noOffice := h'.waitOffice.trans h.noOffice
  noService := h'.waitService.trans h.noService
  run := h'.run.trans h.run
  office hw := by
    obtain ⟨a, hr, ha, ht⟩ := h.office hw
    exact ⟨a, hr, ha, ht.trans h'.office⟩
  service := h'.service.trans h.service

/-- What the choice of a burst does keeps the waiters. -/
theorem State.Reranged.waitersKept (h : s.Reranged t) (hn : s.Noticed t) (k : Slot) : s.WaitersKept t k :=
  ⟨by rw [(h.slot k).range], by rw [(h.slot k).range], h.run, (hn.port .office).outboxPrefix, h.service⟩

/-- Waiters that still stand are told as they are answered (R34). -/
theorem State.WaitersKept.answered (h : s.WaitersKept t k) : s.WaitersTold (t.answerWaiters k o) k o := by
  have ports : ∀ p, (t.answerWaiters k o).port p = (t.toldWaiters k o).port p := fun _ => rfl
  refine ⟨by simp [State.slot_answerWaiters], by simp [State.slot_answerWaiters],
    (State.ranged_answerWaiters ..).run.trans h.run, fun hw => ⟨t, h.run, h.office, ?_⟩, ?_⟩
  · rw [← h.waitOffice] at hw
    rw [ports, State.toldWaiters]
    simp only [hw, ↓reduceIte]
    split
    · rw [State.post_port_other (p := .service) (q := .office) _ _ _ (by decide)]
    · exact List.prefix_rfl
  · rw [ports, State.toldWaiters, ← h.waitService]
    have office : (if (t.slot k).range.waitOffice = true then t.post .office .rangeResult (encSlot k ++ o.fields)
        else t).port .service = s.port .service := by
      split
      · rw [State.post_port_other _ _ _ (by decide), h.service]
      · exact h.service
    split
    · refine State.notify_port_congr ?_ office _ _
      split
      · rw [State.post_run, h.run]
      · exact h.run
    · exact office

/-- The waiters of slot k stand as in s, or have been told. -/
def State.waitersDone (s t : State) (k : Slot) (o : RangeOutcome) : Prop := s.WaitersKept t k ∨ s.WaitersTold t k o

theorem State.waitersDone.answered (h : s.waitersDone t k o) : s.WaitersTold (t.answerWaiters k o) k o := by
  obtain h | h := h
  · exact h.answered
  · rwa [State.answerWaiters_none o h.noOffice h.noService]

theorem State.waitersDone.trans (h : s.waitersDone t k o) (h' : t.WaitersKept u k) : s.waitersDone u k o :=
  h.imp (·.trans h') (·.trans h')

theorem State.waitersKept_modRanging (s : State) (f : Ranging → Ranging) (k : Slot) : s.WaitersKept (s.modRanging f) k :=
  ⟨rfl, rfl, rfl, List.prefix_rfl, rfl⟩

theorem State.waitersDone.removeEntry (h : s.waitersDone t k o) (hc : t.custodyOn k = .none) :
    s.waitersDone (t.removeEntry k o) k o := by
  rw [State.removeEntry_eq hc]
  split
  · exact .inr (h.trans (t.waitersKept_modRanging _ k)).answered
  · exact h

theorem State.waitersDone.discardBurst (h : s.waitersDone t k o) (hc : t.custodyOn k = .none) :
    s.waitersDone (t.discardBurst k o) k o := by
  rw [State.discardBurst_eq hc]
  split
  · exact .inr (h.trans (t.waitersKept_modRanging _ k)).answered
  · exact h

/-- A waiter at OFFICE that has been told has its RANGE_RESULT posted (R34). -/
theorem State.WaitersTold.posted (h : s.WaitersTold t k o) (hr : s.run = .running)
    (hw : (s.slot k).range.waitOffice = true) : s.posted t .office 0xC4 (encSlot k ++ o.fields) := by
  obtain ⟨a, ha, before, after⟩ := h.office hw
  exact State.posted_of_notify (ha.trans hr) before after

end

end Sys2Proof.Machine
end

section
/-! SUPPORT. SLOT_REMOVE (O23): what each of its stages leaves (R4, R7, R34, R135). -/

namespace Sys2Proof.Machine

/-! ## Taking and answering (R179) -/

@[simp] theorem State.slot_popRequest (s : State) (p : Port) (f : List Byte) (k : Slot) :
    (s.popRequest p f).slot k = s.slot k := by rw [s.popRequest_frame]; rfl

@[simp] theorem State.custodyOn_popRequest (s : State) (p : Port) (f : List Byte) (k : Slot) :
    (s.popRequest p f).custodyOn k = s.custodyOn k := by rw [s.popRequest_frame]; rfl

@[simp] theorem State.demandOf_popRequest (s : State) (p : Port) (f : List Byte) (k : Slot) :
    (s.popRequest p f).demandOf k = s.demandOf k := by rw [s.popRequest_frame]; rfl

@[simp] theorem State.popRequest_demand (s : State) (p : Port) (f : List Byte) : (s.popRequest p f).demand = s.demand := by
  rw [s.popRequest_frame]

@[simp] theorem State.slotBusy_popRequest (s : State) (p : Port) (f : List Byte) (k : Slot) :
    (s.popRequest p f).slotBusy k = s.slotBusy k := by simp [State.slotBusy]

@[simp] theorem State.slot_answer (s : State) (t : Taken) (st : Status) (pl : List Byte) (k : Slot) :
    (s.answer t st pl).slot k = s.slot k := rfl

theorem State.ranged_answer (s : State) (t : Taken) (st : Status) (pl : List Byte) : s.Ranged (s.answer t st pl) := {}

theorem State.slotBusy_iff (s : State) (k : Slot) :
    s.slotBusy k = true ↔ (s.slot k).intake.state.busy = true ∨ s.custodyOn k ≠ .none := by simp [State.slotBusy]

theorem State.slotBusy_eq_false_iff (s : State) (k : Slot) :
    s.slotBusy k = false ↔ (s.slot k).intake.state.busy = false ∧ s.custodyOn k = .none := by simp [State.slotBusy]

/-- A shared operation leads to a state whose ports have grown by notices. -/
theorem State.Noticed.holds {s t : State} (h : s.Noticed t) : (Kept.noticed s).holds t := h

/-! ## Entries, bursts and waiters that are dropped (R7, R34, R38) -/

/-- What the dropping of the requests of slot k leaves: of the slots all but its waiters. -/
structure State.Dropped (s t : State) (k : Slot) : Prop extends s.Ranged t where
  same : t.slot k = { s.slot k with range := { (s.slot k).range with
    waitOffice := (t.slot k).range.waitOffice, waitService := (t.slot k).range.waitService } }
  other : ∀ j, j ≠ k → t.slot j = s.slot j

section
variable {s t u : State} {k : Slot} {o : RangeOutcome}

theorem State.Dropped.refl (s : State) (k : Slot) : s.Dropped s k := { State.Ranged.refl s with same := rfl, other := fun _ _ => rfl }

section
variable (h : s.Dropped t k)
include h

theorem State.Dropped.record : (t.slot k).record = (s.slot k).record := (congrArg SlotUnit.record h.same :)
theorem State.Dropped.lines : (t.slot k).lines = (s.slot k).lines := (congrArg SlotUnit.lines h.same :)
theorem State.Dropped.reader : (t.slot k).reader = (s.slot k).reader := (congrArg SlotUnit.reader h.same :)

end

theorem State.Dropped.trans (h : s.Dropped t k) (h' : t.Dropped u k) : s.Dropped u k :=
  { h.toRanged.trans h'.toRanged with
    same := by rw [h'.same, h.same]
    other := fun j hj => (h'.other j hj).trans (h.other j hj) }

theorem State.dropped_modRanging (s : State) (f : Ranging → Ranging) (k : Slot) : s.Dropped (s.modRanging f) k :=
  { same := rfl, other := fun _ _ => rfl }

theorem State.dropped_answerWaiters (s : State) (k : Slot) (o : RangeOutcome) : s.Dropped (s.answerWaiters k o) k :=
  { s.ranged_answerWaiters k o with
    same := by simp [State.slot_answerWaiters]
    other := fun j hj => by simp [State.slot_answerWaiters, hj] }

theorem State.dropped_removeEntry (hc : s.custodyOn k = .none) (o : RangeOutcome) : s.Dropped (s.removeEntry k o) k := by
  rw [State.removeEntry_eq hc]
  split
  · exact (s.dropped_modRanging _ k).trans (State.dropped_answerWaiters ..)
  · exact .refl s k

theorem State.dropped_discardBurst (hc : s.custodyOn k = .none) (o : RangeOutcome) : s.Dropped (s.discardBurst k o) k := by
  rw [State.discardBurst_eq hc]
  split
  · exact (s.dropped_modRanging _ k).trans (State.dropped_answerWaiters ..)
  · exact .refl s k

/-- The entry of the slot has left the queue, and the burst is as it was. -/
theorem State.removeEntry_ranging (hc : s.custodyOn k = .none) (o : RangeOutcome) :
    (s.removeEntry k o).rangeEntry k = none := by
  rw [State.removeEntry_eq hc]
  cases h : s.rangeEntry k with
  | none => exact h
  | some e =>
    simp only [Option.isSome_some, ↓reduceIte, State.rangeEntry, State.answerWaiters_ranging]
    exact firstOf_removeRange_same k s.ranging.queue

/-- No burst on the slot is in flight, and the queue is as it was. -/
theorem State.discardBurst_ranging (hc : s.custodyOn k = .none) (o : RangeOutcome) :
    (s.discardBurst k o).burstOn k = none ∧ (s.discardBurst k o).ranging.queue = s.ranging.queue := by
  rw [State.discardBurst_eq hc]
  cases h : s.burstOn k with
  | none => exact ⟨h, rfl⟩
  | some b =>
    simp only [Option.isSome_some, ↓reduceIte, State.burstOn, State.answerWaiters_ranging]
    exact ⟨rfl, rfl⟩

/-- The choice of a burst brings a slot neither an entry nor, where it is unconfigured, a burst (R35). -/
theorem State.chooseBurst_rangeEntry_none (h : s.rangeEntry k = none) : s.chooseBurst.rangeEntry k = none := by
  obtain e | ⟨x, -, -, e⟩ := s.chooseBurst_cases
  · rwa [e]
  · rw [e]
    unfold State.rangeEntry at h ⊢
    rw [(s.startBurst_ranging x).1]
    simp only [removeRange, List.find?_filter]
    rw [List.find?_eq_none] at h ⊢
    intro y hy
    simp [h y hy]

theorem State.chooseBurst_burstOn_none (h : s.burstOn k = none) (hk : (s.slot k).configured = false) :
    s.chooseBurst.burstOn k = none := by
  obtain e | ⟨x, -, hx, e⟩ := s.chooseBurst_cases
  · rwa [e]
  · rw [e]
    obtain ⟨-, b, burst, slot, -⟩ := s.startBurst_ranging x
    have eligible : s.mayMeasure x = true := List.find?_some hx
    have other : b.slot ≠ k := by
      rintro rfl
      simp [State.mayMeasure, ← slot, hk] at eligible
    simp [State.burstOn, burst, other]

/-! ## The demand of a slot that goes out of service (R7, R135) -/

/-- Without an entry of the slot the queue is as it was. -/
theorem demandRemove_of_none (h : s.demandOf k = none) : demandRemove k s.demand = s.demand := by
  unfold demandRemove
  rw [List.filter_eq_self]
  intro e he
  simpa using List.find?_eq_none.mp h e he

/-- The demand of a slot is cleared: but for the queue no more than a notice at OFFICE (R135). -/
theorem State.clearDemand_cases (s : State) (k : Slot) (r : ClearReason) :
    (s.demandOf k = none ∧ s.clearDemand k r = { s with demand := demandRemove k s.demand })
    ∨ ∃ e, s.demandOf k = some e ∧ s.clearDemand k r = ({ s with demand := demandRemove k s.demand }).post .office
        .demandCleared (clearedPayload e r (demandRemove k s.demand).length) := by
  unfold State.clearDemand
  split
  · next h => exact .inl ⟨h, by rw [demandRemove_of_none h]⟩
  · next e h => exact .inr ⟨e, h, rfl⟩

theorem State.barred_clearDemand (s : State) (k : Slot) (r : ClearReason) :
    State.Barred { s with demand := demandRemove k s.demand } (s.clearDemand k r) := by
  obtain ⟨-, e⟩ | ⟨x, -, e⟩ := s.clearDemand_cases k r
  · rw [e]; exact {}
  · rw [e]; exact State.barred_post _ (by decide) ..

@[simp] theorem State.clearDemand_slots (s : State) (k : Slot) (r : ClearReason) : (s.clearDemand k r).slots = s.slots := by
  obtain ⟨-, e⟩ | ⟨x, -, e⟩ := s.clearDemand_cases k r
  · rw [e]
  · rw [e]; simp

/-! ## SLOT_REMOVE (R7) -/

/-- The state in which all that stood for slot k has been dropped (R7). -/
def State.slotDropped (k : Slot) (s : State) : State :=
  (((s.clearDemand k .removed).removeEntry k .cancelled).discardBurst k .cancelled).answerWaiters k .cancelled

theorem State.removeSlot_eq (s : State) (k : Slot) :
    s.removeSlot k = ((s.slotDropped k).modSlot k SlotUnit.removed).chooseBurst := rfl

/-- What the dropping leaves, beside the demand of the slot. -/
theorem State.dropped_slotDropped (hc : s.custodyOn k = .none) :
    State.Dropped { s with demand := demandRemove k s.demand } (s.slotDropped k) k := by
  have cleared := s.barred_clearDemand k .removed
  have start : State.Dropped { s with demand := demandRemove k s.demand } (s.clearDemand k .removed) k :=
    { cleared.ranged with
      same := by rw [State.slot_congr (State.clearDemand_slots ..)]; rfl
      other := fun j _ => State.slot_congr (State.clearDemand_slots ..) j }
  have h1 : (s.clearDemand k .removed).custodyOn k = .none := (cleared.custodyOn k).trans hc
  have removed := start.trans (State.dropped_removeEntry h1 .cancelled)
  have h2 : ((s.clearDemand k .removed).removeEntry k .cancelled).custodyOn k = .none := (removed.custodyOn k).trans hc
  exact (removed.trans (State.dropped_discardBurst h2 .cancelled)).trans (State.dropped_answerWaiters ..)

theorem State.noticed_slotDropped (s : State) (k : Slot) : (s.clearDemand k .removed).Noticed (s.slotDropped k) :=
  Kept.answerWaiters _ _ (Kept.discardBurst _ _ (Kept.removeEntry _ _ (State.Noticed.refl _).holds))

/-- Neither an entry nor a burst of the slot is left (R7). -/
theorem State.slotDropped_ranging (hc : s.custodyOn k = .none) :
    (s.slotDropped k).rangeEntry k = none ∧ (s.slotDropped k).burstOn k = none := by
  have h1 : (s.clearDemand k .removed).custodyOn k = .none := ((s.barred_clearDemand k .removed).custodyOn k).trans hc
  have h2 : ((s.clearDemand k .removed).removeEntry k .cancelled).custodyOn k = .none :=
    ((State.dropped_removeEntry h1 .cancelled).custodyOn k).trans h1
  have entry := State.removeEntry_ranging h1 .cancelled
  obtain ⟨burst, queue⟩ := State.discardBurst_ranging h2 .cancelled
  unfold State.slotDropped State.rangeEntry State.burstOn
  rw [State.answerWaiters_ranging, queue]
  exact ⟨entry, burst⟩

/-- Its waiters have been told CANCELLED (R7, R34). -/
theorem State.slotDropped_waiters (hc : s.custodyOn k = .none) (h : t.WaitersKept (s.clearDemand k .removed) k) :
    t.WaitersTold (s.slotDropped k) k .cancelled := by
  have h1 : (s.clearDemand k .removed).custodyOn k = .none := ((s.barred_clearDemand k .removed).custodyOn k).trans hc
  have h2 : ((s.clearDemand k .removed).removeEntry k .cancelled).custodyOn k = .none :=
    ((State.dropped_removeEntry h1 .cancelled).custodyOn k).trans h1
  exact (State.waitersDone.discardBurst (State.waitersDone.removeEntry (.inl h) h1) h2).answered

/-- What is left of a slot that goes out of service depends on its record, its lines and its reader (R7). -/
theorem SlotUnit.removed_congr {u v : SlotUnit} (hr : u.record = v.record) (hl : u.lines = v.lines)
    (hd : u.reader = v.reader) : u.removed = v.removed := by
  unfold SlotUnit.removed; rw [hr, hl, hd]

/-- The slot that is out of service as the last burst is chosen (R7). -/
theorem State.slot_removed (hc : s.custodyOn k = .none) :
    ((s.slotDropped k).modSlot k SlotUnit.removed).slot k = (s.slot k).removed := by
  have dropped := State.dropped_slotDropped hc
  rw [State.slot_modSlot_same]
  exact SlotUnit.removed_congr dropped.record dropped.lines dropped.reader

/-- The last burst is chosen with the slot out of service, which it does not touch (R7, R35). -/
theorem State.slot_removeSlot (hc : s.custodyOn k = .none) : (s.removeSlot k).slot k = (s.slot k).removed := by
  rw [State.removeSlot_eq, ← State.slot_removed hc]
  refine ((State.reranged_chooseBurst _).slot k).eq_of_unconfigured ?_
  rw [State.slot_removed hc]
  rfl

theorem State.slot_removeSlot_other (hc : s.custodyOn k = .none) {j : Slot} (hj : j ≠ k) :
    (s.slot j).Relogged ((s.removeSlot k).slot j) := by
  have h := (State.reranged_chooseBurst ((s.slotDropped k).modSlot k SlotUnit.removed)).slot j
  rw [State.slot_modSlot_other _ _ hj, (State.dropped_slotDropped hc).other j hj] at h
  exact h

theorem State.ranged_removeSlot (hc : s.custodyOn k = .none) :
    State.Ranged { s with demand := demandRemove k s.demand } (s.removeSlot k) := by
  rw [State.removeSlot_eq]
  exact (State.dropped_slotDropped hc).toRanged.trans
    ((State.ranged_modSlot ..).trans (State.reranged_chooseBurst _).toRanged)

theorem State.noticed_removeSlot (s : State) (k : Slot) : (s.clearDemand k .removed).Noticed (s.removeSlot k) := by
  have h : (s.clearDemand k .removed).Noticed ((s.slotDropped k).modSlot k SlotUnit.removed) :=
    (s.noticed_slotDropped k).congr rfl rfl
  rw [State.removeSlot_eq]
  exact Kept.chooseBurst h.holds

theorem State.removeSlot_ranging (hc : s.custodyOn k = .none) :
    (s.removeSlot k).rangeEntry k = none ∧ (s.removeSlot k).burstOn k = none := by
  obtain ⟨entry, burst⟩ := State.slotDropped_ranging hc
  rw [State.removeSlot_eq]
  refine ⟨State.chooseBurst_rangeEntry_none entry, State.chooseBurst_burstOn_none burst ?_⟩
  rw [State.slot_removed hc]
  rfl

theorem State.removeSlot_waiters (hc : s.custodyOn k = .none) (h : t.WaitersKept (s.clearDemand k .removed) k) :
    t.WaitersTold (s.removeSlot k) k .cancelled := by
  have told := State.slotDropped_waiters hc h
  have removed : (s.slotDropped k).WaitersKept ((s.slotDropped k).modSlot k SlotUnit.removed) k := by
    refine ⟨?_, ?_, rfl, List.prefix_rfl, rfl⟩
    · rw [State.slot_modSlot_same, told.noOffice]; rfl
    · rw [State.slot_modSlot_same, told.noService]; rfl
  rw [State.removeSlot_eq]
  exact (told.trans removed).trans
    ((State.reranged_chooseBurst _).waitersKept (Kept.chooseBurst (State.Noticed.refl _).holds) k)

/-- What SLOT_REMOVE does with a slot number (R7). -/
theorem exec_slotRemove {s : State} {tag : Byte} {pl : List Byte} (hl : pl.length = 1)
    (h : s.offers .office (frameOf 0x05 tag pl)) :
    exec (.slotRemove .office) s = .next ((s.popRequest .office (frameOf 0x05 tag pl)).slotRemove
      { port := .office, kind := BitVec.ofNat 8 0x05, tag := tag, payload := pl }) :=
  congrArg _ (State.takeKind_offers _ h (by omega) rfl (by decide) (by decide) rfl (by simp [hl, RequestKind.admits]))

theorem Taken.slot_encSlot {t : Taken} {bs : List Byte} (h : t.payload = encSlot k ++ bs) : t.slot = some k := by
  unfold Taken.slot
  rw [h, slotAt_encSlot]

theorem State.slotRemove_badField {x : Taken} (h : x.slot = none) : s.slotRemove x = s.refuse x .badField := by
  unfold State.slotRemove; rw [h]

theorem State.slotRemove_busy {x : Taken} (h : x.slot = some k) (hb : s.slotBusy k = true) :
    s.slotRemove x = s.refuse x .busy := by
  unfold State.slotRemove; simp only [h, hb, ↓reduceIte]

theorem State.slotRemove_wrongState {x : Taken} (h : x.slot = some k) (hb : s.slotBusy k = false)
    (hc : (s.slot k).configured = false) : s.slotRemove x = s.refuse x .wrongState := by
  unfold State.slotRemove; simp [h, hb, hc]

theorem State.slotRemove_removes {x : Taken} (h : x.slot = some k) (hb : s.slotBusy k = false)
    (hc : (s.slot k).configured = true) : s.slotRemove x = (s.removeSlot k).answer x .ok (encSlot k) := by
  unfold State.slotRemove; simp [h, hb, hc]

end

/-- Settles O23. -/
theorem slotRemoveTakesASlotOutOfService : Obligations.SlotRemoveTakesASlotOutOfService := by
  refine ⟨fun s tag n h8 hn ho => ?_, fun s k tag ho => ?_⟩
  · rw [exec_slotRemove rfl ho, State.slotRemove_badField (slotAt_none (by rwa [byteAt_u8 hn]))]
    exact congrArg _ (State.refuse_popRequest ..)
  have named : ({ port := .office, kind := BitVec.ofNat 8 0x05, tag := tag, payload := encSlot k } : Taken).slot = some k :=
    Taken.slot_encSlot (List.append_nil _).symm
  rw [exec_slotRemove rfl ho]
  refine ⟨fun hb => ?_, fun hi hc hk => ?_, fun hi hc hk => ?_⟩
  · rw [State.slotRemove_busy named (by simpa using (s.slotBusy_iff k).mpr hb)]
    exact congrArg _ (State.refuse_popRequest ..)
  · rw [State.slotRemove_wrongState named (by simpa using (s.slotBusy_eq_false_iff k).mpr ⟨hi, hc⟩) (by simpa using hk)]
    exact congrArg _ (State.refuse_popRequest ..)
  rw [State.slotRemove_removes named (by simpa using (s.slotBusy_eq_false_iff k).mpr ⟨hi, hc⟩) (by simpa using hk)]
  have hslot := s.slot_popRequest .office (frameOf 0x05 tag (encSlot k))
  have cleared := (s.popRequest .office (frameOf 0x05 tag (encSlot k))).clearDemand_cases k .removed
  have barred := (s.popRequest .office (frameOf 0x05 tag (encSlot k))).barred_clearDemand k .removed
  have custody : (s.popRequest .office (frameOf 0x05 tag (encSlot k))).custodyOn k = .none := by simpa using hc
  have noticedCleared : (s.popRequest .office (frameOf 0x05 tag (encSlot k))).Noticed
      ((s.popRequest .office (frameOf 0x05 tag (encSlot k))).clearDemand k .removed) :=
    Kept.clearDemand _ _ (State.Noticed.refl _).holds
  have noticed := (s.popRequest .office (frameOf 0x05 tag (encSlot k))).noticed_removeSlot k
  have kept : s.WaitersKept ((s.popRequest .office (frameOf 0x05 tag (encSlot k))).clearDemand k .removed) k := by
    have slotK : ((s.popRequest .office (frameOf 0x05 tag (encSlot k))).clearDemand k .removed).slot k = s.slot k :=
      (State.slot_congr (State.clearDemand_slots ..) k).trans (hslot k)
    refine ⟨by rw [slotK], by rw [slotK], barred.run, ?_, barred.service⟩
    rw [← s.popRequest_outbox .office .office (frameOf 0x05 tag (encSlot k))]
    exact (noticedCleared.port .office).outboxPrefix
  have told := State.removeSlot_waiters custody kept
  obtain ⟨entry, burst⟩ := State.removeSlot_ranging custody
  have ranged : State.Ranged { s with demand := demandRemove k s.demand }
      (((s.popRequest .office (frameOf 0x05 tag (encSlot k))).removeSlot k).answer _ .ok (encSlot k)) :=
    State.Ranged.trans {} ((State.ranged_removeSlot custody).trans (State.ranged_answer _
      { port := .office, kind := BitVec.ofNat 8 0x05, tag := tag, payload := encSlot k } _ _))
  have answered := State.answer_outbox ((s.popRequest .office (frameOf 0x05 tag (encSlot k))).removeSlot k)
    { port := .office, kind := BitVec.ofNat 8 0x05, tag := tag, payload := encSlot k } .office .ok (encSlot k)
  refine ⟨_, rfl, State.answeredLast_of_noticed _ _ (noticedCleared.trans noticed), ?_, ?_, entry, burst, ranged.demand, ?_, ?_, ?_, ?_, ?_⟩
  · rw [State.slot_answer, State.slot_removeSlot custody, hslot]
    rfl
  · unfold State.demandOf
    rw [ranged.demand]
    simp [demandRemove]
  · intro e he
    obtain ⟨h, -⟩ | ⟨x, h, eq⟩ := cleared
    · rw [State.demandOf_popRequest, he] at h
      cases h
    · rw [State.demandOf_popRequest, he] at h
      cases h
      have after := (noticed.port .office).outboxPrefix.trans answered
      have slot : e.slot = k := by simpa using List.find?_some he
      rw [eq, State.popRequest_demand, clearedPayload, slot] at after
      refine State.posted_of_notify ?_ ?_ after
      · rw [s.popRequest_frame]; exact ho.1
      · exact (s.popRequest_outbox .office .office _).symm ▸ List.prefix_rfl
  · intro hw
    obtain ⟨a, run, before, after⟩ := told.office hw
    exact State.posted_of_notify (run.trans ho.1) before (after.trans answered)
  · rw [State.answer_port_other _ _ _ (by nofun)]
    exact told.service
  · intro j hj
    rw [State.slot_answer]
    have other := (State.slot_removeSlot_other custody hj).but
    rwa [hslot] at other
  · exact ranged.frame.trans (by rw [ranged.demand])

end Sys2Proof.Machine
end

section
/-! SUPPORT. What the end of a session and the report of a quiet slot leave (R13, R16, R111, R114, R115, R117, R142, R144). -/

namespace Sys2Proof.Machine

/-! ## A slot whose session ends (R115, R142) -/

/-- A slot on which a session or custody may have ended or gone on: its record, its lines, its estimate, its reader, its drum
and the bars that their own owners hold are as they were. -/
structure SlotUnit.Ended (u v : SlotUnit) : Prop where
  frame : v = { u with
    bars := v.bars, intake := v.intake, locks := v.locks, track := { u.track with tipStart := v.track.tipStart }
    range := { u.range with delay := v.range.delay } }
  has : ∀ b, b ≠ .log → b ≠ .lift → v.bars.has b = u.bars.has b

section
variable {u v w : SlotUnit}

theorem SlotUnit.Ended.refl (u : SlotUnit) : u.Ended u := ⟨rfl, fun _ _ _ => rfl⟩

theorem SlotUnit.Ended.trans (h : u.Ended v) (h' : v.Ended w) : u.Ended w :=
  ⟨by rw [h'.frame, h.frame], fun b hl hi => (h'.has b hl hi).trans (h.has b hl hi)⟩

section
variable (h : u.Ended v)
include h

theorem SlotUnit.Ended.configured : v.configured = u.configured := (congrArg SlotUnit.configured h.frame :)
theorem SlotUnit.Ended.record : v.record = u.record := (congrArg SlotUnit.record h.frame :)
theorem SlotUnit.Ended.lines : v.lines = u.lines := (congrArg SlotUnit.lines h.frame :)
theorem SlotUnit.Ended.fill : v.fill = u.fill := (congrArg SlotUnit.fill h.frame :)
theorem SlotUnit.Ended.reader : v.reader = u.reader := (congrArg SlotUnit.reader h.frame :)
theorem SlotUnit.Ended.drum : v.track.drum = u.track.drum := (congrArg (fun x : SlotUnit => x.track.drum) h.frame :)
theorem SlotUnit.Ended.jamDeadline : v.track.jamDeadline = u.track.jamDeadline :=
  (congrArg (fun x : SlotUnit => x.track.jamDeadline) h.frame :)
theorem SlotUnit.Ended.turnStart : v.track.turnStart = u.track.turnStart :=
  (congrArg (fun x : SlotUnit => x.track.turnStart) h.frame :)

theorem SlotUnit.Ended.track (ht : v.track.tipStart = u.track.tipStart) : v.track = u.track := by
  rw [show v.track = { u.track with tipStart := v.track.tipStart } from (congrArg SlotUnit.track h.frame :), ht]

end

theorem SlotUnit.Relogged.ended (h : u.Relogged v) : u.Ended v where
  frame := by rw [h.frame]
  has b hb _ := h.has hb

/-- The intake of a slot stands by its bars: no session holds it (R13). -/
def SlotUnit.rests (u : SlotUnit) : Prop := u.intake.state = restState u.bars

/-- A change of a bar keeps an intake that stands by its bars (R13). -/
theorem SlotUnit.rests.withBar (h : u.rests) (b : Bar) (v : Bool) : (u.withBar b v).rests := by
  unfold SlotUnit.withBar
  split
  · have state : u.intake.state = restState u.bars := h
    show u.intake.state.follow (u.bars.put v b) = restState (u.bars.put v b)
    rw [state, restState_follow]
  · exact h

theorem SlotUnit.busy_withBar (b : Bar) (v : Bool) (u : SlotUnit) :
    (u.withBar b v).intake.state.busy = u.intake.state.busy := by
  unfold SlotUnit.withBar
  split
  · exact IntakeState.busy_follow ..
  · rfl

theorem SlotUnit.intake_withBar_of_busy (b : Bar) (v : Bool) (h : u.intake.state.busy = true) :
    (u.withBar b v).intake = u.intake := by
  unfold SlotUnit.withBar
  split
  · rw [IntakeState.follow_of_busy _ h]
  · rfl

/-- A slot that the end of custody or of a wait for it may have touched: a session on it goes on (R13, R114, R142). -/
structure SlotUnit.Quieted (u v : SlotUnit) : Prop extends u.Ended v where
  range : v.range = u.range
  busy : v.intake.state.busy = u.intake.state.busy
  intake : u.intake.state.busy = true → v.intake = u.intake
  idleDeadline : v.intake.idleDeadline = u.intake.idleDeadline
  rests : u.rests → v.rests
  drumReleased : v.locks.drumReleased = u.locks.drumReleased

theorem SlotUnit.Quieted.refl (u : SlotUnit) : u.Quieted u := ⟨.refl u, rfl, rfl, fun _ => rfl, rfl, id, rfl⟩

theorem SlotUnit.Quieted.trans (h : u.Quieted v) (h' : v.Quieted w) : u.Quieted w :=
  ⟨h.toEnded.trans h'.toEnded, h'.range.trans h.range, h'.busy.trans h.busy,
    fun hb => (h'.intake (h.busy.trans hb)).trans (h.intake hb), h'.idleDeadline.trans h.idleDeadline, h'.rests ∘ h.rests,
    h'.drumReleased.trans h.drumReleased⟩

theorem SlotUnit.Relogged.quieted (h : u.Relogged v) : u.Quieted v :=
  ⟨h.ended, h.range, h.busy, h.intake_of_busy, h.idleDeadline, h.rests, by rw [h.locks]⟩

theorem SlotUnit.quieted_lift (u : SlotUnit) (v : Bool) : u.Quieted (u.withBar .lift v) where
  frame := by rw [u.withBar_frame .lift v]
  has b _ hb := u.withBar_has_other .lift v hb
  range := u.withBar_range ..
  busy := u.busy_withBar ..
  intake h := SlotUnit.intake_withBar_of_busy _ _ h
  idleDeadline := u.withBar_idleDeadline ..
  rests h := h.withBar _ _
  drumReleased := by rw [u.withBar_locks]

end

/-! ## What the report of a quiet slot leaves (R114, R142, R144) -/

/-- What custody that begins or ends leaves, beside its own state: the slots but for LIFT, LOG and the hatch. -/
structure State.Quieted (s t : State) : Prop extends s.Calm t where
  service : t.ports.service = s.ports.service := by rfl
  readerBus : t.readerBus = s.readerBus := by rfl
  ranging : t.ranging = s.ranging := by rfl
  demand : t.demand = s.demand := by rfl
  probe : t.probe = s.probe := by rfl
  freeIndex : t.freeIndex = s.freeIndex := by rfl
  slot : ∀ j, (s.slot j).Quieted (t.slot j)

section
variable {s t u : State}

theorem State.Quieted.refl (s : State) : s.Quieted s := { slot := fun _ => .refl _ }

theorem State.Quieted.trans (h : s.Quieted t) (h' : t.Quieted u) : s.Quieted u where
  toCalm := h.toCalm.trans h'.toCalm
  service := h'.service.trans h.service
  readerBus := h'.readerBus.trans h.readerBus
  ranging := h'.ranging.trans h.ranging
  demand := h'.demand.trans h.demand
  probe := h'.probe.trans h.probe
  freeIndex := h'.freeIndex.trans h.freeIndex
  slot j := (h.slot j).trans (h'.slot j)

theorem State.Barred.quieted (h : s.Barred t) (hs : ∀ j, (s.slot j).Quieted (t.slot j)) : s.Quieted t :=
  { h.toCalm with
    service := h.service, readerBus := h.readerBus, ranging := h.ranging, demand := h.demand, probe := h.probe
    freeIndex := h.freeIndex, slot := hs }

theorem State.Relogged.quieted (h : s.Relogged t) : s.Quieted t := h.toBarred.quieted fun j => (h.slot j).quieted

theorem State.quieted_modSlot (k : Slot) {f : SlotUnit → SlotUnit} (h : (s.slot k).Quieted (f (s.slot k))) :
    s.Quieted (s.modSlot k f) := by
  refine { slot := fun j => ?_ }
  rw [State.slot_modSlot]
  split
  · next e => subst e; exact h
  · exact .refl _

theorem State.quieted_setHatch (s : State) (k : Slot) (v : Bool) : s.Quieted (s.setHatch k v) :=
  State.quieted_modSlot k ⟨⟨rfl, fun _ _ _ => rfl⟩, rfl, rfl, fun _ => rfl, rfl, id, rfl⟩

theorem State.quieted_dropTip (s : State) (k : Slot) : s.Quieted (s.dropTip k) :=
  State.quieted_modSlot k ⟨⟨rfl, fun _ _ _ => rfl⟩, rfl, rfl, fun _ => rfl, rfl, id, rfl⟩

theorem State.quieted_modCustody (s : State) (f : Custody → Custody) : s.Quieted (s.modCustody f) :=
  { slot := fun _ => .refl _ }

theorem State.quieted_enterCustody (s : State) (st : CustodyState) (d : Option Nat) : s.Quieted (s.enterCustody st d) :=
  (s.quieted_modCustody _).trans (State.relogged_evaluateLog _).quieted

theorem State.quieted_postCustody (s : State) (k : Slot) (st : CustodyState) (r : Option CustodyReason) :
    s.Quieted (s.postCustody k st r) := by
  unfold State.postCustody
  split
  · refine (s.barred_post (p := .crew) (by decide) ..).quieted fun j => ?_
    rw [State.slot_congr (State.post_slots ..)]
    exact .refl _
  · exact .refl s

theorem State.quieted_clearLift (s : State) (k : Slot) : s.Quieted (s.changeBar k .lift false) := by
  refine (s.barred_changeBar ..).quieted fun j => ?_
  rw [State.slot_changeBar]
  split
  · exact SlotUnit.quieted_lift ..
  · exact .refl _

theorem State.quieted_clearCustody (s : State) (k : Slot) : s.Quieted (s.clearCustody k) :=
  (((s.quieted_clearLift k).trans (State.quieted_modCustody _ _)).trans (State.quieted_dropTip _ k)).trans
    (State.relogged_evaluateLog _).quieted

theorem State.quieted_endCustody (s : State) (k : Slot) (r : Option CustodyReason) : s.Quieted (s.endCustody k r) := by
  have cleared := (s.quieted_setHatch k false).trans (State.quieted_clearCustody _ k)
  unfold State.endCustody
  dsimp only
  split
  · split
    · exact cleared
    · exact cleared.trans (State.quieted_postCustody ..)
  · exact cleared

/-- What the report of a quiet slot leaves (R114, R144). -/
theorem State.quieted_slotQuiet (s : State) (k : Slot) : s.Quieted (s.slotQuiet k) := by
  unfold State.slotQuiet
  split
  · split
    · exact s.quieted_endCustody k _
    · exact (((s.quieted_modCustody _).trans (State.quieted_setHatch _ k true)).trans
        (State.quieted_enterCustody ..)).trans (State.quieted_postCustody ..)
  · exact .refl s

/-- Only custody that waits hears of a quiet slot (R114). -/
theorem State.slotQuiet_of_not_waiting {k : Slot} (h : s.custodyOn k ≠ .waiting) : s.slotQuiet k = s := if_neg h

@[simp] theorem State.postCustody_log (s : State) (k : Slot) (st : CustodyState) (r : Option CustodyReason) :
    (s.postCustody k st r).log = s.log := by unfold State.postCustody; split <;> simp

@[simp] theorem State.clearCustody_log (s : State) (k : Slot) : (s.clearCustody k).log = s.log := by
  simp [State.clearCustody, State.dropTip, State.modCustody, State.modLift]

@[simp] theorem State.endCustody_log (s : State) (k : Slot) (r : Option CustodyReason) : (s.endCustody k r).log = s.log := by
  unfold State.endCustody
  dsimp only
  split
  · split <;> simp [State.setHatch]
  · simp [State.setHatch]

@[simp] theorem State.slotQuiet_log (s : State) (k : Slot) : (s.slotQuiet k).log = s.log := by
  unfold State.slotQuiet
  split
  · split
    · exact State.endCustody_log ..
    · simp [State.enterCustody, State.setHatch, State.modCustody, State.modLift]
  · rfl

end

/-! ## A session that is closed (R115, R117) -/

/-- A slot whose session is closed, before the log and custody hear of it (R115, R117). -/
def SlotUnit.closed (now : Nat) (c : Session) (u : SlotUnit) : SlotUnit :=
  { u with
    intake := { u.intake with state := restState u.bars }
    range := { u.range with delay := if 1 ≤ c.deposits then some (now + Config.postSessionMs) else u.range.delay } }

theorem SlotUnit.Relogged.modRange {u v : SlotUnit} (h : u.Relogged v) (f : RangeSlot → RangeSlot) :
    SlotUnit.Relogged { u with range := f u.range } { v with range := f v.range } := by
  have range := h.range
  obtain rfl | ⟨hc, e⟩ := h
  · exact .inl rfl
  · rw [range]
    exact .inr ⟨hc, congrArg (fun x : SlotUnit => { x with range := f u.range }) e⟩

theorem SlotUnit.rests_closed (now : Nat) (c : Session) (u : SlotUnit) : (u.closed now c).rests := rfl

theorem SlotUnit.ended_closed (now : Nat) (c : Session) (u : SlotUnit) : u.Ended (u.closed now c) :=
  ⟨rfl, fun _ _ _ => rfl⟩

section
variable {s t : State} {k : Slot} {c : Session}

theorem State.startDelay_eq (s : State) (k : Slot) (c : Session) : s.startDelay k c = s.modRange k fun x =>
    { x with delay := if 1 ≤ c.deposits then some (s.now + Config.postSessionMs) else x.delay } := by
  unfold State.startDelay
  split
  · rfl
  · exact (State.modSlot_eq_self rfl).symm

theorem State.relogged_logSession (s : State) (k : Slot) (c : Session) (r : EndReason) : s.Relogged (s.logSession k c r) := by
  unfold State.logSession
  dsimp only
  split
  · exact s.relogged_logAppend _
  · exact s.relogged_logOffer _

/-- The state in which the record of a session that is closed has been handed over, and the delay runs (R117). -/
def State.recordedSession (k : Slot) (c : Session) (reason : EndReason) (s : State) : State :=
  (((s.setIntake k (restState (s.slot k).bars)).logSession k c reason).evaluateLog).startDelay k c

theorem State.closeSession_eq (s : State) (k : Slot) (c : Session) (r : EndReason) :
    s.closeSession k c r = (s.recordedSession k c r).slotQuiet k := rfl

/-- Handing over the record changes no more than an append does, once the session has left the open-session set. -/
theorem State.relogged_recordedSession (s : State) (k : Slot) (c : Session) (r : EndReason) :
    (s.modSlot k (SlotUnit.closed s.now c)).Relogged (s.recordedSession k c r) := by
  have logged : (s.setIntake k (restState (s.slot k).bars)).Relogged
      ((s.setIntake k (restState (s.slot k).bars)).logSession k c r).evaluateLog :=
    (State.relogged_logSession ..).trans (State.relogged_evaluateLog _)
  have now : ((s.setIntake k (restState (s.slot k).bars)).logSession k c r).evaluateLog.now = s.now := logged.now
  unfold State.recordedSession
  rw [State.startDelay_eq, now]
  refine { State.Barred.trans (State.Barred.trans {} logged.toBarred) {} with slot := fun j => ?_ }
  unfold State.modRange
  rw [State.slot_modSlot, State.slot_modSlot]
  have at_j := logged.slot j
  unfold State.setIntake State.modIntake at at_j
  rw [State.slot_modSlot] at at_j
  split
  · next e =>
    subst e
    rw [if_pos rfl] at at_j
    exact at_j.modRange fun x =>
      { x with delay := if 1 ≤ c.deposits then some (s.now + Config.postSessionMs) else x.delay }
  · next e => rwa [if_neg e] at at_j

/-- What the closing of a session leaves of a slot with its intake at rest and its delay running (R115, R117). -/
theorem State.quieted_closeSession (s : State) (k : Slot) (c : Session) (r : EndReason) :
    (s.modSlot k (SlotUnit.closed s.now c)).Quieted (s.closeSession k c r) :=
  (s.relogged_recordedSession k c r).quieted.trans (State.quieted_slotQuiet _ k)

/-- A charged session has its record appended (R117, R171). -/
theorem State.closeSession_records (s : State) (k : Slot) (r : EndReason) (h : c.charged = true) :
    (s.closeSession k c r).log.records = s.log.records
      ++ [⟨s.log.seq, .session k (s.slot k).record.fraction c s.stamp r⟩] := by
  have record : ((s.setIntake k (restState (s.slot k).bars)).slot k).record = (s.slot k).record := by
    simp [State.setIntake, State.modIntake]
  rw [State.closeSession_eq, State.slotQuiet_log, State.recordedSession, State.startDelay_eq]
  simp only [State.modRange, State.modSlot_log, State.evaluateLog_log, State.logSession, h, ↓reduceIte,
    State.logAppend_records, record]
  rfl

/-! ## What the end of a session leaves (R16, R111, R115) -/

/-- What the end of a session on slot k leaves: the slots but for their bars LOG and LIFT, intakes, locks and delays; custody,
too, where none waits on slot k (R114). -/
structure State.Ended (s t : State) (k : Slot) : Prop extends s.Calm t where
  service : t.ports.service = s.ports.service := by rfl
  readerBus : t.readerBus = s.readerBus := by rfl
  ranging : t.ranging = s.ranging := by rfl
  demand : t.demand = s.demand := by rfl
  slot : ∀ j, (s.slot j).Ended (t.slot j)
  lift : s.custodyOn k ≠ .waiting → t.lift = s.lift
  tipStart : s.custodyOn k ≠ .waiting → ∀ j, (t.slot j).track.tipStart = (s.slot j).track.tipStart

theorem State.Ended.refl (s : State) (k : Slot) : s.Ended s k :=
  { slot := fun _ => .refl _, lift := fun _ => rfl, tipStart := fun _ _ => rfl }

theorem State.Ended.trans {s t u : State} {k : Slot} (h : s.Ended t k) (h' : t.Ended u k) : s.Ended u k := by
  have waits (hc : s.custodyOn k ≠ .waiting) : t.custodyOn k ≠ .waiting := by
    unfold State.custodyOn
    rw [h.lift hc]
    exact hc
  exact { h.toCalm.trans h'.toCalm with
    service := h'.service.trans h.service
    readerBus := h'.readerBus.trans h.readerBus
    ranging := h'.ranging.trans h.ranging
    demand := h'.demand.trans h.demand
    slot := fun j => (h.slot j).trans (h'.slot j)
    lift := fun hc => (h'.lift (waits hc)).trans (h.lift hc)
    tipStart := fun hc j => (h'.tipStart (waits hc) j).trans (h.tipStart hc j) }

theorem State.Relogged.ended (h : s.Relogged t) (k : Slot) : s.Ended t k :=
  { h.toCalm with
    service := h.service, readerBus := h.readerBus, ranging := h.ranging, demand := h.demand
    slot := fun j => (h.slot j).ended, lift := fun _ => h.lift, tipStart := fun _ j => by rw [(h.slot j).track] }

theorem State.ended_modSlot {f : SlotUnit → SlotUnit} (h : (s.slot k).Ended (f (s.slot k)))
    (ht : (f (s.slot k)).track.tipStart = (s.slot k).track.tipStart) : s.Ended (s.modSlot k f) k := by
  refine { slot := fun j => ?_, lift := fun _ => rfl, tipStart := fun _ j => ?_ }
  all_goals rw [State.slot_modSlot]; split
  · next e => subst e; exact h
  · exact .refl _
  · next e => subst e; exact ht
  · rfl

theorem State.ended_setIntake (s : State) (k : Slot) (x : IntakeState) : s.Ended (s.setIntake k x) k :=
  State.ended_modSlot (f := fun u => { u with intake := { u.intake with state := x } }) ⟨rfl, fun _ _ _ => rfl⟩ rfl

theorem State.ended_slotQuiet (s : State) (k : Slot) : s.Ended (s.slotQuiet k) k :=
  { s.quieted_slotQuiet k with
    slot := fun j => ((s.quieted_slotQuiet k).slot j).toEnded
    lift := fun h => by rw [State.slotQuiet_of_not_waiting h]
    tipStart := fun h j => by rw [State.slotQuiet_of_not_waiting h] }

theorem State.ended_closeSession (s : State) (k : Slot) (c : Session) (r : EndReason) : s.Ended (s.closeSession k c r) k :=
  (State.ended_modSlot (SlotUnit.ended_closed ..) rfl).trans
    (((s.relogged_recordedSession k c r).ended k).trans (State.ended_slotQuiet _ k))

/-- A slot whose session is ended: DRUM_LOCK engaged, the idle timer stopped (R115). -/
def SlotUnit.shut (u : SlotUnit) : SlotUnit :=
  { u with intake := { u.intake with idleDeadline := none }, locks := { u.locks with drumReleased := false } }

theorem State.endSession_of_opened (r : EndReason) (h : (s.slot k).intake.state = .opened c) : s.endSession k r =
    if (s.slot k).drumHome then (s.modSlot k SlotUnit.shut).closeSession k c r
    else (s.modSlot k SlotUnit.shut).setIntake k (.closing c r) := by
  have shut : ((s.setDrumLock k false).modIntake k fun i => { i with idleDeadline := none }) = s.modSlot k SlotUnit.shut := by
    simp [State.setDrumLock, State.modIntake, State.modSlot, State.setSlot, State.slot, SlotUnit.shut]
  unfold State.endSession
  rw [h, ← shut]

theorem IntakeState.isOpen_iff {x : IntakeState} : x.isOpen = true ↔ ∃ c, x = .opened c := by
  cases x <;> simp [IntakeState.isOpen]

theorem State.endSession_of_not_opened (r : EndReason) (h : (s.slot k).intake.state.isOpen = false) :
    s.endSession k r = s := by
  unfold State.endSession
  split
  · next hi => simp [hi, IntakeState.isOpen] at h
  all_goals rfl

theorem State.ended_endSession (s : State) (k : Slot) (r : EndReason) : s.Ended (s.endSession k r) k := by
  cases ho : (s.slot k).intake.state.isOpen with
  | false => rw [State.endSession_of_not_opened r ho]; exact .refl s k
  | true =>
    obtain ⟨c, hi⟩ := IntakeState.isOpen_iff.mp ho
    have shut : s.Ended (s.modSlot k SlotUnit.shut) k := State.ended_modSlot ⟨rfl, fun _ _ _ => rfl⟩ rfl
    rw [State.endSession_of_opened r hi]
    split
    · exact shut.trans (State.ended_closeSession ..)
    · exact shut.trans (State.ended_setIntake ..)

theorem State.homeTests_of_not_opened (h : (s.slot k).intake.state.isOpen = false) : s.homeTests k = s := by
  unfold State.homeTests
  split
  · next hi => simp [hi, IntakeState.isOpen] at h
  all_goals rfl

theorem State.ended_homeTests (s : State) (k : Slot) : s.Ended (s.homeTests k) k := by
  unfold State.homeTests
  split
  · split
    · exact s.ended_endSession k _
    · exact .refl s k
  all_goals exact .refl s k

theorem State.ended_barOnSession (s : State) (k : Slot) (b : Bar) : s.Ended (s.barOnSession k b) k := by
  have tests : s.Ended (if (s.slot k).drumHome then s.homeTests k else s) k := by
    split
    · exact s.ended_homeTests k
    · exact .refl s k
  cases b with
  | drum => exact s.ended_endSession k _
  | full | flood | service | out => exact tests
  | lift | log | unmeasured => exact .refl s k

/-- A bar changes nothing of a slot without an open session (R16). -/
theorem State.barOnSession_of_not_opened (b : Bar) (h : (s.slot k).intake.state.isOpen = false) : s.barOnSession k b = s := by
  unfold State.barOnSession
  cases b <;> simp [State.endSession_of_not_opened _ h, State.homeTests_of_not_opened h]

end

end Sys2Proof.Machine
end

section
/-! SUPPORT. SERVICE_HOLD, SERVICE_RELEASE and the notices of a bar (O59; R12 to R14, R183). -/

namespace Sys2Proof.Machine

/-! ## What no change of a bar is, and what a change posts (R12 to R14) -/

section
variable {s : State} {k : Slot} {b : Bar} {v : Bool}

theorem State.changeBar_of_no_change (h : (s.slot k).configured = false ∨ (s.slot k).bars.has b = v) :
    s.changeBar k b v = s := if_neg (by obtain h | h := h <;> simp [h])

/-- The slots when a bar changes (R12, R13). -/
theorem State.modSlot_withBar (hc : (s.slot k).configured = true) (hb : (s.slot k).bars.has b = !v) :
    s.modSlot k (SlotUnit.withBar b v) = s.modSlot k fun u => { u with
      bars := (s.slot k).bars.put v b
      intake := { u.intake with state := u.intake.state.follow ((s.slot k).bars.put v b) } } := by
  have changed : (s.slot k).withBar b v = { s.slot k with
      bars := (s.slot k).bars.put v b
      intake := { (s.slot k).intake with state := (s.slot k).intake.state.follow ((s.slot k).bars.put v b) } } :=
    if_pos (by simp [hc, hb])
  unfold State.modSlot
  rw [changed]

theorem State.changeBar_of_change (hc : (s.slot k).configured = true) (hb : (s.slot k).bars.has b = !v) :
    s.changeBar k b v =
      (let u := (s.modSlot k (SlotUnit.withBar b v)).post .office .barChange
          (barChangePayload k b v ((s.slot k).bars.put v b));
      if s.lift.session.isSome then u.post .crew .barChange (barChangePayload k b v ((s.slot k).bars.put v b)) else u) := by
  have slots : (s.modSlot k fun u => { u with
      bars := u.bars.put v b, intake := { u.intake with state := u.intake.state.follow (u.bars.put v b) } })
      = s.modSlot k (SlotUnit.withBar b v) := (State.modSlot_withBar hc hb).symm
  unfold State.changeBar State.postBarChange
  rw [if_pos (by simp [hc, hb])]
  dsimp only
  rw [slots]
  simp [SlotUnit.withBar_bars _ _ _ hc]

theorem State.post_port_congr {t : State} {p : Port} (hr : t.run = s.run) (hp : t.port p = s.port p) (n : NoticeKind)
    (pl : List Byte) : (t.post p n pl).port p = (s.notify p n.code pl).port p := State.notify_port_congr hr hp _ _

/-- A change of a bar is told at OFFICE and, while a crew session is OPEN, at CREW (R14), from whatever state with those ports
it is made in. -/
theorem State.changeBar_ports {u : State} {x : BarSet} (hr : u.run = s.run) (ho : u.port .office = s.port .office)
    (hw : u.port .crew = s.port .crew) (hl : u.lift = s.lift) (hc : (u.slot k).configured = true)
    (hb : (u.slot k).bars.has b = !v) (hx : (u.slot k).bars.put v b = x) :
    (u.changeBar k b v).port .office = (s.notify .office 0xC1 (barChangePayload k b v x)).port .office
      ∧ (u.changeBar k b v).port .crew
        = (if s.lift.session.isSome then s.notify .crew 0xC1 (barChangePayload k b v x) else s).port .crew := by
  have office (y : List Byte) : ((u.modSlot k (SlotUnit.withBar b v)).post .office .barChange y).port .office
      = (s.notify .office 0xC1 y).port .office :=
    State.post_port_congr (t := u.modSlot k _) hr ho .barChange y
  have quiet (y : List Byte) : ((u.modSlot k (SlotUnit.withBar b v)).post .office .barChange y).port .crew
      = s.port .crew := (State.post_port_other _ _ _ (by decide)).trans hw
  rw [State.changeBar_of_change hc hb, hx, hl]
  dsimp only
  split
  · refine ⟨?_, State.post_port_congr (t := (u.modSlot k _).post ..) ((State.post_run ..).trans hr) (quiet _) .barChange _⟩
    rw [State.post_port_other _ _ _ (by decide), office]
  · exact ⟨office _, quiet _⟩

/-! ## The requests (R183) -/

theorem State.popRequest_of_ne_crew (s : State) {p : Port} (h : p ≠ .crew) (f : List Byte) :
    s.popRequest p f = { s with ports := (s.popRequest p f).ports } := by
  unfold State.popRequest; rw [State.restartLink_of_ne_crew _ h]; rfl

/-- An answer changes the ports alone. -/
theorem State.answer_frame {u : State} {x : Taken} {st : Status} {pl : List Byte}
    (h : u = { s with ports := u.ports, slots := u.slots }) :
    u.answer x st pl = { s with ports := (u.answer x st pl).ports, slots := (u.answer x st pl).slots } :=
  congrArg (fun w : State => { w with ports := (u.answer x st pl).ports }) h

theorem exec_serviceHold {tag : Byte} {pl : List Byte} (hl : pl.length = 1)
    (h : s.offers .service (frameOf 0x28 tag pl)) :
    exec (.serviceHold .service) s = .next ((s.popRequest .service (frameOf 0x28 tag pl)).serviceHold
      { port := .service, kind := BitVec.ofNat 8 0x28, tag := tag, payload := pl }) :=
  congrArg _ (State.takeKind_offers _ h (by omega) rfl (by decide) (by decide) rfl (by simp [hl, RequestKind.admits]))

theorem exec_serviceRelease {tag : Byte} {pl : List Byte} (hl : pl.length = 1)
    (h : s.offers .service (frameOf 0x29 tag pl)) :
    exec (.serviceRelease .service) s = .next ((s.popRequest .service (frameOf 0x29 tag pl)).serviceRelease
      { port := .service, kind := BitVec.ofNat 8 0x29, tag := tag, payload := pl }) :=
  congrArg _ (State.takeKind_offers _ h (by omega) rfl (by decide) (by decide) rfl (by simp [hl, RequestKind.admits]))

theorem State.serviceHold_badField {x : Taken} (h : x.slot = none) : s.serviceHold x = s.refuse x .badField := by
  unfold State.serviceHold; rw [h]

theorem State.serviceRelease_badField {x : Taken} (h : x.slot = none) : s.serviceRelease x = s.refuse x .badField := by
  unfold State.serviceRelease; rw [h]

theorem State.serviceHold_wrongState {x : Taken} (h : x.slot = some k)
    (hc : (s.slot k).configured = false ∨ s.custodyOn k ≠ .none) : s.serviceHold x = s.refuse x .wrongState := by
  unfold State.serviceHold
  rw [h]
  obtain hc | hc := hc <;> simp [hc]

theorem State.serviceRelease_wrongState {x : Taken} (h : x.slot = some k) (hc : (s.slot k).configured = false) :
    s.serviceRelease x = s.refuse x .wrongState := by
  unfold State.serviceRelease; simp [h, hc]

theorem State.serviceHold_sets {x : Taken} (h : x.slot = some k) (hc : (s.slot k).configured = true)
    (hn : s.custodyOn k = .none) : s.serviceHold x = (s.setBar k .service).answerBars x k := by
  unfold State.serviceHold; simp [h, hc, hn]

/-- SERVICE is cleared, behind the end of the output test on the slot (R183, R184). -/
def State.released (k : Slot) (s : State) : State := (s.endTest k).changeBar k .service false

theorem State.serviceRelease_clears {x : Taken} (h : x.slot = some k) (hc : (s.slot k).configured = true) :
    s.serviceRelease x = (s.released k).answerBars x k := by
  unfold State.serviceRelease; simp [h, hc, State.released]

/-! ## SERVICE is set (R16, R183) -/

/-- What a bar that is set leaves: its own effect on its slot, then what the end of a session leaves. -/
theorem State.ended_setBar (s : State) (k : Slot) (b : Bar) : (s.changeBar k b true).Ended (s.setBar k b) k := by
  unfold State.setBar
  split
  · exact State.ended_barOnSession ..
  · next h =>
    rw [State.changeBar_of_no_change]
    · exact .refl s k
    · cases hc : (s.slot k).configured
      · exact .inl rfl
      · exact .inr (by simpa [hc] using h)

theorem State.setBar_has (b : Bar) (hl : b ≠ .log) (hi : b ≠ .lift) (hc : (s.slot k).configured = true) :
    ((s.setBar k b).slot k).bars.has b = true := by
  rw [((s.ended_setBar k b).slot k).has b hl hi, State.slot_changeBar_same, SlotUnit.withBar_bars _ _ _ hc,
    BarSet.has_put_same]

theorem IntakeState.isOpen_follow (x : IntakeState) (b : BarSet) : (x.follow b).isOpen = x.isOpen := by
  have rests : (restState b).isOpen = false := by unfold restState; split <;> rfl
  cases x <;> first | rfl | exact rests

/-- A slot without an open session has its bar set alone (R16). -/
theorem State.setBar_of_not_opened (b : Bar) (h : (s.slot k).intake.state.isOpen = false) :
    s.setBar k b = s.changeBar k b true := by
  unfold State.setBar
  split
  · refine State.barOnSession_of_not_opened b ?_
    rw [State.slot_changeBar_same]
    unfold SlotUnit.withBar
    split
    · exact (IntakeState.isOpen_follow ..).trans h
    · exact h
  · next hb =>
    rw [State.changeBar_of_no_change]
    cases hc : (s.slot k).configured
    · exact .inl rfl
    · exact .inr (by simpa [hc] using hb)

/-- What the setting of SERVICE leaves where no custody waits (R16, R183). -/
structure State.ServiceSet (s t : State) (k : Slot) : Prop extends s.Calm t where
  noticed : s.Noticed t
  service : t.ports.service = s.ports.service
  demand : t.demand = s.demand
  lift : t.lift = s.lift
  set : (t.slot k).bars.service = true
  slot : ∀ j, (t.slot j).record = (s.slot j).record ∧ (t.slot j).fill = (s.slot j).fill
    ∧ (t.slot j).lines = (s.slot j).lines ∧ (t.slot j).track = (s.slot j).track

theorem State.serviceSets (hc : (s.slot k).configured = true) (hn : s.custodyOn k = .none) :
    s.ServiceSet (s.setBar k .service) k := by
  have changed := s.barred_changeBar k .service true
  have ended := s.ended_setBar k .service
  have waits : (s.changeBar k .service true).custodyOn k ≠ .waiting := by simp [changed.custodyOn, hn]
  refine { changed.toCalm.trans ended.toCalm with
    noticed := Kept.setBar _ _ (State.Noticed.refl s).holds
    service := ended.service.trans changed.service
    demand := ended.demand.trans changed.demand
    lift := (ended.lift waits).trans changed.lift
    set := State.setBar_has .service (by decide) (by decide) hc
    slot := fun j => ?_ }
  have at_j := ended.slot j
  rw [at_j.record, at_j.fill, at_j.lines, at_j.track (ended.tipStart waits j), State.slot_changeBar]
  split <;> simp

/-! ## An output test ends (R184) -/

/-- A slot whose output test has ended: its lock is engaged (R184). -/
def SlotUnit.testEnded (u : SlotUnit) : SlotUnit :=
  { u with locks := { u.locks with
      test := none
      drumReleased := u.locks.drumReleased && !u.locks.tests .drum
      hatchReleased := u.locks.hatchReleased && !u.locks.tests .hatch } }

theorem State.endTest_eq (s : State) (k : Slot) : s.endTest k = s.modSlot k SlotUnit.testEnded := by
  have set (x : SlotUnit) (h : x = (s.slot k).testEnded) : s.setSlot k x = s.modSlot k SlotUnit.testEnded :=
    congrArg (s.setSlot k) h
  unfold State.endTest State.setDrumLock State.setHatch
  split
  · next h =>
    rw [State.modSlot_modSlot]
    refine set _ ?_
    simp [SlotUnit.testEnded, Locks.tests, h, show (ReleaseTest.drum == .hatch) = false from rfl]
  · next h =>
    rw [State.modSlot_modSlot]
    refine set _ ?_
    simp [SlotUnit.testEnded, Locks.tests, h, show (ReleaseTest.hatch == .drum) = false from rfl]
  · next h =>
    refine (State.modSlot_eq_self ?_).symm
    simp [SlotUnit.testEnded, Locks.tests, h]
    rw [← h]

theorem State.slot_released (s : State) (k : Slot) :
    (s.released k).slot k = (s.slot k).testEnded.withBar .service false := by
  unfold State.released
  rw [State.slot_changeBar_same, State.endTest_eq, State.slot_modSlot_same]

theorem State.slot_released_other (s : State) {k j : Slot} (h : j ≠ k) : (s.released k).slot j = s.slot j := by
  unfold State.released
  rw [State.slot_changeBar_other _ _ _ h, State.endTest_eq, State.slot_modSlot_other _ _ h]

theorem State.barred_released (s : State) (k : Slot) : s.Barred (s.released k) := by
  unfold State.released
  rw [State.endTest_eq]
  exact State.Barred.trans {} (State.barred_changeBar ..)

theorem State.released_log (s : State) (k : Slot) : (s.released k).log = s.log := by
  unfold State.released
  rw [State.changeBar_log, State.endTest_eq]
  rfl

theorem State.noticed_released (s : State) (k : Slot) : s.Noticed (s.released k) := by
  unfold State.released
  rw [State.endTest_eq]
  have start : s.Noticed (s.modSlot k SlotUnit.testEnded) := (State.Noticed.refl s).congr rfl rfl
  exact Kept.changeBar _ _ _ start.holds

/-- The clearing of SERVICE is told where it stood (R14, R183). -/
theorem State.released_ports {u : State} (hr : u.run = s.run) (ho : u.port .office = s.port .office)
    (hw : u.port .crew = s.port .crew) (hl : u.lift = s.lift) (hc : (u.slot k).configured = true) :
    let p := barChangePayload k .service false ((u.slot k).bars.put false .service);
    (u.released k).port .office = (if (u.slot k).bars.service then s.notify .office 0xC1 p else s).port .office
      ∧ (u.released k).port .crew
        = (if (u.slot k).bars.service && s.lift.session.isSome then s.notify .crew 0xC1 p else s).port .crew := by
  have ended : (u.modSlot k SlotUnit.testEnded).slot k = (u.slot k).testEnded := State.slot_modSlot_same ..
  unfold State.released
  rw [State.endTest_eq]
  cases hb : (u.slot k).bars.service with
  | false =>
    rw [State.changeBar_of_no_change (.inr (by rw [ended]; exact hb))]
    exact ⟨ho, hw⟩
  | true =>
    exact State.changeBar_ports (u := u.modSlot k SlotUnit.testEnded) hr ho hw hl (by rw [ended]; exact hc)
      (by rw [ended]; exact hb) (by rw [ended]; rfl)

end

/-- Settles O59. -/
theorem serviceHoldsAndReleases : Obligations.ServiceHoldsAndReleases := by
  refine ⟨fun s k b v => ⟨fun h => State.changeBar_of_no_change h, ?_⟩, fun s tag n h8 hn => ⟨fun ho => ?_, fun ho => ?_⟩,
    fun s tag k => ⟨fun ho => ⟨fun hc => ?_, fun hc hn => ?_⟩, fun ho => ⟨fun hc => ?_, fun hc => ?_⟩⟩⟩
  · rintro x p hc hb rfl rfl
    rw [State.changeBar_of_change hc hb, State.modSlot_withBar hc hb]
    rfl
  · rw [exec_serviceHold rfl ho, State.serviceHold_badField (slotAt_none (by rwa [byteAt_u8 hn]))]
    exact congrArg _ (State.refuse_popRequest ..)
  · rw [exec_serviceRelease rfl ho, State.serviceRelease_badField (slotAt_none (by rwa [byteAt_u8 hn]))]
    exact congrArg _ (State.refuse_popRequest ..)
  · rw [exec_serviceHold rfl ho, State.serviceHold_wrongState (Taken.slot_encSlot (List.append_nil _).symm) (by simpa using hc)]
    exact congrArg _ (State.refuse_popRequest ..)
  · rw [exec_serviceHold rfl ho, State.serviceHold_sets (Taken.slot_encSlot (List.append_nil _).symm) (by simpa using hc)
      (by simpa using hn)]
    have popped := s.popRequest_of_ne_crew (p := .service) (by decide) (frameOf 0x28 tag (encSlot k))
    have sets := State.serviceSets (s := s.popRequest .service (frameOf 0x28 tag (encSlot k))) (k := k)
      (by simpa using hc) (by simpa using hn)
    refine ⟨_, rfl, sets.set, State.answeredWith_of_outbox _ _ sets.noticed ?_, fun j => ?_, sets.lift.trans ?_,
      sets.demand.trans ?_, sets.store.trans ?_, sets.batch.trans ?_, fun hs hi => ?_⟩
    · have service : (((s.popRequest .service (frameOf 0x28 tag (encSlot k))).setBar k .service).port .service).outbox
          = ((s.popRequest .service (frameOf 0x28 tag (encSlot k))).port .service).outbox :=
        congrArg PortState.outbox sets.service
      rw [service, State.popRequest_outbox, List.append_nil]
    · have at_j := sets.slot j
      rwa [State.slot_popRequest] at at_j
    · rw [popped]
    · rw [popped]
    · rw [popped]
    · rw [popped]
    · have told := State.changeBar_ports (s := s) (u := s.popRequest .service (frameOf 0x28 tag (encSlot k))) (k := k)
        (b := .service) (v := true) (by rw [popped]) (State.popRequest_port_other _ _ (by decide))
        (State.popRequest_port_other _ _ (by decide)) (by rw [popped]) (by simpa using hc)
        (by rw [State.slot_popRequest]; exact hs) rfl
      rw [State.slot_popRequest, ← State.setBar_of_not_opened .service (by simpa using hi)] at told
      exact told
  · rw [exec_serviceRelease rfl ho, State.serviceRelease_wrongState (Taken.slot_encSlot (List.append_nil _).symm)
      (by simpa using hc)]
    exact congrArg _ (State.refuse_popRequest ..)
  · rw [exec_serviceRelease rfl ho, State.serviceRelease_clears (Taken.slot_encSlot (List.append_nil _).symm)
      (by simpa using hc)]
    have popped := s.popRequest_of_ne_crew (p := .service) (by decide) (frameOf 0x29 tag (encSlot k))
    have barred := State.barred_released (s.popRequest .service (frameOf 0x29 tag (encSlot k))) k
    have slotK := State.slot_released (s.popRequest .service (frameOf 0x29 tag (encSlot k))) k
    rw [State.slot_popRequest] at slotK
    refine ⟨_, rfl, ?_, ?_, State.answeredWith_of_outbox _ _ (State.noticed_released _ k) ?_, ?_, fun j hj => ?_, ?_⟩
    · have told := State.released_ports (s := s) (u := s.popRequest .service (frameOf 0x29 tag (encSlot k))) (k := k)
        (by rw [popped]) (State.popRequest_port_other _ _ (by decide)) (State.popRequest_port_other _ _ (by decide))
        (by rw [popped]) (by simpa using hc)
      rw [State.slot_popRequest] at told
      exact told
    · exact (congrArg SlotUnit.bars slotK).trans (SlotUnit.withBar_bars _ _ _ hc)
    · have service : (((s.popRequest .service (frameOf 0x29 tag (encSlot k))).released k).port .service).outbox
          = ((s.popRequest .service (frameOf 0x29 tag (encSlot k))).port .service).outbox :=
        congrArg PortState.outbox barred.service
      rw [service, State.popRequest_outbox, List.append_nil]
    · exact (congrArg SlotUnit.locks slotK).trans (SlotUnit.withBar_locks ..)
    · exact (State.slot_released_other _ hj).trans (State.slot_popRequest ..)
    · exact State.answer_frame (barred.frame.trans (by rw [State.released_log, popped]))

end Sys2Proof.Machine
end

section
/-! SUPPORT. Cards at the readers and the idle timer (O40; R15, R96 to R102, R107, R108, R112, R115, R117). -/

namespace Sys2Proof.Machine

/-! ## The answer of a reader (R190) -/

theorem checkGood_withCheck (bs : List Byte) : checkGood (withCheck bs) = true := by
  simp [checkGood, withCheck, checkByte, byteSum]

theorem u32_bytes (n : CardNo) : BitVec.ofNat 32 (u32At (u32 n.toNat) 0) = n := by
  refine BitVec.eq_of_toNat_eq ?_
  have h := n.isLt
  simp [u32, u32At, u16At, byteAt]
  omega

/-- The answer with which a reader presents a card reads back (R98, R190). -/
theorem readerFrameAt_card (k : Slot) (n : CardNo) :
    readerFrameAt k (withCheck (encSlot k ++ [0x43] ++ u32 n.toNat)) = some (.card n) := by
  have good := checkGood_withCheck (encSlot k ++ [0x43] ++ u32 n.toNat)
  have slot : byteAt (withCheck (encSlot k ++ [0x43] ++ u32 n.toNat)) 0 = k.val := by
    fin_cases k <;> rfl
  have card : u32At (withCheck (encSlot k ++ [0x43] ++ u32 n.toNat)) 2 = u32At (u32 n.toNat) 0 := rfl
  have kind : byteAt (withCheck (encSlot k ++ [0x43] ++ u32 n.toNat)) 1 = 0x43 := rfl
  have length : (withCheck (encSlot k ++ [0x43] ++ u32 n.toNat)).length = 7 := rfl
  unfold readerFrameAt
  rw [good, slot, card, kind, length, u32_bytes]
  simp

section
variable {s t : State} {k : Slot} {n : CardNo} {began : Nat}

/-- What a state decides depends on its tables, the clock, the record, the bars and the estimate of the slot, and the charges
and sessions that the log reserve counts (R103 to R108). -/
theorem State.decision_congr (k : Slot) (o : LookupOutcome)
    (frame : t = { s with slots := t.slots, readerBus := t.readerBus, resolver := t.resolver })
    (bars : (t.slot k).bars = (s.slot k).bars) (record : (t.slot k).record = (s.slot k).record)
    (fill : (t.slot k).fill = (s.slot k).fill) (charges : t.resolver.charges = s.resolver.charges)
    (sessions : ∀ j, (t.slot j).intake.state.chargedSession = (s.slot j).intake.state.chargedSession) :
    t.decision k o = s.decision k o := by
  have config : t.config = s.config := (congrArg State.config frame :)
  have profiles : t.profiles = s.profiles := (congrArg State.profiles frame :)
  have hours : t.hours = s.hours := (congrArg State.hours frame :)
  have clock : t.clock = s.clock := (congrArg State.clock frame :)
  have store : t.store = s.store := (congrArg State.store frame :)
  have lift : t.lift = s.lift := (congrArg State.lift frame :)
  have log : t.log = s.log := (congrArg State.log frame :)
  have reserve : t.reserveHolds = s.reserveHolds := by
    unfold State.reserveHolds State.inPreparation State.logFree
    rw [State.chargedSessions_congr sessions, lift, log]
  have allowance : (t.slot k).allowance = (s.slot k).allowance := by unfold SlotUnit.allowance; rw [record, fill]
  have quota (x : CardRecord) : t.remainingQuota x = s.remainingQuota x := by
    unfold State.remainingQuota State.profileOf; rw [profiles, clock]
  have ofRecord (x : CardRecord) : t.checkRecord k x = s.checkRecord k x := by
    unfold State.checkRecord State.expired State.profileOf; rw [profiles, clock, record]
  have ofHours : t.checkHours k = s.checkHours k := by unfold State.checkHours State.hoursOf; rw [clock, hours, record]
  have ofCharged (r : Option CardRecord) : t.checkCharged k r = s.checkCharged k r := by
    unfold State.checkCharged; simp only [record, quota, store, charges, reserve]
  have admission (r : Option CardRecord) : t.checkAdmission k r = s.checkAdmission k r := by
    unfold State.checkAdmission; simp only [funext ofRecord, ofHours, ofCharged]
  have limit (a : Admission) (r : Option CardRecord) : t.grantLimit k a r = s.grantLimit k a r := by
    unfold State.grantLimit State.depositBound State.profileOf; simp only [profiles, config, allowance, record, quota]
  unfold State.decision
  simp only [bars, config, record, admission, limit]

/-! ## A card that is taken (R97, R98, R102) -/

/-- The state in which a poll of slot k has been answered, the reader not being LOST (R97). -/
theorem State.answered_eq (h : (s.slot k).reader.lost = false) :
    s.answered k = s.modSlot k fun u => { u with reader := { u.reader with unanswered := 0 } } := by
  unfold State.answered State.modReader State.modSlot
  simp [h]

theorem State.askTone_eq {pat : TonePattern} (h : (s.slot k).inRotation = true) :
    s.askTone k pat = s.modSlot k fun u => { u with reader := { u.reader with signal := some pat } } := if_pos h

/-- A SIGNAL that waits at the end of a poll is sent (R96, R99). -/
theorem State.afterPoll_signal {pat : TonePattern} (h : (s.slot k).reader.signal = some pat) : s.afterPoll k =
    (s.modSlot k fun u => { u with reader := { u.reader with signal := none } }).modBus fun x =>
      { x with bus := .signalling k s.now, lastFrame := signalFrame k (s.tones.get pat) } := by
  unfold State.afterPoll; rw [h]; rfl

/-- READER_ANSWER with a card at a slot of the rotation whose reader is ONLINE (R97, R98). -/
theorem exec_readerAnswer_card (hb : s.readerBus.bus = .polling k began) (hn : n ≠ noCard)
    (hc : (s.slot k).configured = true) (he : (s.slot k).record.readerEnable = true)
    (hl : (s.slot k).reader.lost = false) :
    exec (.readerAnswer (withCheck (encSlot k ++ [0x43] ++ u32 n.toNat))) s = .next
      (((s.modSlot k fun u => { u with reader := { u.reader with unanswered := 0 } }).takeCard k n).afterPoll k) := by
  show Host.Outcome.next (s.readerAnswer _) = _
  unfold State.readerAnswer
  rw [hb]
  dsimp only
  rw [readerFrameAt_card]
  dsimp only
  unfold State.takeAnswer
  rw [State.answered_eq hl]
  simp [hn, SlotUnit.inRotation, hc, he]

/-- A state whose card slot k verifies, as the Card Resolver answers from the cache (R79, R80, R102). -/
def State.verifies (k : Slot) (n : CardNo) (s : State) : State :=
  ((s.modSlot k fun u => { u with reader := { u.reader with unanswered := 0 } }).setIntake k (.verifying n)).touchCache n

theorem State.touchCache_frame (s : State) (n : CardNo) :
    s.touchCache n = { s with resolver := (s.touchCache n).resolver }
      ∧ (s.touchCache n).resolver.charges = s.resolver.charges := by
  unfold State.touchCache
  split <;> exact ⟨rfl, rfl⟩

theorem State.touchCache_slots (s : State) (n : CardNo) : (s.touchCache n).slots = s.slots :=
  (congrArg State.slots (s.touchCache_frame n).1 :)

theorem State.slot_verifies (s : State) (k : Slot) (n : CardNo) : (s.verifies k n).slot k = { s.slot k with
    reader := { (s.slot k).reader with unanswered := 0 }
    intake := { (s.slot k).intake with state := .verifying n } } := by
  unfold State.verifies
  rw [State.slot_congr (State.touchCache_slots ..)]
  simp [State.setIntake, State.modIntake]

theorem State.slot_verifies_other (s : State) {j k : Slot} (n : CardNo) (h : j ≠ k) :
    (s.verifies k n).slot j = s.slot j := by
  unfold State.verifies
  rw [State.slot_congr (State.touchCache_slots ..)]
  simp [State.setIntake, State.modIntake, State.slot_modSlot_other _ _ h]

theorem State.verifies_frame (s : State) (k : Slot) (n : CardNo) :
    s.verifies k n = { s with slots := (s.verifies k n).slots, resolver := (s.verifies k n).resolver } := by
  unfold State.verifies
  rw [(State.touchCache_frame ..).1]
  rfl

/-- The verification itself leaves the decision as it was (R103). -/
theorem State.decision_verifies (o : LookupOutcome) (hi : (s.slot k).intake.state = .idle) :
    (s.verifies k n).decision k o = s.decision k o := by
  refine State.decision_congr k o ?_ ?_ ?_ ?_ ?_ fun j => ?_
  · exact (s.verifies_frame k n).trans (by rw [(congrArg State.readerBus (s.verifies_frame k n) :)])
  · rw [State.slot_verifies]
  · rw [State.slot_verifies]
  · rw [State.slot_verifies]
  · exact (State.touchCache_frame ..).2
  · by_cases hj : j = k
    · subst hj
      rw [State.slot_verifies, hi]
      rfl
    · rw [State.slot_verifies_other _ _ hj]

/-- A lookup of a cached card is answered at once (R80). -/
theorem State.placeLookup_cached {l : Lookup} {e : CacheEntry} (hs : s.store.state = .online)
    (hb : s.busyBucket ≠ some (bucketOf l.card)) (he : s.cached l.card = some e) :
    s.placeLookup l = (s.touchCache l.card).deliver l (.found e false) := by
  unfold State.placeLookup
  rw [if_neg (not_not.mpr hs), if_neg hb, he]

/-- A card that no other slot holds is looked up, and answered from the cache (R80, R102). -/
theorem State.takeCard_cached {e : CacheEntry} (hi : (s.slot k).intake.state = .idle)
    (ho : ∀ j, j ≠ k → (s.slot j).intake.state.card ≠ some n) (he : s.cached n = some e)
    (hs : s.store.state = .online) (hb : s.busyBucket ≠ some (bucketOf n)) :
    (s.modSlot k fun u => { u with reader := { u.reader with unanswered := 0 } }).takeCard k n
      = (s.verifies k n).decideIntake k (.found e false) := by
  have idle : ((s.modSlot k fun u => { u with reader := { u.reader with unanswered := 0 } }).slot k).intake.state = .idle := by
    rw [State.slot_modSlot_same]; exact hi
  have alone : (s.modSlot k fun u => { u with reader := { u.reader with unanswered := 0 } }).heldElsewhere k n = false := by
    unfold State.heldElsewhere
    rw [List.any_eq_false]
    intro j _
    by_cases hj : j = k
    · simp [hj]
    · rw [State.slot_modSlot_other _ _ hj]
      simp [hj, ho j hj]
  unfold State.takeCard
  rw [idle]
  simp only [alone, Bool.false_eq_true, ↓reduceIte]
  exact State.placeLookup_cached hs hb he

/-- A card that is held elsewhere, or comes to a slot with a bar, is denied at once (R15, R102). -/
theorem State.takeCard_denied {d : DenyReason} (hr : (s.slot k).inRotation = true)
    (h : (∃ b, (s.slot k).intake.state = .barred ∧ (s.slot k).bars.first = some b ∧ d = .barred b)
      ∨ ((s.slot k).intake.state = .idle ∧ (∃ j, j ≠ k ∧ (s.slot j).intake.state.card = some n) ∧ d = .duplicate)) :
    s.takeCard k n = s.modSlot k fun u => { u with reader := { u.reader with signal := some d.tone } } := by
  unfold State.takeCard
  obtain ⟨b, hi, hb, rfl⟩ | ⟨hi, ⟨j, hj, hn⟩, rfl⟩ := h
  · rw [hi]
    simp only [hb]
    exact State.askTone_eq hr
  · have held : s.heldElsewhere k n = true := by
      unfold State.heldElsewhere
      rw [List.any_eq_true]
      exact ⟨j, by fin_cases j <;> decide, by simp [hj, hn]⟩
    rw [hi]
    simp only [held, ↓reduceIte]
    exact State.askTone_eq hr

/-! ## What a decision leaves (R107, R108) -/

/-- A slot whose card is granted, before the LOG bar is evaluated (R108, R112). -/
def SlotUnit.granted (now : Nat) (cfg : StationConfig) (c : Session) (u : SlotUnit) : SlotUnit :=
  { u with
    reader := { u.reader with signal := some .grant }
    locks := { u.locks with drumReleased := true }
    intake := {
      state := .opened c
      idleDeadline := if u.drumHome then some (now + 1000 * cfg.idleTimeout) else u.intake.idleDeadline } }

/-- A change of a slot depends on what it makes of the slot alone. -/
theorem State.modSlot_congr {f g : SlotUnit → SlotUnit} (h : f (s.slot k) = g (s.slot k)) :
    s.modSlot k f = s.modSlot k g := congrArg (s.setSlot k) h

theorem State.grantSession_eq {a : Admission} {limit : Nat} (hr : (s.slot k).inRotation = true) :
    s.grantSession k n a limit
      = (s.modSlot k (SlotUnit.granted s.now s.config (s.sessionFor k n a limit))).evaluateLog := by
  unfold State.grantSession
  dsimp only
  rw [State.askTone_eq hr]
  unfold State.setDrumLock State.setIntake State.startIdle State.modIntake
  split
  · next home =>
    simp only [State.modSlot_modSlot]
    rw [State.modSlot_congr]
    simp [SlotUnit.granted, home]
  · next home =>
    simp only [State.modSlot_modSlot]
    rw [State.modSlot_congr]
    simp [SlotUnit.granted, home]

/-- A slot whose card is denied, before custody hears of it (R107). -/
def SlotUnit.denied (d : DenyReason) (u : SlotUnit) : SlotUnit :=
  { u with reader := { u.reader with signal := some d.tone }, intake := { u.intake with state := restState u.bars } }

theorem State.denyVerifying_eq {d : DenyReason} (hr : (s.slot k).inRotation = true) :
    s.denyVerifying k d = (s.modSlot k (SlotUnit.denied d)).slotQuiet k := by
  unfold State.denyVerifying State.setIntake State.modIntake
  rw [State.askTone_eq hr, State.modSlot_modSlot]
  rfl

theorem State.decideIntake_grant {o : LookupOutcome} {a : Admission} {limit : Nat}
    (hi : (s.slot k).intake.state = .verifying n) (h : s.decision k o = .grant a limit) :
    s.decideIntake k o = s.grantSession k n a limit := by
  unfold State.decideIntake; rw [hi]; simp only [h]

theorem State.decideIntake_deny {o : LookupOutcome} {d : DenyReason} (hi : (s.slot k).intake.state = .verifying n)
    (h : s.decision k o = .deny d) : s.decideIntake k o = s.denyVerifying k d := by
  unfold State.decideIntake; rw [hi]; simp only [h]

theorem State.slot_modBus (s : State) (f : ReaderBus → ReaderBus) (k : Slot) : (s.modBus f).slot k = s.slot k := rfl

/-- The slot after the SIGNAL of its poll has been sent (R96, R99). -/
theorem State.slot_afterPoll {pat : TonePattern} (h : (s.slot k).reader.signal = some pat) :
    (s.afterPoll k).slot k = { s.slot k with reader := { (s.slot k).reader with signal := none } } := by
  rw [State.afterPoll_signal h]
  rw [State.slot_modBus, State.slot_modSlot_same]

theorem State.afterPoll_lastFrame {pat : TonePattern} (h : (s.slot k).reader.signal = some pat) :
    (s.afterPoll k).readerBus.lastFrame = signalFrame k (s.tones.get pat) := by rw [State.afterPoll_signal h]; rfl

/-! ## The idle timer (R112, R115) -/

theorem exec_idleTimeout {d : Nat} (h : (s.slot k).intake.idleDeadline = some d) : exec (.idleTimeout k) s
    = .next (((s.elapseTo d).modIntake k fun i => { i with idleDeadline := none }).endSession k .idle) := by
  show Host.Outcome.next (s.idleTimeout k) = _
  unfold State.idleTimeout
  rw [h]

theorem State.elapseTo_now (s : State) (d : Nat) : (s.elapseTo d).now = max s.now d := by
  show s.now + (d - s.now) = _
  omega

section
variable {e : CacheEntry} (hb : s.readerBus.bus = .polling k began) (hn : n ≠ noCard)
  (hc : (s.slot k).configured = true) (hr : (s.slot k).record.readerEnable = true)
  (hl : (s.slot k).reader.lost = false) (hi : (s.slot k).intake.state = .idle)
  (ho : ∀ j, j ≠ k → (s.slot j).intake.state.card ≠ some n) (he : s.cached n = some e)
  (hs : s.store.state = .online) (hq : s.busyBucket ≠ some (bucketOf n))
include hc hr hi ho he hs hq

/-- A card that is granted from the cache opens its session (R101, R108, R112). -/
theorem State.card_granted {a : Admission} {limit : Nat} (h : s.decision k (.found e false) = .grant a limit) :
    let u := (s.modSlot k fun u => { u with reader := { u.reader with unanswered := 0 } }).takeCard k n;
    (u.slot k).reader.signal = some .grant ∧ u.tones = s.tones
      ∧ (u.slot k).intake = {
          state := .opened { card := n, admission := a, charged := (s.slot k).record.charged, limit := limit
                             startTime := s.stamp }
          idleDeadline := if (s.slot k).drumHome then some (s.now + 1000 * s.config.idleTimeout)
            else (s.slot k).intake.idleDeadline }
      ∧ (u.slot k).locks = { (s.slot k).locks with drumReleased := true } := by
  have frame := s.verifies_frame k n
  have now : (s.verifies k n).now = s.now := (congrArg State.now frame :)
  have config : (s.verifies k n).config = s.config := (congrArg State.config frame :)
  have clock : (s.verifies k n).clock = s.clock := (congrArg State.clock frame :)
  have tones : (s.verifies k n).tones = s.tones := (congrArg State.tones frame :)
  have slotK := s.slot_verifies k n
  have rotates : ((s.verifies k n).slot k).inRotation = true := by rw [slotK]; simp [SlotUnit.inRotation, hc, hr]
  have context : (s.verifies k n).sessionFor k n a limit = {
      card := n, admission := a, charged := (s.slot k).record.charged, limit := limit, startTime := s.stamp } := by
    unfold State.sessionFor State.stamp
    rw [slotK, clock]
  dsimp only
  rw [State.takeCard_cached hi ho he hs hq, State.decideIntake_grant (by rw [slotK])
    ((State.decision_verifies _ hi).trans h), State.grantSession_eq rotates, context, now, config]
  have logged := State.relogged_evaluateLog ((s.verifies k n).modSlot k (SlotUnit.granted s.now s.config
    { card := n, admission := a, charged := (s.slot k).record.charged, limit := limit, startTime := s.stamp }))
  have at_k := logged.slot k
  rw [State.slot_modSlot_same, slotK] at at_k
  refine ⟨?_, logged.tones.trans tones, at_k.intake_of_busy rfl, at_k.locks⟩
  rw [at_k.reader]
  rfl

/-- A card that is denied from the cache leaves the intake at rest and the lock as it was (R107). -/
theorem State.card_denied {d : DenyReason} (h : s.decision k (.found e false) = .deny d) :
    let u := (s.modSlot k fun u => { u with reader := { u.reader with unanswered := 0 } }).takeCard k n;
    (u.slot k).reader.signal = some d.tone ∧ u.tones = s.tones ∧ (u.slot k).intake.state.busy = false
      ∧ (u.slot k).locks.drumReleased = (s.slot k).locks.drumReleased := by
  have tones : (s.verifies k n).tones = s.tones := (congrArg State.tones (s.verifies_frame k n) :)
  have slotK := s.slot_verifies k n
  have rotates : ((s.verifies k n).slot k).inRotation = true := by rw [slotK]; simp [SlotUnit.inRotation, hc, hr]
  dsimp only
  rw [State.takeCard_cached hi ho he hs hq, State.decideIntake_deny (by rw [slotK])
    ((State.decision_verifies _ hi).trans h), State.denyVerifying_eq rotates]
  have quiet := State.quieted_slotQuiet ((s.verifies k n).modSlot k (SlotUnit.denied d)) k
  have at_k := quiet.slot k
  rw [State.slot_modSlot_same, slotK] at at_k
  refine ⟨?_, quiet.tones.trans tones, at_k.busy.trans (restState_busy _), at_k.drumReleased⟩
  rw [at_k.reader]
  rfl

end

end

section
variable {s : State} {k : Slot} {n : CardNo} {began : Nat}

/-- A card that is denied at once leaves the state but for the answered poll and the SIGNAL sent (R15, R99, R102). -/
theorem exec_readerAnswer_denied {d : DenyReason} (hb : s.readerBus.bus = .polling k began) (hn : n ≠ noCard)
    (hc : (s.slot k).configured = true) (hr : (s.slot k).record.readerEnable = true)
    (hl : (s.slot k).reader.lost = false)
    (h : (∃ b, (s.slot k).intake.state = .barred ∧ (s.slot k).bars.first = some b ∧ d = .barred b)
      ∨ ((s.slot k).intake.state = .idle ∧ (∃ j, j ≠ k ∧ (s.slot j).intake.state.card = some n) ∧ d = .duplicate)) :
    exec (.readerAnswer (withCheck (encSlot k ++ [0x43] ++ u32 n.toNat))) s = .next
      { s.modSlot k fun u => { u with reader := { u.reader with unanswered := 0, signal := none } } with
        readerBus := { bus := .signalling k s.now, lastTurn := s.readerBus.lastTurn
                       lastFrame := withCheck (encSlot k ++ [0x53] ++ encTone (s.tones.get d.tone)) } } := by
  have slotK := State.slot_modSlot_same s k fun u => { u with reader := { u.reader with unanswered := 0 } }
  have rotates : ((s.modSlot k fun u => { u with reader := { u.reader with unanswered := 0 } }).slot k).inRotation = true := by
    rw [slotK]; simp [SlotUnit.inRotation, hc, hr]
  have denied : (s.modSlot k fun u => { u with reader := { u.reader with unanswered := 0 } }).takeCard k n = s.modSlot k
      fun u => { u with reader := { u.reader with unanswered := 0, signal := some d.tone } } := by
    rw [State.takeCard_denied rotates (d := d), State.modSlot_modSlot]
    rw [slotK]
    refine h.imp id fun ⟨hi, ⟨j, hj, hn⟩, hd⟩ => ⟨hi, ⟨j, hj, ?_⟩, hd⟩
    rwa [State.slot_modSlot_other _ _ hj]
  have sent : (s.modSlot k fun u => { u with reader := { u.reader with unanswered := 0, signal := some d.tone } }).modSlot k
      (fun u => { u with reader := { u.reader with signal := none } })
      = s.modSlot k fun u => { u with reader := { u.reader with unanswered := 0, signal := none } } :=
    State.modSlot_modSlot ..
  rw [exec_readerAnswer_card hb hn hc hr hl, denied, State.afterPoll_signal (by rw [State.slot_modSlot_same]), sent]
  rfl

/-- The idle timer ends an open session: CLOSING with the drum away, closed with its record at home (R112, R115, R117). -/
theorem State.endSession_idle {c : Session} {d : Nat} (h : (s.slot k).intake.state = .opened c) :
    let t := ((s.elapseTo d).modIntake k fun i => { i with idleDeadline := none }).endSession k .idle;
    t.now = max s.now d ∧ (t.slot k).locks.drumReleased = false ∧ (t.slot k).intake.idleDeadline = none
      ∧ ((s.slot k).drumHome = false → (t.slot k).intake.state = .closing c .idle)
      ∧ ((s.slot k).drumHome = true → (t.slot k).intake.state = restState (t.slot k).bars
        ∧ ((t.slot k).range.delay = if 1 ≤ c.deposits then some (t.now + 10000) else (s.slot k).range.delay)
        ∧ (c.charged = true → ∃ r ∈ t.log.records, r.body
            = .session k (s.slot k).record.fraction c t.stamp .idle)) := by
  dsimp only
  have slotK : ((s.elapseTo d).modIntake k fun i => { i with idleDeadline := none }).slot k
      = { s.slot k with intake := { (s.slot k).intake with idleDeadline := none } } := State.slot_modSlot_same ..
  rw [State.endSession_of_opened (c := c) .idle (by rw [slotK]; exact h)]
  have shut : (((s.elapseTo d).modIntake k fun i => { i with idleDeadline := none }).modSlot k SlotUnit.shut).slot k
      = (s.slot k).shut := by rw [State.slot_modSlot_same, slotK]; rfl
  have now : (((s.elapseTo d).modIntake k fun i => { i with idleDeadline := none }).modSlot k SlotUnit.shut).now
      = max s.now d := s.elapseTo_now d
  have home : (((s.elapseTo d).modIntake k fun i => { i with idleDeadline := none }).slot k).drumHome
      = (s.slot k).drumHome := by rw [slotK]; rfl
  rw [home]
  cases (s.slot k).drumHome with
  | false =>
    have away := State.slot_modSlot_same (((s.elapseTo d).modIntake k fun i => { i with idleDeadline := none }).modSlot k
      SlotUnit.shut) k fun u => { u with intake := { u.intake with state := .closing c .idle } }
    rw [shut] at away
    exact ⟨now, congrArg (fun u : SlotUnit => u.locks.drumReleased) away,
      congrArg (fun u : SlotUnit => u.intake.idleDeadline) away,
      fun _ => congrArg (fun u : SlotUnit => u.intake.state) away, nofun⟩
  | true =>
    have quiet := State.quieted_closeSession
      (((s.elapseTo d).modIntake k fun i => { i with idleDeadline := none }).modSlot k SlotUnit.shut) k c .idle
    have at_k := quiet.slot k
    rw [State.slot_modSlot_same, shut] at at_k
    refine ⟨quiet.now.trans now, at_k.drumReleased, at_k.idleDeadline, nofun, fun _ => ⟨at_k.rests rfl, ?_, fun hc => ?_⟩⟩
    · simp only [↓reduceIte]
      rw [at_k.range, quiet.now]
      rfl
    · simp only [↓reduceIte]
      rw [State.closeSession_records _ _ _ hc, shut, quiet.stamp]
      exact ⟨_, List.mem_append_right _ (List.mem_singleton_self _), rfl⟩

end

/-- Settles O40. -/
theorem cardsAreDecidedAndSessionsEnd : Obligations.CardsAreDecidedAndSessionsEnd := by
  intro s k
  refine ⟨fun began n e hb hn hc hr hl hi ho he hs hq => ⟨_, exec_readerAnswer_card hb hn hc hr hl,
    fun a limit h => ?_, fun d h => ?_⟩,
    fun d => ?_, fun began n d hb hn hc hr hl h => ?_, fun d c ho hd => ⟨_, exec_idleTimeout hd, ?_⟩⟩
  · obtain ⟨signal, tones, intake, locks⟩ := State.card_granted hc hr hi ho he hs hq h
    rw [State.slot_afterPoll signal, State.afterPoll_lastFrame signal, tones]
    exact ⟨intake, locks, rfl⟩
  · obtain ⟨signal, tones, busy, drum⟩ := State.card_denied hc hr hi ho he hs hq h
    rw [State.slot_afterPoll signal, State.afterPoll_lastFrame signal, tones]
    exact ⟨busy, drum, rfl⟩
  · cases d with
    | barred b => cases b <;> simp [DenyReason.tone, Bar.tone]
    | _ => simp [DenyReason.tone]
  · exact exec_readerAnswer_denied hb hn hc hr hl h
  · exact State.endSession_idle ho

end Sys2Proof.Machine
end

section
/-! SUPPORT. Drum turns and the jam timer (O32; R16, R22 to R25, R110 to R112, R115). -/

namespace Sys2Proof.Machine

section
variable {s t u : State} {k : Slot} {c : Session}

/-! ## An accepted edge (R20) -/

/-- The state in which the accepted level of a line has just changed (R20). -/
def State.accepts (k : Slot) (l : Line) (x : Pending) (s : State) : State :=
  (s.elapseTo (x.since + x.filterMs)).acceptLevel k l

theorem exec_filterTimeElapsed {l : Line} {x : Pending} (h : ((s.slot k).lines.get l).pending = some x) :
    exec (.filterTimeElapsed k l) s
      = .next ((s.accepts k l x).deliverEdge k l (!((s.slot k).lines.get l).accepted)) := by
  show Host.Outcome.next (s.filterElapsed k l) = _
  unfold State.filterElapsed
  rw [h]
  rfl

theorem State.slot_accepts (s : State) (k : Slot) (l : Line) (x : Pending) : (s.accepts k l x).slot k =
    { s.slot k with lines := (s.slot k).lines.set ((s.slot k).lines.get l).accept l } := State.slot_modSlot_same ..

theorem State.slot_accepts_other (s : State) {j k : Slot} (l : Line) (x : Pending) (h : j ≠ k) :
    (s.accepts k l x).slot j = s.slot j := State.slot_modSlot_other _ _ h

theorem State.accepts_now (s : State) (k : Slot) (l : Line) (x : Pending) :
    (s.accepts k l x).now = max s.now (x.since + x.filterMs) := s.elapseTo_now _

/-! ## A turn begins (R22, R24, R110, R112) -/

/-- An intake that has been told of a turn: its idle timer stops, and the turn belongs to its session (R110, R112). -/
def Intake.turns (i : Intake) : Intake :=
  match i.state with
  | .opened c => { state := .opened { c with turnBelongs := true }, idleDeadline := none }
  | .idle | .barred | .verifying _ | .closing _ _ => i

theorem Intake.turns_of_opened {i : Intake} (h : i.state = .opened c) :
    i.turns = { state := .opened { c with turnBelongs := true }, idleDeadline := none } := by
  unfold Intake.turns; rw [h]

theorem Intake.turns_of_not_opened {i : Intake} (h : i.state.isOpen = false) : i.turns = i := by
  unfold Intake.turns
  split
  · next hi => simp [hi, IntakeState.isOpen] at h
  all_goals rfl

theorem State.intakeTurnBegins_eq (s : State) (k : Slot) : s.intakeTurnBegins k = s.modIntake k Intake.turns := by
  cases ho : (s.slot k).intake.state.isOpen with
  | false =>
    have same : s.modIntake k Intake.turns = s :=
      State.modSlot_eq_self (by rw [Intake.turns_of_not_opened ho])
    rw [same]
    unfold State.intakeTurnBegins
    split
    · next hi => simp [hi, IntakeState.isOpen] at ho
    all_goals rfl
  | true =>
    obtain ⟨c, hi⟩ := IntakeState.isOpen_iff.mp ho
    unfold State.intakeTurnBegins
    rw [hi]
    exact State.modSlot_congr (by rw [Intake.turns_of_opened hi])

/-- A slot on which a turn has begun (R22, R24, R110, R112). -/
def SlotUnit.turns (now jam : Nat) (u : SlotUnit) : SlotUnit :=
  { u with
    track := { u.track with drum := .turning, turnStart := now, jamDeadline := some (now + jam) }
    intake := u.intake.turns }

theorem State.drumLeft_atHome (h : (s.slot k).track.drum = .atHome) :
    s.drumLeft k = s.modSlot k (SlotUnit.turns s.now (1000 * s.config.jamTime)) := by
  unfold State.drumLeft
  rw [h]
  dsimp only
  rw [State.intakeTurnBegins_eq]
  unfold State.startTurn State.modTrack State.modIntake
  rw [State.modSlot_modSlot]
  rfl

/-! ## A turn ends without having reached open (R23, R25, R110, R111) -/

theorem State.ended_modIntake (s : State) (k : Slot) (f : Intake → Intake) : s.Ended (s.modIntake k f) k :=
  State.ended_modSlot (f := fun u => { u with intake := f u.intake }) ⟨rfl, fun _ _ _ => rfl⟩ rfl

/-- An intake in which an aborted turn ends (R110, R112). -/
theorem State.ended_intakeTurnEnds (s : State) (k : Slot) : s.Ended (s.intakeTurnEnds k false) k := by
  have charge (c : Session) : s.chargeTurn c false = s := if_neg (by simp)
  unfold State.intakeTurnEnds
  split
  · next c hi =>
    rw [charge]
    exact (s.ended_modIntake k _).trans ((State.ended_modIntake _ k _).trans (State.ended_homeTests _ k))
  · rw [charge]
    exact s.ended_closeSession k _ _
  all_goals exact .refl s k

/-- An aborted turn of a session that goes on (R110 to R112). -/
theorem State.intakeTurnEnds_goes_on (hi : (s.slot k).intake.state = .opened c) (ht : c.turnBelongs = true)
    (hh : homeTest (s.slot k).bars (c.afterTurn false s.chargeQueued) = none) :
    ((s.intakeTurnEnds k false).slot k).intake = {
      state := .opened { c with aborted := min (c.aborted + 1) 65535, turnBelongs := false }
      idleDeadline := some (s.now + 1000 * s.config.idleTimeout) } := by
  have charge : s.chargeTurn c false = s := if_neg (by simp)
  have after : c.afterTurn false s.chargeQueued = { c with aborted := min (c.aborted + 1) 65535, turnBelongs := false } := by
    simp [Session.afterTurn, ht, satAdd]
  have idle : ((s.setIntake k (.opened (c.afterTurn false s.chargeQueued))).startIdle k).slot k = { s.slot k with
      intake := { state := .opened (c.afterTurn false s.chargeQueued)
                  idleDeadline := some (s.now + 1000 * s.config.idleTimeout) } } := by
    simp [State.setIntake, State.startIdle, State.modIntake]
  have tests : ((s.setIntake k (.opened (c.afterTurn false s.chargeQueued))).startIdle k).homeTests k
      = (s.setIntake k (.opened (c.afterTurn false s.chargeQueued))).startIdle k := by
    unfold State.homeTests
    rw [idle]
    simp only [hh]
  unfold State.intakeTurnEnds
  rw [hi]
  dsimp only
  rw [charge, tests, idle, after]

/-- What the report of a drum home leaves: DRUM, its alert, and what an append changes (R25). -/
theorem State.drumRecovered_cases (s : State) (k : Slot) (counted : Bool) (away : Nat) :
    (s.changeBar k .drum false).Relogged (s.drumRecovered k counted away) := by
  unfold State.drumRecovered
  split
  · exact State.relogged_alert ..
  · next h =>
    have clear : (s.slot k).bars.has .drum = false := Bool.eq_false_of_not_eq_true h
    rw [State.changeBar_of_no_change (.inr clear)]
    exact .refl s

/-! ## The jam timer (R16, R24, R115) -/

/-- A slot whose session is ended with the drum away (R115). -/
def SlotUnit.endedAway (r : EndReason) (u : SlotUnit) : SlotUnit :=
  match u.intake.state with
  | .opened c => { u with
      locks := { u.locks with drumReleased := false }, intake := { state := .closing c r, idleDeadline := none } }
  | .idle | .barred | .verifying _ | .closing _ _ => u

theorem State.endSession_of_away (r : EndReason) (h : (s.slot k).drumHome = false) :
    s.endSession k r = s.modSlot k (SlotUnit.endedAway r) := by
  cases ho : (s.slot k).intake.state.isOpen with
  | false =>
    rw [State.endSession_of_not_opened r ho, State.modSlot_eq_self]
    unfold SlotUnit.endedAway
    split
    · next hi => simp [hi, IntakeState.isOpen] at ho
    all_goals rfl
  | true =>
    obtain ⟨c, hi⟩ := IntakeState.isOpen_iff.mp ho
    rw [State.endSession_of_opened r hi, h]
    simp only [Bool.false_eq_true, ↓reduceIte, State.setIntake, State.modIntake, State.modSlot_modSlot]
    refine State.modSlot_congr ?_
    unfold SlotUnit.endedAway
    simp only [hi]
    rfl

theorem SlotUnit.endedAway_of_opened (r : EndReason) {u : SlotUnit} (h : u.intake.state = .opened c) :
    u.endedAway r = { u with
      locks := { u.locks with drumReleased := false }, intake := { state := .closing c r, idleDeadline := none } } := by
  unfold SlotUnit.endedAway; simp only [h]

theorem SlotUnit.endedAway_frame (r : EndReason) (u : SlotUnit) : u.endedAway r =
    { u with locks := (u.endedAway r).locks, intake := (u.endedAway r).intake } := by
  unfold SlotUnit.endedAway; split <;> rfl

theorem SlotUnit.endedAway_chargedSession (r : EndReason) (u : SlotUnit) :
    (u.endedAway r).intake.state.chargedSession = u.intake.state.chargedSession := by
  unfold SlotUnit.endedAway
  split
  · next hi => rw [hi]; rfl
  all_goals rfl

/-- The bar DRUM, the alert and the session of a jammed drum (R16, R24). -/
def State.jams (k : Slot) (s : State) : State :=
  ((s.modTrack k fun x => { x with jamDeadline := none }).changeBar k .drum true).modSlot k (SlotUnit.endedAway .drumFault)

theorem exec_drumJam {d : Nat} (hd : (s.slot k).track.jamDeadline = some d) (hc : (s.slot k).configured = true)
    (hh : (s.slot k).drumHome = false) (hb : (s.slot k).bars.drum = false) : exec (.drumJam k) s
      = .next (((s.elapseTo d).jams k).alert (.drumJam k ((s.slot k).track.drum == .reachedOpen))) := by
  have slotK : ((s.elapseTo d).modTrack k fun x => { x with jamDeadline := none }).slot k
      = { s.slot k with track := { (s.slot k).track with jamDeadline := none } } := State.slot_modSlot_same ..
  have sets : ((s.elapseTo d).modTrack k fun x => { x with jamDeadline := none }).setBar k .drum = (s.elapseTo d).jams k := by
    have enters : (((s.elapseTo d).modTrack k fun x => { x with jamDeadline := none }).slot k).bars.has .drum = false := by
      rw [slotK]; exact hb
    have away : ((((s.elapseTo d).modTrack k fun x => { x with jamDeadline := none }).changeBar k .drum true).slot k).drumHome
        = false := by
      rw [State.slot_changeBar_same, SlotUnit.drumHome, SlotUnit.withBar_track, slotK]; exact hh
    unfold State.setBar State.jams
    rw [if_pos (by rw [enters, slotK]; simp [hc]), ← State.endSession_of_away _ away]
    rfl
  show Host.Outcome.next (s.drumJam k) = _
  unfold State.drumJam
  rw [hd]
  exact congrArg (fun u => Host.Outcome.next (State.alert _ u)) sets

/-- The slot of a jammed drum, as its alert is handed over (R16, R24). -/
theorem State.slot_jams (s : State) (k : Slot) : (s.jams k).slot k = (SlotUnit.withBar .drum true
    { s.slot k with track := { (s.slot k).track with jamDeadline := none } }).endedAway .drumFault := by
  unfold State.jams State.modTrack
  rw [State.slot_modSlot_same, State.slot_changeBar_same, State.slot_modSlot_same]

theorem State.barred_jams (s : State) (k : Slot) : s.Barred (s.jams k) :=
  State.Barred.trans {} ((State.barred_changeBar (s.modTrack k fun x => { x with jamDeadline := none }) k .drum true).trans {})

theorem State.jams_log (s : State) (k : Slot) : (s.jams k).log = s.log :=
  State.changeBar_log (s.modTrack k fun x => { x with jamDeadline := none }) k .drum true

theorem SlotUnit.chargedSession_withBar (b : Bar) (v : Bool) (u : SlotUnit) :
    (u.withBar b v).intake.state.chargedSession = u.intake.state.chargedSession := by
  unfold SlotUnit.withBar
  split
  · exact IntakeState.chargedSession_follow ..
  · rfl

/-- A jam changes nothing of what the log reserve counts (R172). -/
theorem State.jams_reserveHolds (s : State) (k : Slot) : (s.jams k).reserveHolds = s.reserveHolds := by
  have sessions : (s.jams k).chargedSessions = s.chargedSessions := by
    refine State.chargedSessions_congr fun j => ?_
    by_cases hj : j = k
    · subst hj
      rw [State.slot_jams, SlotUnit.endedAway_chargedSession, SlotUnit.chargedSession_withBar]
    · unfold State.jams State.modTrack
      rw [State.slot_modSlot_other _ _ hj, State.slot_changeBar_other _ _ _ hj, State.slot_modSlot_other _ _ hj]
  unfold State.reserveHolds State.inPreparation State.logFree
  rw [sessions, (s.barred_jams k).lift, s.jams_log k]

/-! ## The edges of the drum (R22, R23) -/

theorem State.deliverEdge_drumHome_off (h : (s.slot k).configured = true) :
    s.deliverEdge k .drumHome false = s.drumLeft k := by simp [State.deliverEdge, h]

theorem State.deliverEdge_drumHome_on (h : (s.slot k).configured = true) :
    s.deliverEdge k .drumHome true = s.drumCameHome k := by simp [State.deliverEdge, h]

theorem State.deliverEdge_drumOpen_on (h : (s.slot k).configured = true) :
    s.deliverEdge k .drumOpen true = s.drumReachedOpen k := by simp [State.deliverEdge, h]

/-- The state in which an aborted turn has ended, up to the report of the intake (R23, R35). -/
def State.aborts (k : Slot) (s : State) : State :=
  ((s.modTrack k fun x => { x with drum := .atHome, jamDeadline := none }).chooseBurst).intakeTurnEnds k false

theorem State.drumCameHome_turning (h : (s.slot k).track.drum = .turning) :
    s.drumCameHome k = (s.aborts k).drumRecovered k false (s.now - (s.slot k).track.turnStart) := by
  unfold State.drumCameHome
  dsimp only
  rw [h]
  rfl

/-- An aborted turn leaves the drum at home and DRUM cleared, the estimate, the demand and the charges as they were (R23, R25). -/
theorem State.aborted_turn (s : State) (k : Slot) (away : Nat) (hc : (s.slot k).configured = true) :
    let t := (s.aborts k).drumRecovered k false away;
    (t.slot k).track.drum = .atHome ∧ (t.slot k).track.jamDeadline = none ∧ (t.slot k).bars.drum = false
      ∧ (t.slot k).fill = (s.slot k).fill ∧ t.demand = s.demand ∧ t.resolver.charges = s.resolver.charges := by
  have home : (s.modTrack k fun x => { x with drum := .atHome, jamDeadline := none }).slot k
      = { s.slot k with track := { (s.slot k).track with drum := .atHome, jamDeadline := none } } :=
    State.slot_modSlot_same ..
  have chosen := State.reranged_chooseBurst (s.modTrack k fun x => { x with drum := .atHome, jamDeadline := none })
  have chosenK := chosen.slot k
  rw [home] at chosenK
  have ended := State.ended_intakeTurnEnds
    (s.modTrack k fun x => { x with drum := .atHome, jamDeadline := none }).chooseBurst k
  have endedK := ended.slot k
  have cleared := (s.aborts k).barred_changeBar k .drum false
  have recovered := (s.aborts k).drumRecovered_cases k false away
  have recoveredK := recovered.slot k
  rw [State.slot_changeBar_same] at recoveredK
  have configured : ((s.aborts k).slot k).configured = true :=
    endedK.configured.trans (chosenK.configured.trans hc)
  refine ⟨?_, ?_, ?_, ?_, ?_, ?_⟩
  · rw [recoveredK.track, SlotUnit.withBar_track]
    exact endedK.drum.trans (by rw [chosenK.track])
  · rw [recoveredK.track, SlotUnit.withBar_track]
    exact endedK.jamDeadline.trans (by rw [chosenK.track])
  · have drum := recoveredK.has (b := .drum) (by decide)
    rw [SlotUnit.withBar_bars _ _ _ configured, BarSet.has_put_same] at drum
    exact drum
  · rw [recoveredK.fill, SlotUnit.withBar_fill]
    exact endedK.fill.trans chosenK.fill
  · exact recovered.demand.trans (cleared.demand.trans (ended.demand.trans chosen.demand))
  · exact congrArg Resolver.charges
      (recovered.resolver.trans (cleared.resolver.trans (ended.resolver.trans chosen.resolver)))

/-- A session in which none of the drum home tests holds goes on after an aborted turn of its own (R110 to R112). -/
theorem State.aborted_turn_goes_on (away : Nat) (hi : (s.slot k).intake.state = .opened c) (ht : c.turnBelongs = true)
    (hw : c.withdrawal = false) (hl : c.deposits < c.limit) (hf : (s.slot k).bars.full = false)
    (hd : (s.slot k).bars.flood = false) (hs : (s.slot k).bars.service = false) (ho : (s.slot k).bars.out = false) :
    (((s.aborts k).drumRecovered k false away).slot k).intake = {
      state := .opened { c with aborted := min (c.aborted + 1) 65535, turnBelongs := false }
      idleDeadline := some (s.now + 1000 * s.config.idleTimeout) } := by
  have home : (s.modTrack k fun x => { x with drum := .atHome, jamDeadline := none }).slot k
      = { s.slot k with track := { (s.slot k).track with drum := .atHome, jamDeadline := none } } :=
    State.slot_modSlot_same ..
  have chosen := State.reranged_chooseBurst (s.modTrack k fun x => { x with drum := .atHome, jamDeadline := none })
  have chosenK := chosen.slot k
  rw [home] at chosenK
  have intake := chosenK.intake_of_busy (by show (s.slot k).intake.state.busy = true; rw [hi]; rfl)
  have bars := chosenK.bars
  have goes := State.intakeTurnEnds_goes_on
    (s := (s.modTrack k fun x => { x with drum := .atHome, jamDeadline := none }).chooseBurst) (k := k) (c := c)
    (by rw [intake]; exact hi) ht (by
      rw [bars]
      simp [homeTest, hf, hd, hs, ho, Session.afterTurn, ht, hw, Nat.not_le.mpr hl])
  have recoveredK := ((s.aborts k).drumRecovered_cases k false away).slot k
  rw [State.slot_changeBar_same] at recoveredK
  have busy : ((s.aborts k).slot k).intake.state.busy = true := by unfold State.aborts; rw [goes]; rfl
  rw [recoveredK.intake_of_busy (by rw [SlotUnit.busy_withBar]; exact busy), SlotUnit.intake_withBar_of_busy _ _ busy]
  refine goes.trans ?_
  rw [chosen.now, chosen.config]
  rfl

/-- What the jam timer leaves behind: the bar, the session in CLOSING, the alert under the reserve rule (R16, R24, R172). -/
theorem State.jammed (s : State) (k : Slot) (a : Alert) (hc : (s.slot k).configured = true) :
    let t := (s.jams k).alert a;
    (t.slot k).bars.drum = true ∧ (t.slot k).track = { (s.slot k).track with jamDeadline := none }
      ∧ (∀ c, (s.slot k).intake.state = .opened c →
          (t.slot k).intake = { state := .closing c .drumFault, idleDeadline := none }
            ∧ (t.slot k).locks.drumReleased = false)
      ∧ (s.reserveHolds = true → t.log.records = s.log.records ++ [⟨s.log.seq, .alert t.stamp a⟩])
      ∧ (s.reserveHolds = false → t.log = { s.log with incomplete := true }) := by
  have alerted := (s.jams k).relogged_alert a
  have alertedK := alerted.slot k
  have frame := SlotUnit.endedAway_frame .drumFault (SlotUnit.withBar .drum true
    { s.slot k with track := { (s.slot k).track with jamDeadline := none } })
  rw [State.slot_jams] at alertedK
  refine ⟨?_, ?_, fun c hi => ?_, fun hr => ?_, fun hr => ?_⟩
  · have drum := alertedK.has (b := .drum) (by decide)
    rw [frame] at drum
    exact drum.trans (by rw [SlotUnit.withBar_bars _ _ _ (by exact hc), BarSet.has_put_same])
  · rw [alertedK.track, frame]
    exact SlotUnit.withBar_track ..
  · have opened : (SlotUnit.withBar .drum true
        { s.slot k with track := { (s.slot k).track with jamDeadline := none } }).intake.state = .opened c := by
      rw [SlotUnit.intake_withBar_of_busy _ _ (by dsimp only; rw [hi]; rfl)]
      exact hi
    rw [SlotUnit.endedAway_of_opened .drumFault opened] at alertedK
    rw [alertedK.intake_of_busy rfl, alertedK.locks]
    exact ⟨rfl, rfl⟩
  · rw [alerted.stamp]
    unfold State.alert State.logOffer
    rw [State.jams_reserveHolds, if_pos hr, State.logAppend_records, State.jams_log]
  · unfold State.alert State.logOffer
    rw [State.jams_reserveHolds, if_neg (by simp [hr]), State.jams_log]

end

/-- Settles O32. -/
theorem drumTurnsAreTracked : Obligations.DrumTurnsAreTracked := by
  intro s k n hc
  refine ⟨fun x hx hn => ⟨fun ha hd => ?_, fun ha hd => ?_⟩, fun x hx ha hd => ?_, fun d hd hn hh hb => ?_⟩
  · have slotK := s.slot_accepts k .drumHome x
    have now : (s.accepts k .drumHome x).now = n := (s.accepts_now ..).trans hn.symm
    have turns := State.slot_modSlot_same (s.accepts k .drumHome x) k
      (SlotUnit.turns (s.accepts k .drumHome x).now (1000 * s.config.jamTime))
    rw [now, slotK] at turns
    rw [exec_filterTimeElapsed hx, ha, Bool.not_true, State.deliverEdge_drumHome_off (by rw [slotK]; exact hc),
      State.drumLeft_atHome (by rw [slotK]; exact hd), now]
    refine ⟨_, rfl, congrArg SlotUnit.track turns, fun c hi => ?_, fun hi => ?_, (congrArg SlotUnit.fill turns :),
      (congrArg SlotUnit.bars turns :), (congrArg SlotUnit.locks turns :), fun j hj => ?_, ?_⟩
    · exact (congrArg SlotUnit.intake turns).trans (Intake.turns_of_opened hi)
    · exact (congrArg SlotUnit.intake turns).trans (Intake.turns_of_not_opened hi)
    · exact (State.slot_modSlot_other _ _ hj).trans (State.slot_accepts_other _ _ _ hj)
    · exact congrArg (fun m => { (s.accepts k .drumHome x).modSlot k
        (SlotUnit.turns n (1000 * (s.accepts k .drumHome x).config.jamTime)) with now := m }) now
  · have slotK := s.slot_accepts k .drumHome x
    have now : (s.accepts k .drumHome x).now = n := (s.accepts_now ..).trans hn.symm
    rw [exec_filterTimeElapsed hx, ha, Bool.not_false, State.deliverEdge_drumHome_on (by rw [slotK]; exact hc),
      State.drumCameHome_turning (by rw [slotK]; exact hd)]
    have aborted := State.aborted_turn (s.accepts k .drumHome x) k
      ((s.accepts k .drumHome x).now - ((s.accepts k .drumHome x).slot k).track.turnStart) (by rw [slotK]; exact hc)
    obtain ⟨drum, jam, bar, fill, demand, charges⟩ := aborted
    refine ⟨_, rfl, drum, jam, bar, fill.trans (by rw [slotK]), demand, charges,
      fun c hi ht hw hl hf hfl hs ho => ?_⟩
    have goes := State.aborted_turn_goes_on (s := s.accepts k .drumHome x) (k := k)
      ((s.accepts k .drumHome x).now - ((s.accepts k .drumHome x).slot k).track.turnStart) (by rw [slotK]; exact hi) ht hw hl
      (by rw [slotK]; exact hf) (by rw [slotK]; exact hfl) (by rw [slotK]; exact hs) (by rw [slotK]; exact ho)
    rw [goes, now]
    rfl
  · have slotK := s.slot_accepts k .drumOpen x
    have reached : (s.accepts k .drumOpen x).drumReachedOpen k
        = (s.accepts k .drumOpen x).modTrack k fun y => { y with drum := .reachedOpen } := by
      unfold State.drumReachedOpen
      rw [slotK]
      simp only [hd]
    rw [exec_filterTimeElapsed hx, ha, Bool.not_false, State.deliverEdge_drumOpen_on (by rw [slotK]; exact hc), reached]
    refine ⟨_, rfl, ?_⟩
    unfold State.modTrack
    rw [State.slot_modSlot_same, slotK]
  · obtain ⟨bar, track, session, placed, dropped⟩ := State.jammed (s.elapseTo d) k
      (.drumJam k ((s.slot k).track.drum == .reachedOpen)) hc
    refine ⟨_, exec_drumJam hd hc hh hb, ?_, bar, track, session, placed, dropped⟩
    rw [(State.relogged_alert ..).now, (State.barred_jams ..).now, s.elapseTo_now, hn]

end Sys2Proof.Machine
end

section
/-! SUPPORT. STATION_CONFIG (O19; R8, R33, R122): its payload, the due times under a new interval, the period. -/

namespace Sys2Proof.Machine

/-! ## The payload (R8, R187) -/

theorem OfflinePolicy.ofCode_none {n : Nat} (h : 3 ≤ n) : OfflinePolicy.ofCode n = none := by
  unfold OfflinePolicy.ofCode
  split <;> first | omega | rfl

@[simp] theorem OfflinePolicy.ofCode_code (x : OfflinePolicy) : OfflinePolicy.ofCode (x.code % 256) = some x := by
  cases x <;> rfl

/-- Six policies are sent as six codes. -/
theorem policies_toList (ps : Vector OfflinePolicy 6) : ∃ a b c d e f, ps = #v[a, b, c, d, e, f] := by
  refine ⟨ps[0], ps[1], ps[2], ps[3], ps[4], ps[5], Vector.ext fun i hi => ?_⟩
  interval_cases i <;> rfl

theorem periodKindAt_none {bs : List Byte} {i : Nat} (h : 2 ≤ byteAt bs i) : periodKindAt bs i = none := by
  unfold periodKindAt
  split <;> first | omega | rfl

theorem policiesAt_none {bs : List Byte} {i j : Nat} (hj : j < 6) (h : 3 ≤ byteAt bs (i + j)) : policiesAt bs i = none := by
  have none := OfflinePolicy.ofCode_none h
  unfold policiesAt
  split
  · interval_cases j <;> simp_all
  · rfl

/-- A structural error names no configuration (R8). -/
theorem configAt_none {bs : List Byte}
    (h : 2 ≤ byteAt bs 8 ∨ byteAt bs 10 ≠ 6 ∨ bs.length ≠ 18 ∨ ∃ i < 6, 3 ≤ byteAt bs (11 + i)) : configAt bs = none := by
  unfold configAt
  obtain h | h | h | ⟨i, hi, h⟩ := h
  · rw [periodKindAt_none h]; simp
  · rw [if_neg (by simp [h])]
  · rw [if_neg (by simp [h])]
  · rw [policiesAt_none hi h]
    split
    · split <;> simp_all
    · rfl

/-- A configuration is sent as it reads back, but for the ranges of its fields (R8, R187). -/
theorem configAt_encConfig {c : StationConfig} (h : c.fits) : configAt (encConfig c) = some c.clamped := by
  obtain ⟨idle, jam, wait, raise, link, interval, limit, days⟩ := h
  obtain ⟨p0, p1, p2, p3, p4, p5, ps⟩ := policies_toList c.policies
  have bytes : encConfig c = u8 c.idleTimeout ++ u8 c.jamTime ++ u8 c.custodyWait ++ u16 c.raiseTimeout ++ u16 c.linkTimeout
      ++ u8 c.rangingInterval ++ encPeriodKind c.periodKind ++ u8 6 ++ (u8 p0.code ++ u8 p1.code ++ u8 p2.code ++ u8 p3.code
      ++ u8 p4.code ++ u8 p5.code) ++ u8 c.offlineLimit := by
    unfold encConfig
    rw [ps]
    rfl
  have policies : policiesAt (encConfig c) 11 = some c.policies := by
    rw [bytes, ps]
    cases c.periodKind <;>
      simp only [policiesAt, encPeriodKind, u8, u16, List.cons_append, List.nil_append, byteAt_cons_succ, byteAt_cons_zero,
        BitVec.toNat_ofNat, Nat.reducePow, OfflinePolicy.ofCode_code]
  have kind : periodKindAt (encConfig c) 8 = some c.clamped.periodKind := by
    rw [bytes]
    unfold StationConfig.clamped
    cases hk : c.periodKind with
    | month => rfl
    | days n => simp [periodKindAt, encPeriodKind, u8, u16, Nat.mod_eq_of_lt (days n hk)]
  have length : (encConfig c).length = 18 := by rw [bytes]; cases c.periodKind <;> rfl
  have count : byteAt (encConfig c) 10 = 6 := by rw [bytes]; cases c.periodKind <;> rfl
  have last : byteAt (encConfig c) 17 = c.offlineLimit := by
    rw [bytes]; cases c.periodKind <;> simp [encPeriodKind, u8, u16, Nat.mod_eq_of_lt limit]
  unfold configAt
  rw [if_pos ⟨count, length⟩, policies, kind]
  dsimp only
  rw [last]
  simp only [StationConfig.clamped, bytes, u8, u16, List.cons_append, List.nil_append, byteAt_cons_succ,
    byteAt_cons_zero, BitVec.toNat_ofNat, Nat.reducePow, u16At, u16_bytes raise, u16_bytes link, Nat.mod_eq_of_lt idle,
    Nat.mod_eq_of_lt jam, Nat.mod_eq_of_lt wait, Nat.mod_eq_of_lt interval]

/-! ## The due times under a new interval (R8, R33) -/

/-- A slot whose due time has been moved: its bars and its intake follow what an append to the log does. -/
structure SlotUnit.Due (u v : SlotUnit) : Prop where
  frame : v = { u with range := { u.range with due := v.range.due }, bars := v.bars, intake := v.intake }
  flood : v.bars.flood = u.bars.flood

/-- What the moving of due times leaves (R33, R35). -/
structure State.Due (s t : State) : Prop extends s.Ranged t where
  slot : ∀ j, (s.slot j).Due (t.slot j)

section
variable {s t u : State} {k : Slot}

theorem SlotUnit.Due.configured {u v : SlotUnit} (h : u.Due v) : v.configured = u.configured :=
  (congrArg SlotUnit.configured h.frame :)

theorem SlotUnit.Due.lastBurst {u v : SlotUnit} (h : u.Due v) : v.range.lastBurst = u.range.lastBurst :=
  (congrArg (fun x : SlotUnit => x.range.lastBurst) h.frame :)

theorem SlotUnit.Due.refl (u : SlotUnit) : u.Due u := ⟨rfl, rfl⟩

theorem SlotUnit.Due.trans {u v w : SlotUnit} (h : u.Due v) (h' : v.Due w) : u.Due w :=
  ⟨by rw [h'.frame, h.frame], h'.flood.trans h.flood⟩

theorem SlotUnit.Relogged.due {u v : SlotUnit} (h : u.Relogged v) : u.Due v :=
  ⟨by rw [h.but], h.has (b := .flood) (by decide)⟩

theorem State.Due.refl (s : State) : s.Due s := { State.Ranged.refl s with slot := fun _ => .refl _ }

theorem State.Due.trans (h : s.Due t) (h' : t.Due u) : s.Due u :=
  { h.toRanged.trans h'.toRanged with slot := fun j => (h.slot j).trans (h'.slot j) }

theorem State.Reranged.due (h : s.Reranged t) : s.Due t := { h.toRanged with slot := fun j => (h.slot j).due }

theorem State.due_setRangeDue (s : State) (k : Slot) (d : Option Nat) : s.Due (s.modRange k fun x => { x with due := d }) := by
  refine { slot := fun j => ?_ }
  unfold State.modRange
  rw [State.slot_modSlot]
  split
  · exact ⟨rfl, rfl⟩
  · exact .refl _

/-- The due time of a configured slot under the interval in force (R8, R33). -/
def State.movedDue (s : State) (k : Slot) : Nat :=
  if (s.slot k).range.lastBurst + s.config.intervalMs ≤ s.now then s.now + s.config.intervalMs
  else (s.slot k).range.lastBurst + s.config.intervalMs

/-- A move of a due time leads to the new due time, and from there to a PERIODIC request where it had passed (R33). -/
theorem State.moveDue_cases (s : State) (k : Slot) : ((s.slot k).configured = false ∧ s.moveDue k = s)
    ∨ (s.slot k).configured = true
      ∧ ((s.moveDue k = s.modRange k fun x => { x with due := some (s.movedDue k) })
          ∧ ((s.slot k).range.lastBurst + s.config.intervalMs ≤ s.now → (s.slot k).bars.flood = true)
        ∨ s.moveDue k = (s.modRange k fun x => { x with due := some (s.movedDue k) }).requestRange k .periodic
          ∧ (s.slot k).bars.flood = false) := by
  unfold State.moveDue State.movedDue
  cases hc : (s.slot k).configured with
  | false => exact .inl ⟨rfl, rfl⟩
  | true =>
    refine .inr ⟨rfl, ?_⟩
    simp only [Bool.not_true, Bool.false_eq_true, ↓reduceIte]
    split
    · cases hf : (s.slot k).bars.flood with
      | false => exact .inr ⟨rfl, rfl⟩
      | true => exact .inl ⟨rfl, fun _ => rfl⟩
    · next h => exact .inl ⟨rfl, fun h' => absurd h' h⟩

theorem State.due_moveDue (s : State) (k : Slot) : s.Due (s.moveDue k) := by
  obtain ⟨-, e⟩ | ⟨-, ⟨e, -⟩ | ⟨e, -⟩⟩ := s.moveDue_cases k
  · rw [e]; exact .refl s
  · rw [e]; exact s.due_setRangeDue k _
  · rw [e]
    exact (s.due_setRangeDue k _).trans (State.reranged_requestRange _ k (by decide)).due

/-- The due time of slot k stands, with its request where that had passed, as it is to stand after a move from s. -/
structure State.dueStands (s t : State) (k : Slot) : Prop where
  due : (t.slot k).range.due = some (s.movedDue k)
  asked : (s.slot k).range.lastBurst + s.config.intervalMs ≤ s.now → (s.slot k).bars.flood = false → t.firstAsked k .periodic

/-- A move brings it about for its own slot. -/
theorem State.dueStands_moveDue (hc : (s.slot k).configured = true) : s.dueStands (s.moveDue k) k := by
  have set : (s.modRange k fun x => { x with due := some (s.movedDue k) }).slot k
      = { s.slot k with range := { (s.slot k).range with due := some (s.movedDue k) } } := State.slot_modSlot_same ..
  obtain ⟨h, -⟩ | ⟨-, ⟨e, hf⟩ | ⟨e, hf⟩⟩ := s.moveDue_cases k
  · rw [hc] at h; cases h
  · rw [e]
    exact ⟨by rw [set], fun hp hn => by rw [hf hp] at hn; cases hn⟩
  · rw [e]
    refine ⟨?_, fun _ _ => ?_⟩
    · rw [((State.reranged_requestRange _ k (by decide)).slot k).range, set]
    · exact (State.firstAsked_queueRange false (by decide) (by rw [set]; exact hc) (by rw [set]; exact hf)).chooseBurst

/-- A move of another slot's keeps it. -/
theorem State.dueStands.moveDue (h : s.dueStands t k) {j : Slot} (hj : j ≠ k) : s.dueStands (t.moveDue j) k := by
  have set : (t.modRange j fun x => { x with due := some (t.movedDue j) }).slot k = t.slot k :=
    State.slot_modSlot_other _ _ hj.symm
  obtain ⟨-, e⟩ | ⟨-, ⟨e, -⟩ | ⟨e, -⟩⟩ := t.moveDue_cases j
  · rwa [e]
  · rw [e]
    exact ⟨by rw [set]; exact h.due, fun hp hf => (h.asked hp hf).congr rfl⟩
  · rw [e]
    refine ⟨?_, fun hp hf => ?_⟩
    · rw [((State.reranged_requestRange _ j (by decide)).slot k).range, set]
      exact h.due
    · exact (((h.asked hp hf).congr (t := t.modRange j _) rfl).queueRange false hj (by decide)).chooseBurst

theorem State.due_moves (s : State) (l : List Slot) : s.Due (l.foldl (fun t k => t.moveDue k) s) := by
  induction l generalizing s with
  | nil => exact .refl s
  | cons k l ih => exact (s.due_moveDue k).trans (ih _)

theorem State.dueStands.moves (h : s.dueStands t k) {l : List Slot} (hl : k ∉ l) :
    s.dueStands (l.foldl (fun t k => t.moveDue k) t) k := by
  induction l generalizing t with
  | nil => exact h
  | cons j l ih =>
    rw [List.mem_cons, not_or] at hl
    exact ih (h.moveDue fun e => hl.1 e.symm) hl.2

/-- What a move of slot k brings about depends on what moves of other slots leave alone. -/
theorem State.dueStands.of_due (h : u.dueStands t k) (hd : s.Due u) : s.dueStands t k := by
  have moved : u.movedDue k = s.movedDue k := by
    unfold State.movedDue; rw [(hd.slot k).lastBurst, hd.config, hd.now]
  refine ⟨h.due.trans (by rw [moved]), fun hp hf => h.asked ?_ ?_⟩
  · rw [(hd.slot k).lastBurst, hd.config, hd.now]; exact hp
  · rw [(hd.slot k).flood]; exact hf

/-- The moves of all slots bring it about for each (R8, R33). -/
theorem State.dueStands_eachSlot (hc : (s.slot k).configured = true) : s.dueStands (s.eachSlot State.moveDue) k := by
  have split : ∃ l l', allSlots = l ++ k :: l' ∧ k ∉ l' := by
    obtain ⟨l, l', e⟩ := List.append_of_mem (show k ∈ allSlots by fin_cases k <;> decide)
    have nodup : (l ++ k :: l').Nodup := e ▸ (by decide : allSlots.Nodup)
    exact ⟨l, l', e, (List.nodup_cons.mp (List.nodup_append.mp nodup).2.1).1⟩
  obtain ⟨l, l', e, hl⟩ := split
  unfold State.eachSlot
  rw [e, List.foldl_append, List.foldl_cons]
  have before := s.due_moves l
  exact ((State.dueStands_moveDue (by rw [(before.slot k).configured]; exact hc)).moves hl).of_due before

/-! ## The period (R122) -/

theorem State.post_frame (s : State) (p : Port) (n : NoticeKind) (pl : List Byte) :
    s.post p n pl = { s with ports := (s.post p n pl).ports } := by
  unfold State.post State.notify
  dsimp only
  split
  · rfl
  · split <;> rfl

/-- A recomputation changes no more than the period number and the port OFFICE, to which a new number is told. -/
theorem State.recomputePeriod_cases {cfg : StationConfig} {clk : Clock} (hc : s.config = cfg) (hk : s.clock = clk)
    (c : PeriodCause) :
    (clk.valid = true → periodOf cfg.periodKind clk.time.toNat = clk.period) ∧ s.recomputePeriod c = s
    ∨ clk.valid = true ∧ periodOf cfg.periodKind clk.time.toNat ≠ clk.period
      ∧ s.recomputePeriod c = ({ s with clock := { clk with period := periodOf cfg.periodKind clk.time.toNat } }).post .office
        .periodChange (u16 clk.period ++ u16 (periodOf cfg.periodKind clk.time.toNat) ++ encPeriodKind cfg.periodKind
          ++ u8 c.code) := by
  subst hc hk
  unfold State.recomputePeriod
  dsimp only
  split
  · next h => exact .inr ⟨h.1, h.2, rfl⟩
  · next h => exact .inl ⟨fun hv => by by_contra hn; exact h ⟨hv, hn⟩, rfl⟩

theorem State.recomputePeriod_frame {cfg : StationConfig} {clk : Clock} (hc : s.config = cfg) (hk : s.clock = clk)
    (c : PeriodCause) : s.recomputePeriod c = { s with
      ports := (s.recomputePeriod c).ports
      clock := { clk with period := if clk.valid then periodOf cfg.periodKind clk.time.toNat else clk.period } } := by
  obtain ⟨same, e⟩ | ⟨valid, -, e⟩ := State.recomputePeriod_cases hc hk c
  · have kept : (if clk.valid then periodOf cfg.periodKind clk.time.toNat else clk.period) = clk.period := by
      split
      · next hv => exact same hv
      · rfl
    rw [e, kept, ← hk]
  · rw [e, if_pos valid]
    exact State.post_frame ..

theorem State.noticed_recomputePeriod (s : State) (c : PeriodCause) : s.Noticed (s.recomputePeriod c) := by
  obtain ⟨-, e⟩ | ⟨-, -, e⟩ := State.recomputePeriod_cases (s := s) rfl rfl c
  · rw [e]; exact .refl s
  · rw [e]
    have start : s.Noticed { s with clock := { s.clock with
        period := periodOf s.config.periodKind s.clock.time.toNat } } := (State.Noticed.refl s).congr rfl rfl
    exact start.trans (State.noticed_notify ..)

/-! ## The request (R8) -/

/-- A notice at the port of a request that is being taken is the same before and after the taking (R179, R180). -/
theorem State.notify_popRequest_office (s : State) (f : List Byte) (n : Nat) (pl : List Byte) :
    (s.popRequest .office f).notify .office n pl = (s.notify .office n pl).popRequest .office f := by
  have run : (s.popRequest .office f).run = s.run := rfl
  have room : ((s.popRequest .office f).port .office).noticeRoom = (s.port .office).noticeRoom := rfl
  unfold State.notify
  dsimp only
  rw [run, room]
  split
  · rfl
  · split <;> rfl

theorem exec_stationConfig {tag : Byte} {pl : List Byte} (h12 : 12 ≤ pl.length) (hl : pl.length ≤ 61)
    (h : s.offers .office (frameOf 0x03 tag pl)) :
    exec (.stationConfig .office) s = .next ((s.popRequest .office (frameOf 0x03 tag pl)).stationConfig
      { port := .office, kind := BitVec.ofNat 8 0x03, tag := tag, payload := pl }) :=
  congrArg _ (State.takeKind_offers _ h hl rfl (by decide) (by decide) rfl (by simpa [RequestKind.admits] using h12))

theorem State.stationConfig_badField {x : Taken} (h : configAt x.payload = none) : s.stationConfig x = s.refuse x .badField := by
  unfold State.stationConfig; rw [h]

theorem State.stationConfig_stores {x : Taken} {c : StationConfig} (h : configAt x.payload = some c) :
    s.stationConfig x = (s.applyConfig c).answer x .ok (encConfig c) := by
  unfold State.stationConfig; rw [h]

/-- The state in which a new configuration stands and the due times have been moved, the period as before (R8). -/
def State.configured (c : StationConfig) (s : State) : State :=
  if c.rangingInterval = s.config.rangingInterval then { s with config := c } else ({ s with config := c }).eachSlot State.moveDue

theorem State.applyConfig_eq (s : State) (c : StationConfig) :
    s.applyConfig c = (s.configured c).recomputePeriod .config := rfl

theorem State.due_configured (s : State) (c : StationConfig) : State.Due { s with config := c } (s.configured c) := by
  unfold State.configured
  split
  · exact .refl _
  · exact State.due_moves _ allSlots

theorem State.noticed_configured (s : State) (c : StationConfig) : s.Noticed (s.configured c) := by
  have start : s.Noticed { s with config := c } := (State.Noticed.refl s).congr rfl rfl
  unfold State.configured
  split
  · exact start
  · exact Kept.eachSlot (fun k _ h => Kept.moveDue k h) start.holds

theorem State.noticed_applyConfig (s : State) (c : StationConfig) : s.Noticed (s.applyConfig c) :=
  (s.noticed_configured c).trans (State.noticed_recomputePeriod ..)

/-- A new configuration changes nothing but what R8, R33, R35 and R122 name. -/
theorem State.applyConfig_frame (s : State) (c : StationConfig) : s.applyConfig c = { s with
    ports := (s.applyConfig c).ports, config := c, slots := (s.applyConfig c).slots, ranging := (s.applyConfig c).ranging
    clock := { s.clock with period := if s.clock.valid then periodOf c.periodKind s.clock.time.toNat else s.clock.period }
    log := (s.applyConfig c).log, probe := (s.applyConfig c).probe, freeIndex := (s.applyConfig c).freeIndex } := by
  have moved := s.due_configured c
  have period := State.recomputePeriod_frame (cfg := c) (clk := s.clock) moved.config moved.clock .config
  rw [State.applyConfig_eq]
  have slots : ((s.configured c).recomputePeriod .config).slots = (s.configured c).slots := (congrArg State.slots period :)
  have ranging : ((s.configured c).recomputePeriod .config).ranging = (s.configured c).ranging :=
    (congrArg State.ranging period :)
  have log : ((s.configured c).recomputePeriod .config).log = (s.configured c).log := (congrArg State.log period :)
  have probe : ((s.configured c).recomputePeriod .config).probe = (s.configured c).probe := (congrArg State.probe period :)
  have freeIndex : ((s.configured c).recomputePeriod .config).freeIndex = (s.configured c).freeIndex :=
    (congrArg State.freeIndex period :)
  rw [slots, ranging, log, probe, freeIndex]
  exact period.trans (congrArg (fun u : State => { u with
    ports := ((s.configured c).recomputePeriod .config).ports
    clock := { s.clock with
      period := if s.clock.valid then periodOf c.periodKind s.clock.time.toNat else s.clock.period } }) moved.frame)

/-- The answer of the request leaves what the configuration left. -/
theorem State.answer_configured {x : Taken} {st : Status} {pl : List Byte} {p : Ports} {c : StationConfig}
    {sl : Vector SlotUnit 8} {r : Ranging} {clk : Clock} {l : StationLog} {pr : ProbeInput} {n : Nat}
    (h : u = { s with
      ports := p, config := c, slots := sl, ranging := r, clock := clk, log := l, probe := pr, freeIndex := n }) :
    u.answer x st pl = { s with
      ports := (u.answer x st pl).ports, config := (u.answer x st pl).config, slots := (u.answer x st pl).slots
      ranging := (u.answer x st pl).ranging, clock := (u.answer x st pl).clock, log := (u.answer x st pl).log
      probe := (u.answer x st pl).probe, freeIndex := (u.answer x st pl).freeIndex } := by
  subst h
  rfl

/-- The recomputation of the period leaves the slots and the Ranging Unit as the moves of the due times left them. -/
theorem State.applyConfig_slots (s : State) (c : StationConfig) : (s.applyConfig c).slots = (s.configured c).slots :=
  (congrArg State.slots (State.recomputePeriod_frame (s := s.configured c) rfl rfl .config) :)

theorem State.applyConfig_ranging (s : State) (c : StationConfig) : (s.applyConfig c).ranging = (s.configured c).ranging :=
  (congrArg State.ranging (State.recomputePeriod_frame (s := s.configured c) rfl rfl .config) :)

/-- Under the same interval and the same period the configuration alone is stored (R8). -/
theorem State.applyConfig_same {c : StationConfig} (hi : c.rangingInterval = s.config.rangingInterval)
    (hp : s.clock.valid = true → periodOf c.periodKind s.clock.time.toNat = s.clock.period) :
    s.applyConfig c = { s with config := c } := by
  have stored : s.configured c = { s with config := c } := if_pos hi
  rw [State.applyConfig_eq, stored]
  obtain ⟨-, e⟩ | ⟨hv, hne, -⟩ := State.recomputePeriod_cases (s := { s with config := c }) rfl rfl .config
  · exact e
  · exact absurd (hp hv) hne

/-- A new period number is stored and told (R122). -/
theorem State.applyConfig_period {c : StationConfig} (hv : s.clock.valid = true)
    (hne : periodOf c.periodKind s.clock.time.toNat ≠ s.clock.period) :
    s.applyConfig c = ({ s.configured c with clock := { s.clock with
        period := periodOf c.periodKind s.clock.time.toNat } }).notify .office 0xC3
      (u16 s.clock.period ++ u16 (periodOf c.periodKind s.clock.time.toNat) ++ encPeriodKind c.periodKind ++ u8 2) := by
  have moved := s.due_configured c
  rw [State.applyConfig_eq]
  obtain ⟨same, -⟩ | ⟨-, -, e⟩ :=
    State.recomputePeriod_cases (cfg := c) (clk := s.clock) moved.config moved.clock .config
  · exact absurd (same hv) hne
  · exact e

/-- Each configured slot's due time under a new interval (R8, R33). -/
theorem State.applyConfig_due {c : StationConfig} (hc : (s.slot k).configured = true)
    (hi : c.rangingInterval ≠ s.config.rangingInterval) :
    State.dueStands { s with config := c } (s.applyConfig c) k := by
  have stands : State.dueStands { s with config := c } (s.configured c) k := by
    unfold State.configured
    rw [if_neg hi]
    exact State.dueStands_eachSlot hc
  exact ⟨by rw [State.slot_congr (s.applyConfig_slots c)]; exact stands.due,
    fun hp hf => (stands.asked hp hf).congr (s.applyConfig_ranging c)⟩

theorem encConfig_length (c : StationConfig) : (encConfig c).length = 18 := by
  obtain ⟨p0, p1, p2, p3, p4, p5, ps⟩ := policies_toList c.policies
  unfold encConfig
  rw [ps]
  cases c.periodKind <;> rfl

theorem exec_stationConfig_stores {tag : Byte} {c : StationConfig} (hf : c.fits)
    (ho : s.offers .office (frameOf 0x03 tag (encConfig c))) :
    exec (.stationConfig .office) s = .next (((s.popRequest .office (frameOf 0x03 tag (encConfig c))).applyConfig c.clamped).answer
      { port := .office, kind := BitVec.ofNat 8 0x03, tag := tag, payload := encConfig c } .ok (encConfig c.clamped)) := by
  have length := encConfig_length c
  rw [exec_stationConfig (by omega) (by omega) ho]
  exact congrArg _ (State.stationConfig_stores
    (x := { port := .office, kind := BitVec.ofNat 8 0x03, tag := tag, payload := encConfig c }) (configAt_encConfig hf))

end

/-- Settles O19. -/
theorem stationConfigTakesEffect : Obligations.StationConfigTakesEffect := by
  intro s tag
  refine ⟨fun pl h12 hl hb ho => ?_, fun c hf ho => ?_⟩
  · rw [exec_stationConfig h12 hl ho, State.stationConfig_badField (configAt_none hb)]
    exact congrArg _ (State.refuse_popRequest ..)
  have popped := s.popRequest_of_ne_crew (p := .office) (by decide) (frameOf 0x03 tag (encConfig c))
  have config : (s.popRequest .office (frameOf 0x03 tag (encConfig c))).config = s.config := by rw [popped]
  have clock : (s.popRequest .office (frameOf 0x03 tag (encConfig c))).clock = s.clock := by rw [popped]
  have now : (s.popRequest .office (frameOf 0x03 tag (encConfig c))).now = s.now := by rw [popped]
  have frame := (s.popRequest .office (frameOf 0x03 tag (encConfig c))).applyConfig_frame c.clamped
  have slots := (s.popRequest .office (frameOf 0x03 tag (encConfig c))).applyConfig_slots c.clamped
  rw [exec_stationConfig_stores hf ho]
  refine ⟨fun hi hp => ?_, fun n p hn hv hne hp => ⟨fun hi => ?_, fun t ht => ?_⟩, _, rfl, (congrArg State.config frame :),
    State.answeredLast_of_noticed _ _ (State.noticed_applyConfig ..), ?_, fun k hc hi => ?_, fun k => ?_, ?_⟩
  · rw [State.applyConfig_same (by rw [config]; exact hi) (by rw [clock]; exact hp)]
    exact congrArg _ (State.answer_popRequest (s := { s with config := c.clamped }) ..)
  · subst hn hp
    have stored : (s.popRequest .office (frameOf 0x03 tag (encConfig c))).configured c.clamped
        = { s.popRequest .office (frameOf 0x03 tag (encConfig c)) with config := c.clamped } :=
      if_pos (by rw [config]; exact hi)
    rw [State.applyConfig_period (by rw [clock]; exact hv) (by rw [clock]; exact hne), stored, clock]
    have told := State.notify_popRequest_office { s with config := c.clamped, clock := { s.clock with
      period := periodOf c.clamped.periodKind s.clock.time.toNat } } (frameOf 0x03 tag (encConfig c)) 0xC3
      (u16 s.clock.period ++ u16 (periodOf c.clamped.periodKind s.clock.time.toNat) ++ encPeriodKind c.clamped.periodKind
        ++ u8 2)
    refine congrArg _ ((congrArg (fun u => State.answer _ .ok (encConfig c.clamped) u) told).trans ?_)
    exact State.answer_popRequest ..
  · subst hn hp
    injection ht with ht
    subst ht
    have applied := State.applyConfig_period (s := s.popRequest .office (frameOf 0x03 tag (encConfig c))) (c := c.clamped)
      (by rw [clock]; exact hv) (by rw [clock]; exact hne)
    rw [clock] at applied
    have answered := State.answer_outbox ((s.popRequest .office (frameOf 0x03 tag (encConfig c))).applyConfig c.clamped)
      { port := .office, kind := BitVec.ofNat 8 0x03, tag := tag, payload := encConfig c } .office .ok (encConfig c.clamped)
    have noticed := State.noticed_configured (s.popRequest .office (frameOf 0x03 tag (encConfig c))) c.clamped
    have before := (noticed.port .office).outboxPrefix
    rw [State.popRequest_outbox] at before
    nth_rewrite 1 [applied] at answered
    exact State.posted_of_notify (a := { (s.popRequest .office (frameOf 0x03 tag (encConfig c))).configured c.clamped with
      clock := { s.clock with period := periodOf c.clamped.periodKind s.clock.time.toNat } }) (noticed.run.trans ho.1) before answered
  · exact (congrArg State.clock frame :).trans (by rw [clock])
  · have stands := State.applyConfig_due (s := s.popRequest .office (frameOf 0x03 tag (encConfig c))) (c := c.clamped) (k := k)
      (by rw [State.slot_popRequest]; exact hc) (by rw [config]; exact hi)
    have slotK : State.slot { s.popRequest .office (frameOf 0x03 tag (encConfig c)) with config := c.clamped } k = s.slot k :=
      State.slot_popRequest ..
    have moved : State.movedDue { s.popRequest .office (frameOf 0x03 tag (encConfig c)) with config := c.clamped } k
        = if (s.slot k).range.lastBurst + 60000 * c.clamped.rangingInterval ≤ s.now
          then s.now + 60000 * c.clamped.rangingInterval
          else (s.slot k).range.lastBurst + 60000 * c.clamped.rangingInterval := by
      unfold State.movedDue StationConfig.intervalMs
      rw [slotK]
      dsimp only
      rw [now]
    have due := stands.due
    rw [moved] at due
    refine ⟨fun hl => due.trans (by rw [if_neg (by omega)]), fun hl => ⟨due.trans (by rw [if_pos hl]), fun hf => ?_⟩⟩
    refine (stands.asked ?_ (by rw [slotK]; exact hf)).rangingAsked
    rw [slotK]
    exact hl
  · have due := ((s.popRequest .office (frameOf 0x03 tag (encConfig c))).due_configured c.clamped).slot k
    have slotK : State.slot { s.popRequest .office (frameOf 0x03 tag (encConfig c)) with config := c.clamped } k = s.slot k :=
      State.slot_popRequest ..
    rw [slotK, ← State.slot_congr slots] at due
    exact due.frame
  · exact (State.answer_configured frame).trans (by rw [popped])

end Sys2Proof.Machine
end

section
/-! SUPPORT. The slot record of SLOT_CONFIG: its ranges, its payload, and the refusals of the request (R2, R4, R187). -/

namespace Sys2Proof.Machine

/-! ## The ranges of a record (R1, R2) -/

theorem clamp_eq_nearest {lo hi n : Nat} (h : lo ≤ hi) : clamp lo hi n = nearest lo hi n := by
  unfold clamp nearest
  split
  · omega
  · split <;> omega

theorem clamp_eq_self {lo hi n : Nat} (hl : lo ≤ n) (hh : n ≤ hi) : clamp lo hi n = n := by unfold clamp; omega

theorem clamp_bounds {lo hi : Nat} (n : Nat) (h : lo ≤ hi) : lo ≤ clamp lo hi n ∧ clamp lo hi n ≤ hi := by
  unfold clamp; omega

/-- Each number of a record is brought to the nearest limit of its range, each limit taken from the fields ahead of it (R2). -/
theorem SlotRecord.clamped_eq (r : SlotRecord) : r.clamped = { r with
    cls := nearest 0 63 r.cls, vNom := nearest 500 5000 r.vNom, hS := nearest 800 3500 r.hS
    hU := nearest 300 (r.clamped.hS - 150) r.hU, drumVolume := nearest 10 120 r.drumVolume
    packing := nearest 50 1000 r.packing, weight := nearest 4 16 r.weight, tFull := nearest 500 990 r.tFull
    tReopen := nearest 300 (r.clamped.tFull - 50) r.tReopen, tDem := nearest 300 r.clamped.tFull r.tDem } := by
  have hS : 800 ≤ r.clamped.hS := (clamp_bounds r.hS (by decide)).1
  have tFull : 500 ≤ r.clamped.tFull := (clamp_bounds r.tFull (by decide)).1
  rw [← clamp_eq_nearest (by decide), ← clamp_eq_nearest (by decide), ← clamp_eq_nearest (by decide),
    ← clamp_eq_nearest (by omega), ← clamp_eq_nearest (by decide), ← clamp_eq_nearest (by decide),
    ← clamp_eq_nearest (by decide), ← clamp_eq_nearest (by decide), ← clamp_eq_nearest (by omega),
    ← clamp_eq_nearest (by omega)]
  rfl

/-- A record within its ranges is stored as it is (R2). -/
theorem SlotRecord.clamped_of_inRange {r : SlotRecord} (h : r.inRange) : r.clamped = r := by
  obtain ⟨cls, ⟨vNom, vNom'⟩, ⟨hS, hS'⟩, ⟨hU, hU'⟩, ⟨drum, drum'⟩, ⟨packing, packing'⟩, ⟨weight, weight'⟩,
    ⟨tFull, tFull'⟩, ⟨tReopen, tReopen'⟩, tDem, tDem'⟩ := h
  simp only [SlotRecord.clamped, clamp_eq_self (Nat.zero_le _) cls, clamp_eq_self vNom vNom', clamp_eq_self hS hS',
    clamp_eq_self hU hU', clamp_eq_self drum drum', clamp_eq_self packing packing', clamp_eq_self weight weight',
    clamp_eq_self tFull tFull', clamp_eq_self tReopen tReopen', clamp_eq_self tDem tDem']

/-- A filter time is stored as the nearest code, of two as near the longer (R2). -/
theorem FilterCode.ofMs_nearest (ms : Nat) (c : FilterCode) :
    (ms - (FilterCode.ofMs ms).ms : Int).natAbs ≤ (ms - c.ms : Int).natAbs
      ∧ ((ms - (FilterCode.ofMs ms).ms : Int).natAbs = (ms - c.ms : Int).natAbs → c.ms ≤ (FilterCode.ofMs ms).ms) := by
  have codes : c.ms = 5 ∨ c.ms = 10 ∨ c.ms = 20 ∨ c.ms = 40 ∨ c.ms = 80 ∨ c.ms = 160 := by cases c <;> simp [FilterCode.ms]
  generalize c.ms = m at codes ⊢
  unfold FilterCode.ofMs
  split_ifs <;> simp only [FilterCode.ms] <;> omega

theorem FilterCode.ofMs_ms (c : FilterCode) : FilterCode.ofMs c.ms = c := by cases c <;> rfl

theorem FilterCode.ms_lt (c : FilterCode) : c.ms < 65536 := by cases c <;> decide

/-! ## The payload (R187) -/

theorem flag_byte (b : Bool) : ((if b then 1 else 0) % 256 != 0) = b := by cases b <;> rfl

/-- A record reads back as it is sent, its filter times as their nearest codes (R2, R187). -/
theorem slotRecordAt_fields {r : SlotRecord} {a b c d : Nat} (h : r.fits) (ha : a < 65536) (hb : b < 65536)
    (hc : c < 65536) (hd : d < 65536) :
    slotRecordAt ((encSlotRecord r).take 20 ++ u16 a ++ u16 b ++ u16 c ++ u16 d) 0 = some { r with
      drumFilter := .ofMs a, platformFilter := .ofMs b, tiltFilter := .ofMs c, waterFilter := .ofMs d } := by
  obtain ⟨cls, vNom, hS, hU, drum, packing, weight, tFull, tReopen, tDem⟩ := h
  have fraction : r.fraction.code % 256 = r.fraction.code := Nat.mod_eq_of_lt (by have := r.fraction.code_lt; omega)
  have fields : (encSlotRecord r).take 20 = u8 r.fraction.code ++ u8 r.cls ++ flag r.charged ++ u16 r.vNom ++ u16 r.hS
      ++ u16 r.hU ++ u8 r.drumVolume ++ u16 r.packing ++ u8 r.weight ++ u16 r.tFull ++ u16 r.tReopen ++ u16 r.tDem
      ++ flag r.readerEnable := rfl
  rw [fields]
  simp only [slotRecordAt, u8, u16, flag, List.cons_append, List.nil_append, byteAt_cons_succ, byteAt_cons_zero,
    BitVec.toNat_ofNat, Nat.reducePow, u16At, u16_bytes vNom, u16_bytes hS, u16_bytes hU, u16_bytes packing,
    u16_bytes tFull, u16_bytes tReopen, u16_bytes tDem, u16_bytes ha, u16_bytes hb, u16_bytes hc, u16_bytes hd,
    Nat.mod_eq_of_lt cls, Nat.mod_eq_of_lt drum, Nat.mod_eq_of_lt weight, fraction, Fraction.ofCode_code, Option.map_some,
    flagAt, flag_byte]

/-- A record behind one byte reads as it does without that byte. -/
theorem slotRecordAt_cons (b : Byte) (bs : List Byte) : slotRecordAt (b :: bs) 1 = slotRecordAt bs 0 := rfl

theorem slotRecordAt_encSlotRecord {r : SlotRecord} (k : Slot) (h : r.fits) :
    slotRecordAt (encSlot k ++ encSlotRecord r) 1 = some r := by
  have bytes : encSlotRecord r = (encSlotRecord r).take 20 ++ u16 r.drumFilter.ms ++ u16 r.platformFilter.ms
      ++ u16 r.tiltFilter.ms ++ u16 r.waterFilter.ms := rfl
  have fields := slotRecordAt_fields h r.drumFilter.ms_lt r.platformFilter.ms_lt r.tiltFilter.ms_lt r.waterFilter.ms_lt
  rw [FilterCode.ofMs_ms, FilterCode.ofMs_ms, FilterCode.ofMs_ms, FilterCode.ofMs_ms] at fields
  rw [← bytes] at fields
  have slot : encSlot k ++ encSlotRecord r = BitVec.ofNat 8 k.val :: encSlotRecord r := List.singleton_append
  rw [slot, slotRecordAt_cons]
  exact fields

/-- No fraction has a code above 5 (R2). -/
theorem slotRecordAt_none {bs : List Byte} {i : Nat} (h : 6 ≤ byteAt bs i) : slotRecordAt bs i = none := by
  unfold slotRecordAt; rw [Fraction.ofCode_none h]; rfl

/-! ## The request (R2, R4) -/

section
variable {s : State} {k : Slot} {r : SlotRecord} {tag : Byte} {pl : List Byte}

theorem exec_slotConfig (hl : pl.length = 29) (h : s.offers .office (frameOf 0x04 tag pl)) :
    exec (.slotConfig .office) s = .next ((s.popRequest .office (frameOf 0x04 tag pl)).slotConfig
      { port := .office, kind := BitVec.ofNat 8 0x04, tag := tag, payload := pl }) :=
  congrArg _ (State.takeKind_offers _ h (by omega) rfl (by decide) (by decide) rfl (by simp [hl, RequestKind.admits]))

theorem State.slotConfig_badField {x : Taken} (h : x.slot = none ∨ slotRecordAt x.payload 1 = none) :
    s.slotConfig x = s.refuse x .badField := by
  unfold State.slotConfig
  obtain h | h := h
  · rw [h]
  · rw [h]
    cases x.slot <;> rfl

theorem State.slotConfig_busy {x : Taken} (h : x.slot = some k) (hr : slotRecordAt x.payload 1 = some r)
    (hb : s.slotBusy k = true) : s.slotConfig x = s.refuse x .busy := by
  unfold State.slotConfig; simp only [h, hr, hb, ↓reduceIte]

theorem State.slotConfig_stores {x : Taken} (h : x.slot = some k) (hr : slotRecordAt x.payload 1 = some r)
    (hb : s.slotBusy k = false) : s.slotConfig x
      = (if (s.slot k).configured then s.reconfigureSlot k r.clamped else s.configureSlot k r.clamped).answer x .ok
        (encSlotRecord r.clamped) := by
  unfold State.slotConfig; simp [h, hr, hb]

theorem encSlotRecord_length (r : SlotRecord) : (encSlotRecord r).length = 28 := by simp [encSlotRecord, u8, u16, flag]

theorem exec_slotConfig_record (h : s.offers .office (frameOf 0x04 tag (encSlot k ++ encSlotRecord r))) :
    exec (.slotConfig .office) s = .next ((s.popRequest .office (frameOf 0x04 tag (encSlot k ++ encSlotRecord r))).slotConfig
      { port := .office, kind := BitVec.ofNat 8 0x04, tag := tag, payload := encSlot k ++ encSlotRecord r }) :=
  exec_slotConfig (by rw [List.length_append, encSlotRecord_length]; rfl) h

/-- SLOT_CONFIG of a slot that neither a session nor custody holds (R4 to R6). -/
theorem exec_slotConfig_stores (hf : r.fits) (h : s.offers .office (frameOf 0x04 tag (encSlot k ++ encSlotRecord r)))
    (hb : s.slotBusy k = false) : exec (.slotConfig .office) s = .next
      ((if (s.slot k).configured then
        (s.popRequest .office (frameOf 0x04 tag (encSlot k ++ encSlotRecord r))).reconfigureSlot k r.clamped
      else (s.popRequest .office (frameOf 0x04 tag (encSlot k ++ encSlotRecord r))).configureSlot k r.clamped).answer
        { port := .office, kind := BitVec.ofNat 8 0x04, tag := tag, payload := encSlot k ++ encSlotRecord r } .ok
        (encSlotRecord r.clamped)) := by
  rw [exec_slotConfig_record h]
  have stores := State.slotConfig_stores (s := s.popRequest .office (frameOf 0x04 tag (encSlot k ++ encSlotRecord r)))
    (x := { port := .office, kind := BitVec.ofNat 8 0x04, tag := tag, payload := encSlot k ++ encSlotRecord r })
    (Taken.slot_encSlot (k := k) (bs := encSlotRecord r) rfl) (slotRecordAt_encSlotRecord k hf) (by simpa using hb)
  rw [State.slot_popRequest] at stores
  rw [stores]

end

end Sys2Proof.Machine
end

section
/-! SUPPORT. SLOT_CONFIG of an UNCONFIGURED slot (O21): what each of its stages brings about and leaves (R2, R5). -/

namespace Sys2Proof.Machine

section
variable {s t u : State} {k : Slot} {r : SlotRecord}

/-! ## The rotation (R96) -/

/-- A slot of which at most the LOG bar, the intake that follows it and the reader have changed. -/
structure SlotUnit.Turned (u v : SlotUnit) : Prop where
  frame : v = { u with bars := v.bars, intake := v.intake, reader := v.reader }
  has : ∀ b, b ≠ .log → v.bars.has b = u.bars.has b

theorem SlotUnit.Turned.refl (u : SlotUnit) : u.Turned u := ⟨rfl, fun _ _ => rfl⟩

theorem SlotUnit.Turned.trans {u v w : SlotUnit} (h : u.Turned v) (h' : v.Turned w) : u.Turned w :=
  ⟨by rw [h'.frame, h.frame], fun b hb => (h'.has b hb).trans (h.has b hb)⟩

theorem SlotUnit.Relogged.turned {u v : SlotUnit} (h : u.Relogged v) : u.Turned v :=
  ⟨by rw [h.but], fun _ hb => h.has hb⟩

section
variable {u v : SlotUnit} (h : u.Turned v)
include h

theorem SlotUnit.Turned.configured : v.configured = u.configured := (congrArg SlotUnit.configured h.frame :)
theorem SlotUnit.Turned.record : v.record = u.record := (congrArg SlotUnit.record h.frame :)
theorem SlotUnit.Turned.lines : v.lines = u.lines := (congrArg SlotUnit.lines h.frame :)
theorem SlotUnit.Turned.track : v.track = u.track := (congrArg SlotUnit.track h.frame :)
theorem SlotUnit.Turned.locks : v.locks = u.locks := (congrArg SlotUnit.locks h.frame :)
theorem SlotUnit.Turned.range : v.range = u.range := (congrArg SlotUnit.range h.frame :)
theorem SlotUnit.Turned.fill : v.fill = u.fill := (congrArg SlotUnit.fill h.frame :)

end

/-- What a turn of the reader bus and an append to the log leave. -/
structure State.Turned (s t : State) : Prop extends s.Calm t where
  demand : t.demand = s.demand := by rfl
  lift : t.lift = s.lift := by rfl
  slot : ∀ j, (s.slot j).Turned (t.slot j)

theorem State.Turned.refl (s : State) : s.Turned s := { slot := fun _ => .refl _ }

theorem State.Turned.trans (h : s.Turned t) (h' : t.Turned u) : s.Turned u :=
  { h.toCalm.trans h'.toCalm with
    demand := h'.demand.trans h.demand, lift := h'.lift.trans h.lift, slot := fun j => (h.slot j).trans (h'.slot j) }

theorem State.Reranged.turned (h : s.Reranged t) : s.Turned t :=
  { h.toCalm with demand := h.demand, lift := h.lift, slot := fun j => (h.slot j).turned }

theorem State.turned_modReader (s : State) (k : Slot) (f : Reader → Reader) : s.Turned (s.modReader k f) := by
  refine { slot := fun j => ?_ }
  unfold State.modReader
  rw [State.slot_modSlot]
  split
  · exact ⟨rfl, fun _ _ => rfl⟩
  · exact .refl _

theorem State.turned_modBus (s : State) (f : ReaderBus → ReaderBus) : s.Turned (s.modBus f) := { slot := fun _ => .refl _ }

theorem State.turned_passTurn (s : State) : s.Turned s.passTurn := by
  unfold State.passTurn
  split
  · exact (s.turned_modReader _ _).trans (State.turned_modBus ..)
  · exact s.turned_modBus _

theorem State.turned_joinRotation (s : State) (k : Slot) : s.Turned (s.joinRotation k) := by
  unfold State.joinRotation State.wakeBus
  split
  · split
    · exact s.turned_passTurn
    all_goals exact .refl s
  · exact .refl s

theorem State.joinRotation_ranging (s : State) (k : Slot) : (s.joinRotation k).ranging = s.ranging := by
  unfold State.joinRotation State.wakeBus State.passTurn
  split
  · split
    · split <;> rfl
    all_goals rfl
  · rfl

/-! ## A slot that is being taken into service (R5) -/

/-- What stands, from the storing of the record on, of the slot that is taken into service, and of the other slots. -/
structure State.Serviced (s : State) (k : Slot) (r : SlotRecord) (t : State) : Prop extends s.Calm t where
  demand : t.demand = s.demand
  lift : t.lift = s.lift
  configured : (t.slot k).configured = true
  record : (t.slot k).record = r
  fill : (t.slot k).fill = { h := r.headroom 0 }
  lines : (t.slot k).lines = (s.slot k).lines
  locks : (t.slot k).locks = (s.slot k).locks
  range : (t.slot k).range = { lastBurst := s.now, due := some (s.now + s.config.intervalMs) }
  unmeasured : (t.slot k).bars.unmeasured = true
  other : ∀ j, j ≠ k → (s.slot j).Turned (t.slot j)

theorem State.Serviced.turned (h : s.Serviced k r t) (h' : t.Turned u) : s.Serviced k r u :=
  { h.toCalm.trans h'.toCalm with
    demand := h'.demand.trans h.demand
    lift := h'.lift.trans h.lift
    configured := (h'.slot k).configured.trans h.configured
    record := (h'.slot k).record.trans h.record
    fill := (h'.slot k).fill.trans h.fill
    lines := (h'.slot k).lines.trans h.lines
    locks := (h'.slot k).locks.trans h.locks
    range := (h'.slot k).range.trans h.range
    unmeasured := ((h'.slot k).has .unmeasured (by decide)).trans h.unmeasured
    other := fun j hj => (h.other j hj).trans (h'.slot j) }

/-- The drum and the flood timer of the slot may be set. -/
theorem State.Serviced.modTrack (h : s.Serviced k r t) (f : Tracking → Tracking) : s.Serviced k r (t.modTrack k f) := by
  have set : (t.modTrack k f).slot k = { t.slot k with track := f (t.slot k).track } := State.slot_modSlot_same ..
  exact { h.toCalm.trans {} with
    demand := h.demand
    lift := h.lift
    configured := by rw [set]; exact h.configured
    record := by rw [set]; exact h.record
    fill := by rw [set]; exact h.fill
    lines := by rw [set]; exact h.lines
    locks := by rw [set]; exact h.locks
    range := by rw [set]; exact h.range
    unmeasured := by rw [set]; exact h.unmeasured
    other := fun j hj => by
      rw [show (t.modTrack k f).slot j = t.slot j from State.slot_modSlot_other _ _ hj]
      exact h.other j hj }

/-- Its bars but UNMEASURED may change. -/
theorem State.Serviced.changeBar (h : s.Serviced k r t) {b : Bar} (hb : .unmeasured ≠ b) (v : Bool) :
    s.Serviced k r (t.changeBar k b v) := by
  have barred := t.barred_changeBar k b v
  have set := t.slot_changeBar_same k b v
  exact { h.toCalm.trans barred.toCalm with
    demand := barred.demand.trans h.demand
    lift := barred.lift.trans h.lift
    configured := by rw [set, SlotUnit.withBar_configured]; exact h.configured
    record := by rw [set, SlotUnit.withBar_record]; exact h.record
    fill := by rw [set, SlotUnit.withBar_fill]; exact h.fill
    lines := by rw [set, SlotUnit.withBar_lines]; exact h.lines
    locks := by rw [set, SlotUnit.withBar_locks]; exact h.locks
    range := by rw [set, SlotUnit.withBar_range]; exact h.range
    unmeasured := by rw [set]; exact (SlotUnit.withBar_has_other b v _ hb).trans h.unmeasured
    other := fun j hj => by rw [State.slot_changeBar_other _ _ _ hj]; exact h.other j hj }

/-- The state in which the record stands, with its fill record, UNMEASURED and the due time (R5). -/
def State.stored (k : Slot) (r : SlotRecord) (s : State) : State :=
  (((s.modSlot k fun u =>
    { u with configured := true, record := r, fill := {}, track := {}, range := { lastBurst := s.now } }).recompute k).changeBar
      k .unmeasured true).setDue k

/-- A slot as its record is stored (R5, R39). -/
def SlotUnit.stored (now : Nat) (r : SlotRecord) (u : SlotUnit) : SlotUnit :=
  { u with configured := true, record := r, fill := { h := r.headroom 0 }, track := {}, range := { lastBurst := now } }

theorem State.stored_eq (s : State) (k : Slot) (r : SlotRecord) :
    s.stored k r = ((s.modSlot k (SlotUnit.stored s.now r)).changeBar k .unmeasured true).setDue k := by
  have empty : r.fillOf 0 = 0 := by simp [SlotRecord.fillOf]
  unfold State.stored State.recompute
  rw [State.modSlot_modSlot]
  simp only [empty]
  rfl

theorem State.slot_stored (s : State) (k : Slot) (r : SlotRecord) : (s.stored k r).slot k =
    { ((s.slot k).stored s.now r).withBar .unmeasured true with
      range := { lastBurst := s.now, due := some (s.now + s.config.intervalMs) } } := by
  have barred := (s.modSlot k (SlotUnit.stored s.now r)).barred_changeBar k .unmeasured true
  rw [State.stored_eq]
  unfold State.setDue State.modRange
  rw [State.slot_modSlot_same, State.slot_changeBar_same, State.slot_modSlot_same, SlotUnit.withBar_range, barred.now,
    barred.config]
  rfl

theorem State.slot_stored_other (s : State) {j k : Slot} (r : SlotRecord) (h : j ≠ k) :
    (s.stored k r).slot j = s.slot j := by
  rw [State.stored_eq]
  unfold State.setDue State.modRange
  rw [State.slot_modSlot_other _ _ h, State.slot_changeBar_other _ _ _ h, State.slot_modSlot_other _ _ h]

theorem State.stored_bars (s : State) (k : Slot) (r : SlotRecord) :
    ((s.stored k r).slot k).bars = (s.slot k).bars.put true .unmeasured := by
  rw [State.slot_stored]
  exact SlotUnit.withBar_bars _ _ _ rfl

theorem State.serviced_stored (s : State) (k : Slot) (r : SlotRecord) : s.Serviced k r (s.stored k r) := by
  have barred : (s.modSlot k (SlotUnit.stored s.now r)).Barred
      (((s.modSlot k (SlotUnit.stored s.now r)).changeBar k .unmeasured true).setDue k) :=
    (State.barred_changeBar ..).trans {}
  rw [← State.stored_eq] at barred
  have slotK := s.slot_stored k r
  have bars := s.stored_bars k r
  exact { State.Calm.trans {} barred.toCalm with
    demand := barred.demand
    lift := barred.lift
    configured := by rw [slotK]; exact SlotUnit.withBar_configured ..
    record := by rw [slotK]; exact SlotUnit.withBar_record ..
    fill := by rw [slotK]; exact SlotUnit.withBar_fill ..
    lines := by rw [slotK]; exact SlotUnit.withBar_lines ..
    locks := by rw [slotK]; exact SlotUnit.withBar_locks ..
    range := by rw [slotK]
    unmeasured := by rw [bars]; rfl
    other := fun j hj => by rw [State.slot_stored_other _ _ hj]; exact .refl _ }

theorem State.stored_ranging (s : State) (k : Slot) (r : SlotRecord) : (s.stored k r).ranging = s.ranging := by
  rw [State.stored_eq]
  exact (State.barred_changeBar ..).ranging

/-! ## The stages of the configuration (R5) -/

theorem State.turned_queueRange (s : State) (b : Bool) (k : Slot) {c : RangeCause} (hc : c ≠ .lift) :
    s.Turned (s.queueRange b k c) := (s.reranged_queueRange b k hc).turned

/-- The bars of the pit lines at configuration (R5). -/
theorem State.Serviced.configureBars (h : s.Serviced k r t) : s.Serviced k r (t.configureBars k) := by
  have out : s.Serviced k r (if (t.slot k).accepted .platform then t else t.changeBar k .out true) := by
    split
    · exact h
    · exact h.changeBar (by decide) true
  unfold State.configureBars
  dsimp only
  split
  · exact (out.modTrack _).changeBar (by decide) true
  · exact out

/-- OUT and FLOOD stand as the accepted levels say (R5). -/
theorem State.configureBars_bars (hc : (s.slot k).configured = true) (hf : (s.slot k).bars.flood = false) :
    (((s.configureBars k).slot k).bars.flood = (s.slot k).accepted .water)
      ∧ ((s.slot k).accepted .platform = false → ((s.configureBars k).slot k).bars.out = true) := by
  have out : ∃ t : State, (if (s.slot k).accepted .platform then s else s.changeBar k .out true) = t
      ∧ (t.slot k).configured = true ∧ (t.slot k).bars.has .flood = false
      ∧ ((s.slot k).accepted .platform = false → (t.slot k).bars.has .out = true) := by
    refine ⟨_, rfl, ?_⟩
    split
    · next hp => exact ⟨hc, hf, fun h => by rw [hp] at h; cases h⟩
    · rw [State.slot_changeBar_same]
      refine ⟨hc ▸ SlotUnit.withBar_configured .., (SlotUnit.withBar_has_other _ _ _ (by decide)).trans hf, fun _ => ?_⟩
      rw [SlotUnit.withBar_bars _ _ _ hc, BarSet.has_put_same]
  obtain ⟨t, e, configured, flood, out⟩ := out
  unfold State.configureBars
  dsimp only
  rw [e]
  cases hw : (s.slot k).accepted .water with
  | false =>
    rw [if_neg (by simp)]
    exact ⟨flood, out⟩
  | true =>
    rw [if_pos rfl, State.slot_changeBar_same]
    have tracked : (t.modTrack k fun x => { x with floodSince := s.now }).slot k
        = { t.slot k with track := { (t.slot k).track with floodSince := s.now } } := State.slot_modSlot_same ..
    rw [tracked]
    refine ⟨?_, fun h => (SlotUnit.withBar_has_other (c := .out) .flood true _ (by decide)).trans (out h)⟩
    exact (congrArg BarSet.flood (SlotUnit.withBar_bars .flood true _ (by exact configured))).trans rfl

theorem State.configureBars_ranging (s : State) (k : Slot) : (s.configureBars k).ranging = s.ranging := by
  have out : (if (s.slot k).accepted .platform then s else s.changeBar k .out true).ranging = s.ranging := by
    split
    · rfl
    · exact (State.barred_changeBar ..).ranging
  unfold State.configureBars
  dsimp only
  split
  · exact (State.barred_changeBar ..).ranging.trans out
  · exact out

/-- Where no one waits, an entry is removed and nothing else (R7, R28). -/
theorem State.turned_removeEntry (hn : s.custodyOn k = .none) (ho : (s.slot k).range.waitOffice = false)
    (hs : (s.slot k).range.waitService = false) (o : RangeOutcome) : s.Turned (s.removeEntry k o) := by
  rw [State.removeEntry_eq hn]
  split
  · rw [State.answerWaiters_none]
    · exact (State.reranged_modRanging ..).turned
    · exact ho
    · exact hs
  · exact .refl s

/-- The alerts of the configuration; under FLOOD the request just queued is removed again (R5, R28). -/
theorem State.turned_configureAlerts (hn : s.custodyOn k = .none) (ho : (s.slot k).range.waitOffice = false)
    (hs : (s.slot k).range.waitService = false) : s.Turned (s.configureAlerts k) := by
  have out : ∃ t : State, (if (s.slot k).accepted .platform then s else s.alert (.outUnexpected k (s.custodyOn k))) = t
      ∧ s.Relogged t := by
    refine ⟨_, rfl, ?_⟩
    split
    · exact .refl s
    · exact s.relogged_alert _
  obtain ⟨t, e, out⟩ := out
  have flood := out.trans (t.relogged_alert (.floodOn k))
  have range := (flood.slot k).range
  unfold State.configureAlerts
  dsimp only
  rw [e]
  split
  · exact flood.reranged.turned.trans (State.turned_removeEntry ((flood.custodyOn k).trans hn) (by rw [range]; exact ho)
      (by rw [range]; exact hs) _)
  · exact out.reranged.turned

theorem State.configureAlerts_ranging (hw : (s.slot k).accepted .water = false) : (s.configureAlerts k).ranging = s.ranging := by
  unfold State.configureAlerts
  dsimp only
  rw [if_neg (by simp [hw])]
  split
  · rfl
  · exact (State.relogged_alert ..).ranging

theorem State.Serviced.configureDrum (h : s.Serviced k r t) : s.Serviced k r (t.configureDrum k) := by
  unfold State.configureDrum
  split
  · exact h.modTrack _
  · exact h.modTrack _

/-- The drum is at home as its accepted level says (R22). -/
theorem State.configureDrum_drumHome (s : State) (k : Slot) :
    ((s.configureDrum k).slot k).drumHome = (s.slot k).accepted .drumHome := by
  unfold State.configureDrum State.startTurn State.modTrack
  cases h : (s.slot k).accepted .drumHome with
  | true => rw [if_pos rfl, State.slot_modSlot_same]; rfl
  | false =>
    rw [if_neg (by simp), State.slot_modSlot_same]
    cases (s.slot k).accepted .drumOpen <;> rfl

/-- With an empty estimate FULL is cleared and no demand arises (R51, R53). -/
theorem State.evaluateThresholds_empty (hr : (s.slot k).record.inRange) (hf : (s.slot k).fill.f = 0) :
    s.evaluateThresholds false k = s.changeBar k .full false := by
  obtain ⟨-, -, -, -, -, -, -, tFull, tReopen, tDem⟩ := hr
  have full : s.evaluateFull false k = s.changeBar k .full false := by
    unfold State.evaluateFull
    dsimp only
    rw [hf, if_neg (by omega), if_pos (by omega)]
  have record : ((s.changeBar k .full false).slot k).record = (s.slot k).record := by
    rw [State.slot_changeBar_same, SlotUnit.withBar_record]
  have fill : ((s.changeBar k .full false).slot k).fill = (s.slot k).fill := by
    rw [State.slot_changeBar_same, SlotUnit.withBar_fill]
  have newly : (!(s.slot k).bars.full && ((s.changeBar k .full false).slot k).bars.full) = false := by
    rw [State.slot_changeBar_same]
    unfold SlotUnit.withBar
    split
    · simp [BarSet.put]
    · cases (s.slot k).bars.full <;> rfl
  unfold State.evaluateThresholds
  dsimp only
  rw [full, newly]
  unfold State.evaluateDemand
  dsimp only
  rw [record, fill, hf, if_neg (by omega)]
  split <;> rfl

/-- The state in which the record, its request, its bars and its drum stand, before the LOG bar is evaluated (R5). -/
def State.fitted (k : Slot) (r : SlotRecord) (s : State) : State :=
  ((((s.stored k r).queueRange false k .office).configureBars k).configureAlerts k).configureDrum k

theorem State.configureSlot_eq (s : State) (k : Slot) (r : SlotRecord) : s.configureSlot k r =
    ((((s.fitted k r).evaluateLog).evaluateThresholds false k).joinRotation k).chooseBurst := rfl

/-- What has come about where the pit lines have been taken in, and what stands (R5). -/
structure State.Fitted (s : State) (k : Slot) (r : SlotRecord) (t : State) : Prop extends State.Serviced s k r t where
  flood : (t.slot k).bars.flood = (s.slot k).accepted .water
  out : (s.slot k).accepted .platform = false → (t.slot k).bars.out = true
  drumHome : (t.slot k).drumHome = (s.slot k).accepted .drumHome
  asked : (s.slot k).accepted .water = false → t.firstAsked k .office

theorem SlotUnit.accepted_congr {u v : SlotUnit} (h : v.lines = u.lines) (l : Line) : v.accepted l = u.accepted l := by
  unfold SlotUnit.accepted; rw [h]

theorem State.Serviced.custodyOn (h : s.Serviced k r t) (j : Slot) : t.custodyOn j = s.custodyOn j := by
  unfold State.custodyOn; rw [h.lift]

theorem State.configureDrum_bars (s : State) (k : Slot) : ((s.configureDrum k).slot k).bars = (s.slot k).bars := by
  unfold State.configureDrum State.startTurn State.modTrack
  split <;> rw [State.slot_modSlot_same]

theorem State.configureDrum_ranging (s : State) (k : Slot) : (s.configureDrum k).ranging = s.ranging := by
  unfold State.configureDrum; split <;> rfl

/-- The pit lines are taken in: OUT, FLOOD, their alerts, the drum (R5, R22). -/
theorem State.Serviced.fits (h : s.Serviced k r t) (hn : s.custodyOn k = .none) (hf : (t.slot k).bars.flood = false)
    (ha : t.firstAsked k .office) : s.Fitted k r (((t.configureBars k).configureAlerts k).configureDrum k) := by
  have bars := h.configureBars
  have quiet : (t.configureBars k).Turned ((t.configureBars k).configureAlerts k) :=
    State.turned_configureAlerts ((bars.custodyOn k).trans hn) (by rw [bars.range]) (by rw [bars.range])
  have alerted := bars.turned quiet
  obtain ⟨flood, out⟩ := State.configureBars_bars h.configured hf
  rw [SlotUnit.accepted_congr h.lines] at flood out
  exact { alerted.configureDrum with
    flood := by rw [State.configureDrum_bars]; exact ((quiet.slot k).has .flood (by decide)).trans flood
    out := fun hp => by rw [State.configureDrum_bars]; exact ((quiet.slot k).has .out (by decide)).trans (out hp)
    drumHome := by rw [State.configureDrum_drumHome, SlotUnit.accepted_congr alerted.lines]
    asked := fun hw => by
      have dry : ((t.configureBars k).slot k).accepted .water = false := (SlotUnit.accepted_congr bars.lines _).trans hw
      refine ha.congr ?_
      rw [State.configureDrum_ranging, State.configureAlerts_ranging dry, State.configureBars_ranging] }

theorem State.fitted_fitted (hn : s.custodyOn k = .none) (hf : (s.slot k).bars.flood = false) :
    s.Fitted k r (s.fitted k r) := by
  have dry : ((s.stored k r).slot k).bars.flood = false := by rw [State.stored_bars]; exact hf
  have stored := (s.serviced_stored k r).turned ((s.stored k r).turned_queueRange false k (c := .office) (by decide))
  refine stored.fits hn ?_ (State.firstAsked_queueRange false (by decide) (s.serviced_stored k r).configured dry)
  rw [State.slot_congr (State.queueRange_slots _ _ _ (by decide))]
  exact dry

/-- An append, a turn of the bus and a burst that starts keep what has come about. -/
theorem State.Fitted.turned (h : s.Fitted k r t) (h' : t.Turned u) (ha : t.firstAsked k .office → u.firstAsked k .office) :
    s.Fitted k r u :=
  { h.toServiced.turned h' with
    flood := ((h'.slot k).has .flood (by decide)).trans h.flood
    out := fun hp => ((h'.slot k).has .out (by decide)).trans (h.out hp)
    drumHome := by unfold SlotUnit.drumHome; rw [(h'.slot k).track]; exact h.drumHome
    asked := fun hw => ha (h.asked hw) }

/-- So does the clearing of FULL. -/
theorem State.Fitted.clearFull (h : s.Fitted k r t) : s.Fitted k r (t.changeBar k .full false) :=
  { h.toServiced.changeBar (b := .full) (by decide) false with
    flood := by
      rw [State.slot_changeBar_same]
      exact (SlotUnit.withBar_has_other (c := .flood) .full false _ (by decide)).trans h.flood
    out := fun hp => by
      rw [State.slot_changeBar_same]
      exact (SlotUnit.withBar_has_other (c := .out) .full false _ (by decide)).trans (h.out hp)
    drumHome := by rw [State.slot_changeBar_same]; unfold SlotUnit.drumHome; rw [SlotUnit.withBar_track]; exact h.drumHome
    asked := fun hw => (h.asked hw).congr (State.barred_changeBar ..).ranging }

/-- A slot that has been taken into service (R5). -/
theorem State.fitted_configureSlot (hr : r.inRange) (hn : s.custodyOn k = .none) (hf : (s.slot k).bars.flood = false) :
    s.Fitted k r (s.configureSlot k r) := by
  have logged := (State.fitted_fitted (r := r) hn hf).turned (State.relogged_evaluateLog _).reranged.turned
    fun ha => ha.congr (State.relogged_evaluateLog _).ranging
  have thresholds : (s.fitted k r).evaluateLog.evaluateThresholds false k = (s.fitted k r).evaluateLog.changeBar k .full false :=
    State.evaluateThresholds_empty (by rw [logged.record]; exact hr) (by rw [logged.fill])
  have joined := logged.clearFull.turned (State.turned_joinRotation _ k) fun ha => ha.congr (State.joinRotation_ranging ..)
  rw [State.configureSlot_eq, thresholds]
  exact joined.turned (State.reranged_chooseBurst _).turned fun ha => ha.chooseBurst

theorem State.noticed_configureSlot (s : State) (k : Slot) (r : SlotRecord) : s.Noticed (s.configureSlot k r) := by
  have start : s.Noticed (s.modSlot k fun u =>
      { u with configured := true, record := r, fill := {}, track := {}, range := { lastBurst := s.now } }) :=
    (State.Noticed.refl s).congr rfl rfl
  have stored : (Kept.noticed s).holds (s.stored k r) := Kept.setDue _ (Kept.changeBar _ _ _ (Kept.recompute _ start.holds))
  have fitted : (Kept.noticed s).holds (s.fitted k r) :=
    Kept.configureDrum _ (Kept.configureAlerts _ (Kept.configureBars _ (Kept.queueRange _ _ _ stored)))
  have thresholds : (Kept.noticed s).holds ((s.fitted k r).evaluateLog.evaluateThresholds false k) :=
    Kept.evaluateThresholds _ _ (Kept.evaluateLog fitted)
  rw [State.configureSlot_eq]
  exact Kept.chooseBurst (Kept.joinRotation _ thresholds)

theorem State.Serviced.frame (h : s.Serviced k r t) : t = { s with
    ports := t.ports, slots := t.slots, readerBus := t.readerBus, ranging := t.ranging, log := t.log, probe := t.probe
    freeIndex := t.freeIndex } := by
  obtain ⟨⟨_, _, _, _, _, _, _, _, _, _, _, _, _⟩, _, _, -, -, -, -, -, -, -⟩ := h
  cases s
  cases t
  simp_all

/-- The answer of the request leaves what the request left. -/
theorem State.answer_serviced {x : Taken} {st : Status} {pl : List Byte} (h : u = { s with
      ports := u.ports, slots := u.slots, readerBus := u.readerBus, ranging := u.ranging, log := u.log, probe := u.probe
      freeIndex := u.freeIndex }) : u.answer x st pl = { s with
        ports := (u.answer x st pl).ports, slots := (u.answer x st pl).slots, readerBus := (u.answer x st pl).readerBus
        ranging := (u.answer x st pl).ranging, log := (u.answer x st pl).log, probe := (u.answer x st pl).probe
        freeIndex := (u.answer x st pl).freeIndex } :=
  congrArg (fun w : State => { w with ports := (u.answer x st pl).ports }) h

end

/-- Settles O21. -/
theorem slotConfigTakesASlotIntoService : Obligations.SlotConfigTakesASlotIntoService := by
  refine ⟨fun r x hx => ?_, FilterCode.ofMs_nearest, fun r a b c d hf ha hb hc hd => slotRecordAt_fields hf ha hb hc hd,
    fun s k r tag hf ho hk hi hc hd => ?_⟩
  · subst hx
    exact ⟨SlotRecord.clamped_of_inRange, r.clamped_eq⟩
  have popped := s.popRequest_of_ne_crew (p := .office) (by decide) (frameOf 0x04 tag (encSlot k ++ encSlotRecord r))
  have slots := s.slot_popRequest .office (frameOf 0x04 tag (encSlot k ++ encSlotRecord r))
  have fitted := State.fitted_configureSlot (s := s.popRequest .office (frameOf 0x04 tag (encSlot k ++ encSlotRecord r)))
    (k := k) r.inRange_clamped (by simpa using hc) (by rw [slots]; exact hd)
  rw [exec_slotConfig_stores hf ho ((s.slotBusy_eq_false_iff k).mpr ⟨hi, hc⟩), hk, if_neg (by simp)]
  have noticed := (s.popRequest .office (frameOf 0x04 tag (encSlot k ++ encSlotRecord r))).noticed_configureSlot k r.clamped
  generalize (s.popRequest .office (frameOf 0x04 tag (encSlot k ++ encSlotRecord r))).configureSlot k r.clamped = u
    at fitted noticed
  refine ⟨_, rfl, State.answeredLast_of_noticed _ _ noticed, fitted.configured, fitted.record, r.inRange_clamped, fitted.fill,
    fitted.unmeasured, fun hp => ?_, ?_, ?_, ?_, fun hw => ?_, ?_, ?_, fun j hj => ?_, ?_⟩
  · exact fitted.out (by rw [slots]; exact hp)
  · exact fitted.flood.trans (by rw [slots])
  · exact fitted.drumHome.trans (by rw [slots])
  · exact (congrArg RangeSlot.due fitted.range).trans (by rw [popped]; rfl)
  · exact (fitted.asked (by rw [slots]; exact hw)).rangingAsked
  · exact fitted.lines.trans (by rw [slots])
  · exact fitted.locks.trans (by rw [slots])
  · exact (fitted.other j hj).frame.trans (by rw [slots]; rfl)
  · exact State.answer_serviced (fitted.frame.trans (by rw [popped]))

end Sys2Proof.Machine
end

section
/-! SUPPORT. The Demand Queue: its order, the place of an entry, and what an announcement leaves (R128 to R131, R134). -/

namespace Sys2Proof.Machine

/-! ## The urgency order (R129) -/

/-- The raise time of an entry as the order looks at it: an entry without one stands behind (R129). -/
def DemandEntry.since (x : DemandEntry) : Nat := (x.raised.map BitVec.toNat).getD 4294967296

section
variable {x y z e : DemandEntry} {q : List DemandEntry} {k j : Slot}

/-- The order is by HF, then by the raise time, then by the slot number (R129). -/
theorem DemandEntry.before_iff : x.before y = true ↔
    x.hf < y.hf ∨ x.hf = y.hf ∧ (x.since < y.since ∨ x.since = y.since ∧ x.slot.val < y.slot.val) := by
  unfold DemandEntry.before DemandEntry.since
  by_cases hf : x.hf = y.hf
  · rw [if_neg (not_not.mpr hf)]
    cases hx : x.raised with
    | none =>
      cases hy : y.raised with
      | none => simp [hf]
      | some b =>
        have small := b.isLt
        simp [hf]
        omega
    | some a =>
      have small := a.isLt
      cases hy : y.raised with
      | none => simp [hf]; omega
      | some b =>
        by_cases hab : a = b
        · simp [hf, hab]
        · have differ : a.toNat ≠ b.toNat := fun h => hab (BitVec.eq_of_toNat_eq h)
          simp [hf, hab]
          omega
  · rw [if_pos hf]
    simp
    omega

theorem DemandEntry.before_trans (h : x.before y = true) (h' : y.before z = true) : x.before z = true := by
  rw [DemandEntry.before_iff] at *; omega

theorem DemandEntry.not_before_of_before (h : x.before y = true) : y.before x = false := by
  rw [Bool.eq_false_iff]
  intro h'
  rw [DemandEntry.before_iff] at h h'
  omega

theorem DemandEntry.before_of_not_before (hs : x.slot ≠ y.slot) (h : x.before y = false) : y.before x = true := by
  rw [Bool.eq_false_iff, Ne, DemandEntry.before_iff] at h
  rw [DemandEntry.before_iff]
  have : x.slot.val ≠ y.slot.val := fun h => hs (Fin.ext h)
  omega

/-! ## An entry takes its place (R129) -/

theorem find?_demandInsert_other (h : e.slot ≠ k) (q : List DemandEntry) :
    (demandInsert e q).find? (fun x => x.slot == k) = q.find? fun x => x.slot == k := by
  induction q with
  | nil => simp [demandInsert, h]
  | cons x q ih =>
    unfold demandInsert
    split
    · rw [List.find?_cons_of_neg (by simpa using h)]
    · simp only [List.find?_cons, ih]

theorem find?_demandInsert_same (h : q.find? (fun x => x.slot == e.slot) = none) :
    (demandInsert e q).find? (fun x => x.slot == e.slot) = some e := by
  induction q with
  | nil => simp [demandInsert]
  | cons x q ih =>
    rw [List.find?_cons] at h
    unfold demandInsert
    split
    · simp
    · split at h
      · cases h
      · next hx => rw [List.find?_cons, hx]; exact ih h

theorem find?_demandRemove_same (k : Slot) (q : List DemandEntry) :
    (demandRemove k q).find? (fun x => x.slot == k) = none := by simp [demandRemove]

theorem find?_demandRemove_other (h : j ≠ k) (q : List DemandEntry) :
    (demandRemove k q).find? (fun x => x.slot == j) = q.find? fun x => x.slot == j := by
  unfold demandRemove
  rw [List.find?_filter]
  congr 1
  funext e
  by_cases he : e.slot = j
  · simp [he, h]
  · simp [he]

theorem length_demandInsert (e : DemandEntry) (q : List DemandEntry) : (demandInsert e q).length = q.length + 1 := by
  induction q with
  | nil => rfl
  | cons x q ih =>
    unfold demandInsert
    split
    · rfl
    · rw [List.length_cons, ih, List.length_cons]

/-- In an ordered queue an entry stands behind the entries that are ahead of it by urgency (R129). -/
theorem findIdx_demandInsert (hn : q.find? (fun x => x.slot == e.slot) = none)
    (ho : q.Pairwise fun x y => x.before y = true) :
    (demandInsert e q).findIdx (fun x => x.slot == e.slot) = (q.filter fun x => x.before e).length := by
  induction q with
  | nil => simp [demandInsert]
  | cons x q ih =>
    rw [List.find?_cons] at hn
    split at hn
    · cases hn
    next hx =>
    have slot : e.slot ≠ x.slot := fun h => by simp [h] at hx
    rw [List.pairwise_cons] at ho
    unfold demandInsert
    cases hb : e.before x with
    | true =>
      have none_ahead : (x :: q).filter (fun y => y.before e) = [] := by
        rw [List.filter_eq_nil_iff]
        intro y hy
        rw [List.mem_cons] at hy
        have behind : e.before y = true := by
          obtain rfl | hy := hy
          · exact hb
          · exact DemandEntry.before_trans hb (ho.1 y hy)
        simp [DemandEntry.not_before_of_before behind]
      rw [if_pos rfl, none_ahead]
      simp [List.findIdx_cons]
    | false =>
      have ahead := DemandEntry.before_of_not_before slot hb
      rw [if_neg (by simp), List.findIdx_cons, hx, List.filter_cons_of_pos (p := fun y : DemandEntry => y.before e) ahead,
        cond_false, ih hn ho.2, List.length_cons]

/-- A change of the entry of a slot leaves where it stands. -/
theorem findIdx_modDemand (f : DemandEntry → DemandEntry) (hf : ∀ e, (f e).slot = e.slot) (q : List DemandEntry) :
    (q.map fun e => if e.slot == k then f e else e).findIdx (fun e => e.slot == k) = q.findIdx fun e => e.slot == k := by
  induction q with
  | nil => rfl
  | cons x q ih =>
    rw [List.map_cons, List.findIdx_cons, List.findIdx_cons, ih]
    cases hx : x.slot == k <;> simp [hx, hf]

theorem find?_modDemand (f : DemandEntry → DemandEntry) (hf : ∀ e, (f e).slot = e.slot) (q : List DemandEntry) :
    (q.map fun e => if e.slot == k then f e else e).find? (fun e => e.slot == j)
      = (q.find? fun e => e.slot == j).map fun e => if j = k then f e else e := by
  induction q with
  | nil => rfl
  | cons x q ih =>
    rw [List.map_cons, List.find?_cons, List.find?_cons, ih]
    by_cases hk : x.slot = k
    · by_cases hj : k = j
      · subst hj; simp [hk, hf]
      · have differ : (k == j) = false := beq_eq_false_iff_ne.mpr hj
        simp only [hk, beq_self_eq_true, ↓reduceIte, hf, differ]
    · by_cases hj : x.slot = j
      · subst hj; simp [hk]
      · have differ : (x.slot == j) = false := beq_eq_false_iff_ne.mpr hj
        have kept : (x.slot == k) = false := beq_eq_false_iff_ne.mpr hk
        simp only [kept, Bool.false_eq_true, ↓reduceIte, differ]

end

end Sys2Proof.Machine
end

section
/-! SUPPORT. How demand follows FULL, the thresholds and the hours-to-full (R53, R55, R130, R131, R134). -/

namespace Sys2Proof.Machine

section
variable {s a d t : State} {k j : Slot} {e : DemandEntry} {n : RaiseKind}

/-! ## An announcement (R134) -/

theorem State.announceDemand_eq (he : s.demandOf k = some e) : s.announceDemand k n =
    { s.post .office .demandRaised (raisedPayload s e n) with
      demand := if s.noticePlaced .office then
        s.demand.map fun x => if x.slot == k then { x with announced := true } else x else s.demand } := by
  unfold State.announceDemand
  rw [he]
  dsimp only
  split
  · simp [State.modDemand]
  · rw [← State.post_demand s .office .demandRaised (raisedPayload s e n)]

theorem State.announceDemand_slots (s : State) (k : Slot) (n : RaiseKind) : (s.announceDemand k n).slots = s.slots := by
  cases he : s.demandOf k with
  | none => unfold State.announceDemand; rw [he]
  | some e => rw [State.announceDemand_eq he]; exact State.post_slots ..

/-- The entry that is announced takes its flag where the notice is placed; the other slots' entries stay (R134). -/
theorem State.announceDemand_demandOf (he : s.demandOf k = some e) (hn : e.announced = false) (j : Slot) :
    (s.announceDemand k n).demandOf j
      = if j = k then some { e with announced := s.noticePlaced .office } else s.demandOf j := by
  have queue : (s.announceDemand k n).demand = if s.noticePlaced .office then
      s.demand.map fun x => if x.slot == k then { x with announced := true } else x else s.demand := by
    rw [State.announceDemand_eq he]
  unfold State.demandOf at he ⊢
  rw [queue]
  cases hp : s.noticePlaced .office with
  | true =>
    rw [if_pos rfl, find?_modDemand (fun x => { x with announced := true }) fun _ => rfl]
    split
    · next h => subst h; rw [he]; rfl
    · exact Option.map_id'
  | false =>
    rw [if_neg (by simp)]
    split
    · next h => subst h; rw [he, ← hn]
    · rfl

/-- A DEMAND_RAISED that was posted on the way has been announced, and its flag tells whether it was placed (R134, R180). -/
theorem State.demandAnnounced_of_post {pl : List Byte} (hr : a.run = s.run)
    (h : (s.port .office).outbox <+: (a.port .office).outbox)
    (h' : ((a.post .office .demandRaised pl).port .office).outbox <+: (t.port .office).outbox) :
    s.demandAnnounced t pl (a.noticePlaced .office) := by
  intro running
  refine ⟨State.posted_of_notify (hr.trans running) h h', fun room => ?_⟩
  have grew := ((State.noticed_notify a .office NoticeKind.demandRaised.code pl).port .office).outboxPrefix.trans h'
  have before : (a.port .office).notices.length ≤ (t.port .office).notices.length := (grew.filter _).length_le
  have placed : (a.port .office).noticeRoom = true := decide_eq_true (by omega)
  unfold State.noticePlaced
  rw [hr, running, placed]
  rfl

theorem State.demandAnnounced_of_announceDemand (he : a.demandOf k = some e) (hr : a.run = s.run)
    (h : (s.port .office).outbox <+: (a.port .office).outbox)
    (h' : ((a.announceDemand k n).port .office).outbox <+: (t.port .office).outbox) :
    s.demandAnnounced t (raisedPayload a e n) (a.noticePlaced .office) := by
  refine State.demandAnnounced_of_post hr h ?_
  rw [State.announceDemand_eq he] at h'
  exact h'

/-! ## The hours-to-full (R55) -/

theorem State.demandOf_slot (h : s.demandOf k = some e) : e.slot = k := by simpa using List.find?_some h

/-- The entry of the slot takes the new HF (R55, R129). -/
theorem State.demandHf_demandOf (s : State) (k j : Slot) (hf : Nat) : (s.demandHf k hf).demandOf j
    = if j = k then (s.demandOf k).map fun e => { e with hf := hf } else s.demandOf j := by
  unfold State.demandHf
  cases he : s.demandOf k with
  | none =>
    dsimp only
    split
    · next h => rw [h, he]; rfl
    · rfl
  | some e =>
    have slot := State.demandOf_slot he
    dsimp only
    unfold State.demandOf
    dsimp only
    split
    · next h =>
      subst h slot
      exact find?_demandInsert_same (e := { e with hf := hf }) (find?_demandRemove_same ..)
    · next h =>
      rw [find?_demandInsert_other (by rw [slot]; exact fun h' => h h'.symm), find?_demandRemove_other h]

/-- The hours-to-full of a slot by its headroom and its rate (R55). -/
def SlotUnit.hours (u : SlotUnit) : Nat := hoursToFull u.fill.h u.fill.fr

theorem State.demandHf_frame (s : State) (k : Slot) (hf : Nat) :
    s.demandHf k hf = { s with demand := (s.demandHf k hf).demand } := by
  unfold State.demandHf; split <;> rfl

theorem State.recomputeHours_frame (s : State) (k : Slot) : s.recomputeHours k =
    { s.modFill k fun x => { x with hf := (s.slot k).hours } with demand := (s.recomputeHours k).demand } := by
  unfold State.recomputeHours
  dsimp only
  split
  · next h =>
    have same : (s.modFill k fun x => { x with hf := (s.slot k).hours }) = s := State.modSlot_eq_self (by
      dsimp only
      rw [show (s.slot k).hours = (s.slot k).fill.hf from h])
    rw [same]
  · exact State.demandHf_frame ..

theorem State.recomputeHours_slots (s : State) (k : Slot) :
    (s.recomputeHours k).slots = (s.modFill k fun x => { x with hf := (s.slot k).hours }).slots :=
  (congrArg State.slots (s.recomputeHours_frame k) :)

theorem State.recomputeHours_demandOf (s : State) (k j : Slot) : (s.recomputeHours k).demandOf j
    = if j = k then (s.demandOf k).map fun e =>
        { e with hf := if (s.slot k).hours = (s.slot k).fill.hf then e.hf else (s.slot k).hours }
      else s.demandOf j := by
  unfold State.recomputeHours SlotUnit.hours
  dsimp only
  split
  · split
    · next h => rw [h]; exact Option.map_id'.symm
    · rfl
  · exact State.demandHf_demandOf ..

theorem State.slot_recomputeHours (s : State) (k : Slot) : (s.recomputeHours k).slot k
    = { s.slot k with fill := { (s.slot k).fill with hf := (s.slot k).hours } } := by
  rw [State.slot_congr (s.recomputeHours_slots k)]
  exact State.slot_modSlot_same ..

/-! ## Demand by the thresholds (R53, R130) -/

/-- The entry that a slot is given by the thresholds: nothing has announced it (R53, R130). -/
def State.newEntry (s : State) (k : Slot) : DemandEntry :=
  ⟨k, demandCauseOf (s.slot k).bars, s.stamp, (s.slot k).fill.hf, false⟩

/-- The slot has its new entry, which is not announced yet (R130). -/
def State.entered (s : State) (k : Slot) : State := { s with demand := demandInsert (s.newEntry k) s.demand }

/-- A slot without an entry is given one, which is announced (R130, R134). -/
theorem State.raiseDemand_eq (he : s.demandOf k = none) (c : DemandCause) (hf : Nat) : s.raiseDemand k c hf
    = ({ s with demand := demandInsert ⟨k, c, s.stamp, hf, false⟩ s.demand }).announceDemand k .new := by
  unfold State.raiseDemand; rw [he]; rfl

theorem State.evaluateDemand_slots (s : State) (b : Bool) (k : Slot) : (s.evaluateDemand b k).slots = s.slots := by
  unfold State.evaluateDemand
  dsimp only
  split
  · next h =>
    split
    · rw [State.raiseDemand_eq h]; exact State.announceDemand_slots ..
    · rfl
  · split
    · exact State.announceDemand_slots ..
    · rfl

theorem State.announceDemand_frame (s : State) (k : Slot) (n : RaiseKind) : s.announceDemand k n =
    { s with ports := (s.announceDemand k n).ports, demand := (s.announceDemand k n).demand } := by
  cases he : s.demandOf k with
  | none => unfold State.announceDemand; rw [he]
  | some e =>
    rw [State.announceDemand_eq he]
    exact congrArg (fun u : State => { u with demand := if s.noticePlaced .office then s.demand.map fun x : DemandEntry =>
      if x.slot == k then { x with announced := true } else x else s.demand })
      (s.post_frame .office .demandRaised (raisedPayload s e n))

theorem State.evaluateDemand_raises (h : s.demandOf k = none) (hf : (s.slot k).record.tDem ≤ (s.slot k).fill.f) (b : Bool) :
    s.evaluateDemand b k = (s.entered k).announceDemand k .new := by
  unfold State.evaluateDemand
  rw [h]
  dsimp only
  rw [if_pos hf, State.raiseDemand_eq h]
  rfl

theorem State.demandOf_entered (h : s.demandOf k = none) (j : Slot) :
    (s.entered k).demandOf j = if j = k then some (s.newEntry k) else s.demandOf j := by
  split
  · next hj => rw [hj]; exact find?_demandInsert_same (e := s.newEntry k) h
  · next hj => exact find?_demandInsert_other (e := s.newEntry k) (fun h' => hj h'.symm) _

/-- The new entry stands behind the entries that are ahead of it by urgency (R129). -/
theorem State.demandPosition_entered (h : s.demandOf k = none) (ho : s.demand.Pairwise fun x y => x.before y = true) :
    (s.entered k).demandPosition k = (s.demand.filter fun x : DemandEntry => x.before (s.newEntry k)).length + 1 :=
  congrArg (· + 1) (findIdx_demandInsert (e := s.newEntry k) h ho)

theorem State.raisedPayload_entered (h : s.demandOf k = none) (ho : s.demand.Pairwise fun x y => x.before y = true) :
    raisedPayload (s.entered k) (s.newEntry k) .new
      = encSlot k ++ u8 0 ++ u8 (demandCauseOf (s.slot k).bars).code ++ encTime s.stamp ++ u8 (s.slot k).fill.hf
        ++ u16 (s.slot k).fill.f ++ u8 ((s.demand.filter fun x : DemandEntry => x.before (s.newEntry k)).length + 1)
        ++ u8 (s.demand.length + 1) := by
  rw [← State.demandPosition_entered h ho, ← length_demandInsert (s.newEntry k)]
  rfl

/-- Promoted to FULL and not announced yet (R130). -/
def State.promoted (s : State) (k : Slot) : State :=
  s.modDemand k fun x : DemandEntry => { x with cause := .full, announced := false }

theorem State.demandOf_promoted (s : State) (k j : Slot) : (s.promoted k).demandOf j
    = (s.demandOf j).map fun e => if j = k then { e with cause := .full, announced := false } else e :=
  find?_modDemand (fun x : DemandEntry => { x with cause := .full, announced := false }) (fun _ => rfl) s.demand

theorem State.demandOf_promoted_same (h : s.demandOf k = some e) :
    (s.promoted k).demandOf k = some { e with cause := .full, announced := false } := by
  rw [State.demandOf_promoted, h]; simp

theorem State.raisedPayload_promoted (h : e.slot = k) :
    raisedPayload (s.promoted k) { e with cause := .full, announced := false } .cause
      = encSlot k ++ u8 1 ++ u8 1 ++ encTime e.raised ++ u8 e.hf ++ u16 (s.slot k).fill.f
        ++ u8 (s.demand.findIdx (fun x => x.slot == k) + 1) ++ u8 s.demand.length := by
  have place : (s.promoted k).demandPosition k = s.demand.findIdx (fun x => x.slot == k) + 1 :=
    congrArg (· + 1) (findIdx_modDemand (fun x : DemandEntry => { x with cause := .full, announced := false }) (fun _ => rfl)
      s.demand)
  have count : (s.promoted k).demand.length = s.demand.length := List.length_map _
  subst h
  rw [← place, ← count]
  rfl

theorem State.evaluateDemand_promotes (h : s.demandOf k = some e) (hc : e.cause = .threshold) :
    s.evaluateDemand true k = (s.promoted k).announceDemand k .cause := by
  unfold State.evaluateDemand; rw [h]; simp only [hc]; rfl

theorem State.evaluateDemand_keeps {b : Bool} (h : s.demandOf k = none → (s.slot k).fill.f < (s.slot k).record.tDem)
    (h' : ∀ e, s.demandOf k = some e → e.cause ≠ .threshold ∨ b = false) : s.evaluateDemand b k = s := by
  unfold State.evaluateDemand
  cases he : s.demandOf k with
  | none =>
    have low := h he
    dsimp only
    rw [if_neg (by omega)]
  | some e =>
    dsimp only
    rw [if_neg]
    obtain hc | hb := h' e he
    · simp [hc]
    · simp [hb]

/-- What the evaluation of demand does: it raises an entry, promotes one, or leaves the state (R53, R130). -/
theorem State.evaluateDemand_cases (s : State) (b : Bool) (k : Slot) :
    s.demandOf k = none ∧ s.evaluateDemand b k
    = (s.entered k).announceDemand k .new
      ∨ (∃ e, s.demandOf k = some e) ∧ s.evaluateDemand b k = (s.promoted k).announceDemand k .cause
      ∨ s.evaluateDemand b k = s := by
  cases he : s.demandOf k with
  | none =>
    by_cases reached : (s.slot k).record.tDem ≤ (s.slot k).fill.f
    · exact .inl ⟨rfl, State.evaluateDemand_raises he reached b⟩
    · refine .inr (.inr (State.evaluateDemand_keeps (fun _ => by omega) fun e h => ?_))
      rw [he] at h
      cases h
  | some e =>
    by_cases promotes : e.cause = .threshold ∧ b = true
    · obtain ⟨hc, rfl⟩ := promotes
      exact .inr (.inl ⟨⟨e, rfl⟩, State.evaluateDemand_promotes he hc⟩)
    · refine .inr (.inr (State.evaluateDemand_keeps (fun h => ?_) fun e' h => ?_))
      · rw [he] at h; cases h
      · rw [he] at h
        cases h
        rcases not_and_or.mp promotes with hc | hb
        · exact .inl hc
        · exact .inr (Bool.eq_false_iff.mpr hb)

/-- The entries of the other slots stay (R128). -/
theorem State.evaluateDemand_demandOf_other (s : State) (b : Bool) (h : j ≠ k) :
    (s.evaluateDemand b k).demandOf j = s.demandOf j := by
  rcases s.evaluateDemand_cases b k with ⟨he, raises⟩ | ⟨⟨e, he⟩, promotes⟩ | keeps
  · have entered := State.demandOf_entered he
    rw [raises, State.announceDemand_demandOf ((entered k).trans (if_pos rfl)) rfl, if_neg h, entered, if_neg h]
  · rw [promotes, State.announceDemand_demandOf (State.demandOf_promoted_same he) rfl, if_neg h, State.demandOf_promoted]
    simp [h]
  · rw [keeps]

/-- The evaluation of demand changes the port OFFICE and the queue (R130, R134). -/
theorem State.evaluateDemand_frame (s : State) (b : Bool) (k : Slot) : s.evaluateDemand b k =
    { s with ports := (s.evaluateDemand b k).ports, demand := (s.evaluateDemand b k).demand } := by
  unfold State.evaluateDemand
  dsimp only
  split
  · next h =>
    split
    · rw [State.raiseDemand_eq h]; exact State.announceDemand_frame ..
    · rfl
  · split
    · exact State.announceDemand_frame (s.modDemand k _) k .cause
    · rfl

/-- FULL by the thresholds, of a slot without an open session (R51). -/
theorem State.evaluateFull_eq (hi : (s.slot k).intake.state.isOpen = false) :
    s.evaluateFull false k = s.changeBar k .full ((s.slot k).fullAt (s.slot k).fill.f) := by
  unfold State.evaluateFull SlotUnit.fullAt
  dsimp only
  split
  · next h =>
    rw [decide_eq_true h, Bool.true_or]
    exact State.setBar_of_not_opened .full hi
  · next h =>
    rw [decide_eq_false h, Bool.false_or]
    split
    · next h' => rw [decide_eq_false (by omega), Bool.and_false]
    · next h' =>
      rw [decide_eq_true (by omega), Bool.and_true]
      exact (State.changeBar_of_no_change (.inr rfl)).symm

/-- What has gone before a state in which demand is evaluated, and what comes after the hours-to-full have followed. -/
structure State.Evaluated (s a d t : State) (k : Slot) : Prop where
  demand : a.demand = s.demand
  run : a.run = s.run
  before : (s.port .office).outbox <+: (a.port .office).outbox
  hf : (a.slot k).fill.hf = (s.slot k).fill.hf
  evaluated : d = a.evaluateDemand (!(s.slot k).bars.full && (a.slot k).bars.full) k
  after : ((d.recomputeHours k).port .office).outbox <+: (t.port .office).outbox
  queue : t.demand = (d.recomputeHours k).demand
  stamp : t.stamp = a.stamp
  fill : (t.slot k).fill = { (a.slot k).fill with hf := (a.slot k).hours }
  full : (t.slot k).bars.full = (a.slot k).bars.full
  record : (t.slot k).record = (a.slot k).record

/-- The demand queue then is as the evaluation and the hours-to-full make it (R53, R55, R129, R130, R134). -/
theorem State.Evaluated.demandFollows (h : s.Evaluated a d t k) : s.demandFollows t k := by
  have hours : (d.slot k) = a.slot k := by rw [h.evaluated, State.slot_congr (State.evaluateDemand_slots ..)]
  have atEnd (j : Slot) : t.demandOf j = if j = k then (d.demandOf k).map fun e =>
      { e with hf := if (a.slot k).hours = (s.slot k).fill.hf then e.hf else (a.slot k).hours } else d.demandOf j := by
    have followed := d.recomputeHours_demandOf k j
    rw [hours, h.hf] at followed
    unfold State.demandOf at followed ⊢
    rw [h.queue]
    exact followed
  have atStart (j : Slot) : a.demandOf j = s.demandOf j := by unfold State.demandOf; rw [h.demand]
  have ports : (d.recomputeHours k).ports = d.ports := (congrArg State.ports (d.recomputeHours_frame k) :)
  have after : (d.port .office).outbox <+: (t.port .office).outbox := by
    have := h.after
    rwa [State.port_congr ports] at this
  refine ⟨fun j hj => ?others, fun hn hlow => ?below, fun e hn hhigh he => ?raised,
    fun e hf he hhf => ⟨fun hc hb hfull => ?promoted, fun hor => ?kept⟩⟩
  case others =>
    rw [atEnd, if_neg hj, h.evaluated, State.evaluateDemand_demandOf_other _ _ hj, atStart]
  case below =>
    have keeps : d = a := by
      rw [h.evaluated]
      refine State.evaluateDemand_keeps (fun _ => ?_) fun e he => ?_
      · rw [h.fill, h.record] at hlow
        exact hlow
      · rw [atStart, hn] at he; cases he
    rw [atEnd, if_pos rfl, keeps, atStart, hn]
    rfl
  case raised =>
    have fresh : a.demandOf k = none := (atStart k).trans hn
    have entry : a.newEntry k = e := by
      rw [he, h.full, h.stamp, ← h.hf]
      unfold State.newEntry demandCauseOf
      rfl
    have raises := State.evaluateDemand_raises fresh (by rw [h.fill, h.record] at hhigh; exact hhigh)
      (!(s.slot k).bars.full && (a.slot k).bars.full)
    have entered := (State.demandOf_entered fresh k).trans (if_pos rfl)
    rw [← h.evaluated] at raises
    refine ⟨(a.entered k).noticePlaced .office, ?_, fun ordered => ?_⟩
    · rw [atEnd, if_pos rfl, raises, State.announceDemand_demandOf entered rfl, if_pos rfl]
      have followed : (if (a.slot k).hours = (s.slot k).fill.hf then e.hf else (a.slot k).hours) = (a.slot k).hours := by
        have before : e.hf = (s.slot k).fill.hf := by rw [he]
        rw [before]
        split
        · next same => exact same.symm
        · rfl
      rw [Option.map_some, entry, h.fill, followed]
    · have announced := State.demandAnnounced_of_announceDemand (s := s) (t := t) (n := .new) entered h.run h.before
        (by rw [← raises]; exact after)
      rw [State.raisedPayload_entered fresh (by rw [h.demand]; exact ordered.2), entry, h.demand, h.hf] at announced
      rw [h.fill, h.stamp, h.full]
      unfold demandCauseOf at announced
      cases hfull : (a.slot k).bars.full <;> rw [hfull] at announced <;> exact announced
  case promoted =>
    have cause := (atStart k).trans he
    have promotes := State.evaluateDemand_promotes cause hc
    have evaluated := h.evaluated
    rw [hb, ← h.full, hfull, Bool.not_false, Bool.true_and, promotes] at evaluated
    have entered := State.demandOf_promoted_same cause
    refine ⟨(a.promoted k).noticePlaced .office, ?_, ?_⟩
    · rw [atEnd, if_pos rfl, evaluated, State.announceDemand_demandOf entered rfl, if_pos rfl, hhf, h.fill]
      rfl
    · have announced := State.demandAnnounced_of_announceDemand (s := s) (t := t) (n := .cause) entered h.run h.before
        (by rw [← evaluated]; exact after)
      rw [State.raisedPayload_promoted (State.demandOf_slot he), h.demand] at announced
      rw [h.fill]
      exact announced
  case kept =>
    have keeps : d = a := by
      rw [h.evaluated]
      refine State.evaluateDemand_keeps (fun hn => ?_) fun e' he' => ?_
      · rw [atStart, he] at hn; cases hn
      · rw [atStart, he] at he'
        cases he'
        rw [← h.full]
        rcases hor with hc | hb | hf
        · exact .inl hc
        · exact .inr (by rw [hb]; rfl)
        · exact .inr (by rw [hf, Bool.and_false])
    rw [atEnd, if_pos rfl, keeps, atStart, he, hhf, h.fill]
    rfl

end

end Sys2Proof.Machine
end

section
/-! SUPPORT. SLOT_CONFIG of a CONFIGURED slot (O22): the record that stays in its geometry and the one that changes it (R6). -/

namespace Sys2Proof.Machine

section
variable {s t u w : State} {j k : Slot} {r : SlotRecord}

/-! ## A slot under its new record (R6, R40) -/

/-- A slot as a record of the same geometry is stored, F and the headroom following its estimate (R6, R40). -/
def SlotUnit.recomputed (r : SlotRecord) (u : SlotUnit) : SlotUnit :=
  { u with record := r, fill := { u.fill with f := r.fillOf u.fill.e, h := r.headroom u.fill.e } }

/-- A slot as a record of another geometry is stored, which discards the estimate (R6, R40). -/
def SlotUnit.discarded (r : SlotRecord) (u : SlotUnit) : SlotUnit :=
  { u with record := r, fill := { u.fill with e := 0, h := 0, measured := false, silent := 0 } }

/-- What stands of a slot that keeps its geometry: FULL and the intake that follows it may have changed (R6). -/
structure SlotUnit.Regauged (r : SlotRecord) (u v : SlotUnit) : Prop where
  frame : v = { u with
    record := r, bars := v.bars, intake := v.intake, reader := v.reader
    fill := { u.fill with
      f := r.fillOf u.fill.e, h := r.headroom u.fill.e, hf := hoursToFull (r.headroom u.fill.e) u.fill.fr } }
  unmeasured : v.bars.unmeasured = u.bars.unmeasured

/-- What stands of a slot whose geometry has changed (R6). -/
structure SlotUnit.Regeared (r : SlotRecord) (u v : SlotUnit) : Prop where
  frame : v = { u with
    record := r, bars := v.bars, intake := v.intake, reader := v.reader, range := v.range
    fill := { u.fill with e := 0, measured := false, silent := 0, f := 0, h := r.headroom 0, hf := v.fill.hf } }
  unmeasured : v.bars.unmeasured = true

/-- What both leave of the slot, and its record (R6). -/
structure SlotUnit.Refitted (r : SlotRecord) (u v : SlotUnit) : Prop where
  configured : v.configured = u.configured
  record : v.record = r
  lines : v.lines = u.lines
  locks : v.locks = u.locks
  fr : v.fill.fr = u.fill.fr
  a : v.fill.a = u.fill.a

theorem SlotUnit.Regauged.refitted {u v : SlotUnit} (h : u.Regauged r v) : u.Refitted r v := by
  rw [h.frame]; exact ⟨rfl, rfl, rfl, rfl, rfl, rfl⟩

theorem SlotUnit.Regeared.refitted {u v : SlotUnit} (h : u.Regeared r v) : u.Refitted r v := by
  rw [h.frame]; exact ⟨rfl, rfl, rfl, rfl, rfl, rfl⟩

theorem SlotUnit.Regauged.turned {u v x : SlotUnit} (h : u.Regauged r v) (h' : v.Turned x) : u.Regauged r x :=
  ⟨by rw [h'.frame, h.frame], (h'.has .unmeasured (by decide)).trans h.unmeasured⟩

theorem SlotUnit.Regeared.turned {u v x : SlotUnit} (h : u.Regeared r v) (h' : v.Turned x) : u.Regeared r x :=
  ⟨by rw [h'.frame, h.frame], (h'.has .unmeasured (by decide)).trans h.unmeasured⟩

/-! ## The geometry stays (R6, R51, R53, R55) -/

/-- The state in which the record, F and the headroom stand. -/
def State.recomputed (k : Slot) (r : SlotRecord) (s : State) : State := s.modSlot k (SlotUnit.recomputed r)

theorem State.keepGeometry_eq (s : State) (k : Slot) (old r : SlotRecord) :
    (s.modSlot k fun u => { u with record := r }).keepGeometry old k
      = (if old.thresholds = r.thresholds then s.recomputed k r else (s.recomputed k r).evaluateThresholds false k).recomputeHours
        k := by
  have stored : (s.modSlot k fun u => { u with record := r }).recompute k = s.recomputed k r := State.modSlot_modSlot ..
  unfold State.keepGeometry
  rw [State.slot_modSlot_same, stored]

theorem SlotUnit.regauged_withBar (u : SlotUnit) (r : SlotRecord) (b : Bool) :
    u.Regauged r { (u.recomputed r).withBar .full b with
      fill := { (u.recomputed r).fill with hf := (u.recomputed r).hours } } where
  frame := by rw [SlotUnit.withBar_frame]; rfl
  unmeasured := SlotUnit.withBar_has_other (c := .unmeasured) .full b _ (by decide)

theorem SlotUnit.regauged_recomputed (u : SlotUnit) (r : SlotRecord) :
    u.Regauged r { u.recomputed r with fill := { (u.recomputed r).fill with hf := (u.recomputed r).hours } } := ⟨rfl, rfl⟩

/-- FULL, then demand, evaluated of a slot without an open session (R51, R53). -/
theorem State.evaluateThresholds_eq (hi : (s.slot k).intake.state.isOpen = false) : s.evaluateThresholds false k
    = (s.changeBar k .full ((s.slot k).fullAt (s.slot k).fill.f)).evaluateDemand
      (!(s.slot k).bars.full
        && ((s.changeBar k .full ((s.slot k).fullAt (s.slot k).fill.f)).slot k).bars.full) k := by
  unfold State.evaluateThresholds
  rw [State.evaluateFull_eq hi]

theorem State.slot_recomputed (s : State) (k : Slot) (r : SlotRecord) : (s.recomputed k r).slot k = (s.slot k).recomputed r :=
  State.slot_modSlot_same ..

theorem State.slot_evaluateThresholds (hi : (s.slot k).intake.state.isOpen = false) (j : Slot) :
    (s.evaluateThresholds false k).slot j
      = (s.changeBar k .full ((s.slot k).fullAt (s.slot k).fill.f)).slot j := by
  rw [State.evaluateThresholds_eq hi, State.slot_congr (State.evaluateDemand_slots ..)]

theorem State.slot_recomputeHours_other (s : State) (h : j ≠ k) : (s.recomputeHours k).slot j = s.slot j := by
  rw [State.slot_congr (s.recomputeHours_slots k)]
  exact State.slot_modSlot_other _ _ h

/-- What stands where the geometry stays (R6). -/
theorem State.regauged_keepGeometry (hi : (s.slot k).intake.state.isOpen = false) (old : SlotRecord) :
    (s.slot k).Regauged r (((s.modSlot k fun u => { u with record := r }).keepGeometry old k).slot k) := by
  rw [State.keepGeometry_eq, State.slot_recomputeHours]
  split
  · rw [State.slot_recomputed]
    exact SlotUnit.regauged_recomputed ..
  · rw [State.slot_evaluateThresholds (by rw [State.slot_recomputed]; exact hi), State.slot_changeBar_same,
      State.slot_recomputed]
    have hours (b : Bool) : (((s.slot k).recomputed r).withBar .full b).hours = ((s.slot k).recomputed r).hours := by
      unfold SlotUnit.hours; rw [SlotUnit.withBar_fill]
    rw [hours, SlotUnit.withBar_fill]
    exact SlotUnit.regauged_withBar ..

theorem State.keepGeometry_other (hi : (s.slot k).intake.state.isOpen = false) (old : SlotRecord) (h : j ≠ k) :
    ((s.modSlot k fun u => { u with record := r }).keepGeometry old k).slot j = s.slot j := by
  have stored : (s.recomputed k r).slot j = s.slot j := State.slot_modSlot_other _ _ h
  rw [State.keepGeometry_eq, State.slot_recomputeHours_other _ h]
  split
  · exact stored
  · rw [State.slot_evaluateThresholds (by rw [State.slot_recomputed]; exact hi), State.slot_changeBar_other _ _ _ h, stored]

/-- The state in which FULL follows the new record as well. -/
def State.gauged (k : Slot) (r : SlotRecord) (s : State) : State :=
  (s.recomputed k r).changeBar k .full (((s.slot k).recomputed r).fullAt (r.fillOf (s.slot k).fill.e))

theorem State.slot_gauged (s : State) (k : Slot) (r : SlotRecord) : (s.gauged k r).slot k
    = ((s.slot k).recomputed r).withBar .full (((s.slot k).recomputed r).fullAt (r.fillOf (s.slot k).fill.e)) := by
  unfold State.gauged
  rw [State.slot_changeBar_same, State.slot_recomputed]

theorem State.keepGeometry_gauged (hi : (s.slot k).intake.state.isOpen = false) {old : SlotRecord}
    (hd : old.thresholds ≠ r.thresholds) : (s.modSlot k fun u => { u with record := r }).keepGeometry old k
      = ((s.gauged k r).evaluateDemand (!(s.slot k).bars.full && ((s.gauged k r).slot k).bars.full) k).recomputeHours k := by
  have evaluated := State.evaluateThresholds_eq (s := s.recomputed k r) (k := k) (by rw [State.slot_recomputed]; exact hi)
  rw [State.slot_recomputed] at evaluated
  rw [State.keepGeometry_eq, if_neg hd, evaluated]
  rfl

/-- The demand queue follows the thresholds that have changed, in the order of log entry 40 (R6, R53, R55). -/
theorem State.evaluated_gauged {f : List Byte} {d : State} (hd : ((s.popRequest .office f).gauged k r).evaluateDemand
      (!(s.slot k).bars.full && (((s.popRequest .office f).gauged k r).slot k).bars.full) k = d)
    (ht : (d.recomputeHours k).Turned t)
    (ha : ((d.recomputeHours k).port .office).outbox <+: (t.port .office).outbox) :
    s.Evaluated ((s.popRequest .office f).gauged k r) d t k := by
  have slotP := s.slot_popRequest .office f k
  have slotA := (s.popRequest .office f).slot_gauged k r
  rw [slotP] at slotA
  have barred : (s.popRequest .office f).Barred ((s.popRequest .office f).gauged k r) :=
    State.Barred.trans {} (State.barred_changeBar ..)
  have stored : (s.popRequest .office f).Noticed ((s.popRequest .office f).recomputed k r) := (State.Noticed.refl _).congr rfl rfl
  have noticed : (s.popRequest .office f).Noticed ((s.popRequest .office f).gauged k r) := Kept.changeBar _ _ _ stored.holds
  have slotD : d.slot k = ((s.popRequest .office f).gauged k r).slot k := by
    rw [← hd]; exact State.slot_congr (State.evaluateDemand_slots ..) k
  have slotH := d.slot_recomputeHours k
  rw [slotD] at slotH
  have stamp : (d.recomputeHours k).stamp = d.stamp := by rw [d.recomputeHours_frame k]; rfl
  have stampD : d.stamp = ((s.popRequest .office f).gauged k r).stamp := by rw [← hd, State.evaluateDemand_frame]; rfl
  exact {
    demand := barred.demand.trans (s.popRequest_demand ..)
    run := barred.run.trans (by rw [s.popRequest_of_ne_crew (p := .office) (by decide)])
    before := by rw [← s.popRequest_outbox .office .office f]; exact (noticed.port .office).outboxPrefix
    hf := by rw [slotA, SlotUnit.withBar_fill]; rfl
    evaluated := hd.symm
    after := ha
    queue := ht.demand
    stamp := ht.toCalm.stamp.trans (stamp.trans stampD)
    fill := (ht.slot k).fill.trans (by rw [slotH])
    full := ((ht.slot k).has .full (by decide)).trans (by rw [slotH]; rfl)
    record := (ht.slot k).record.trans (by rw [slotH]) }

/-! ## The geometry changes (R6, R34, R38) -/

/-- The state in which the estimate is discarded and UNMEASURED stands (R6). -/
def State.discarded (k : Slot) (r : SlotRecord) (s : State) : State :=
  (s.modSlot k (SlotUnit.discarded r)).changeBar k .unmeasured true

/-- The state in which the burst is discarded and the waiters have been answered (R34, R38). -/
def State.dismissed (k : Slot) (r : SlotRecord) (s : State) : State :=
  ((s.discarded k r).discardBurst k .discarded).answerWaiters k .discarded

/-- The state in which the OFFICE request has been made (R6, R35). -/
def State.remeasured (k : Slot) (r : SlotRecord) (s : State) : State :=
  (s.dismissed k r).chooseBurst.requestRange k .office

theorem State.changeGeometry_eq (s : State) (k : Slot) (r : SlotRecord) :
    (s.modSlot k fun u => { u with record := r }).changeGeometry k
      = (((s.remeasured k r).recompute k).evaluateThresholds false k).recomputeHours k := by
  have stored : (s.modSlot k fun u => { u with record := r }).modFill k
      (fun x => { x with e := 0, h := 0, measured := false, silent := 0 }) = s.modSlot k (SlotUnit.discarded r) :=
    State.modSlot_modSlot ..
  unfold State.changeGeometry
  rw [stored]
  rfl

theorem State.slot_discarded (s : State) (k : Slot) (r : SlotRecord) :
    (s.discarded k r).slot k = ((s.slot k).discarded r).withBar .unmeasured true := by
  unfold State.discarded
  rw [State.slot_changeBar_same, State.slot_modSlot_same]

theorem State.slot_discarded_other (s : State) (r : SlotRecord) (h : j ≠ k) : (s.discarded k r).slot j = s.slot j := by
  unfold State.discarded
  rw [State.slot_changeBar_other _ _ _ h, State.slot_modSlot_other _ _ h]

theorem State.custodyOn_discarded (s : State) (j k : Slot) (r : SlotRecord) : (s.discarded k r).custodyOn j = s.custodyOn j :=
  (State.barred_changeBar ..).custodyOn j

theorem State.dropped_dismissed (hc : s.custodyOn k = .none) (r : SlotRecord) :
    (s.discarded k r).Dropped (s.dismissed k r) k :=
  (State.dropped_discardBurst (by rw [State.custodyOn_discarded]; exact hc) _).trans (State.dropped_answerWaiters ..)

theorem State.turned_remeasured (s : State) (k : Slot) (r : SlotRecord) : (s.dismissed k r).Turned (s.remeasured k r) :=
  (State.reranged_chooseBurst _).turned.trans (State.reranged_requestRange _ _ (by decide)).turned

/-- What stands of the slot once the OFFICE request has been made. -/
theorem State.slot_remeasured (hc : s.custodyOn k = .none) (r : SlotRecord) : (s.remeasured k r).slot k =
    { (s.slot k).discarded r with
      bars := ((s.remeasured k r).slot k).bars, intake := ((s.remeasured k r).slot k).intake
      reader := ((s.remeasured k r).slot k).reader, range := ((s.remeasured k r).slot k).range } := by
  rw [((s.turned_remeasured k r).slot k).frame, (State.dropped_dismissed hc r).same, State.slot_discarded, SlotUnit.withBar_frame]

/-- UNMEASURED is set; FLOOD is as it was (R6). -/
theorem State.remeasured_bars (hc : s.custodyOn k = .none) (hk : (s.slot k).configured = true) (r : SlotRecord) :
    ((s.remeasured k r).slot k).bars.unmeasured = true := by
  have turned := ((s.turned_remeasured k r).slot k).has .unmeasured (by decide)
  rw [(State.dropped_dismissed hc r).same, State.slot_discarded] at turned
  exact turned.trans (by rw [SlotUnit.withBar_bars _ _ _ (by exact hk)]; rfl)

/-- The request of class OFFICE stands, unless FLOOD is set (R6, R32, R35). -/
theorem State.remeasured_asked (hc : s.custodyOn k = .none) (hk : (s.slot k).configured = true)
    (hf : (s.slot k).bars.flood = false) (r : SlotRecord) : (s.remeasured k r).firstAsked k .office := by
  have turned := (State.reranged_chooseBurst (s.dismissed k r)).turned.slot k
  refine (State.firstAsked_queueRange false (by decide) ?_ ?_).chooseBurst
  · rw [turned.configured, (State.dropped_dismissed hc r).same, State.slot_discarded]
    exact (SlotUnit.withBar_configured ..).trans hk
  · refine (turned.has .flood (by decide)).trans ?_
    rw [(State.dropped_dismissed hc r).same, State.slot_discarded]
    exact (SlotUnit.withBar_has_other (c := .flood) .unmeasured true _ (by decide)).trans hf

theorem State.remeasured_other (hc : s.custodyOn k = .none) (r : SlotRecord) (h : j ≠ k) :
    (s.slot j).Turned ((s.remeasured k r).slot j) := by
  have turned := (s.turned_remeasured k r).slot j
  rwa [(State.dropped_dismissed hc r).other j h, State.slot_discarded_other _ _ h] at turned

theorem State.noticed_discarded (s : State) (k : Slot) (r : SlotRecord) : s.Noticed (s.discarded k r) := by
  have stored : s.Noticed (s.modSlot k (SlotUnit.discarded r)) := (State.Noticed.refl s).congr rfl rfl
  exact Kept.changeBar _ _ _ stored.holds

/-- The waiters are told DISCARDED (R34, R38). -/
theorem State.dismissed_told (hc : s.custodyOn k = .none) (r : SlotRecord) : s.WaitersTold (s.dismissed k r) k .discarded := by
  have barred : s.Barred (s.discarded k r) := State.Barred.trans {} (State.barred_changeBar ..)
  have range : ((s.discarded k r).slot k).range = (s.slot k).range := by
    rw [State.slot_discarded, SlotUnit.withBar_range]; rfl
  have kept : s.WaitersKept (s.discarded k r) k :=
    ⟨by rw [range], by rw [range], barred.run, ((s.noticed_discarded k r).port .office).outboxPrefix, barred.service⟩
  exact (State.waitersDone.discardBurst (.inl kept) (by rw [State.custodyOn_discarded]; exact hc)).answered

/-! ## The thresholds of the empty estimate (R51, R53, R55) -/

/-- With the estimate 0, F and the headroom follow, FULL is cleared, and the hours-to-full follow (R6, R40, R51, R55). -/
def State.emptied (k : Slot) (s : State) : State :=
  ((s.recompute k).evaluateThresholds false k).recomputeHours k

theorem State.slot_recompute (s : State) (k : Slot) : (s.recompute k).slot k = { s.slot k with fill := { (s.slot k).fill with
    f := (s.slot k).record.fillOf (s.slot k).fill.e, h := (s.slot k).record.headroom (s.slot k).fill.e } } :=
  State.slot_modSlot_same ..

theorem State.emptied_eq (hr : (s.slot k).record.inRange) (he : (s.slot k).fill.e = 0) :
    s.emptied k = ((s.recompute k).changeBar k .full false).recomputeHours k := by
  unfold State.emptied
  rw [State.evaluateThresholds_empty]
  · rw [State.slot_recompute]; exact hr
  · rw [State.slot_recompute, he]; simp [SlotRecord.fillOf]

theorem State.slot_emptied (hr : (s.slot k).record.inRange) (he : (s.slot k).fill.e = 0) : (s.emptied k).slot k =
    { s.slot k with
      bars := ((s.emptied k).slot k).bars, intake := ((s.emptied k).slot k).intake
      fill := { (s.slot k).fill with
        f := 0, h := (s.slot k).record.headroom 0, hf := ((s.emptied k).slot k).fill.hf } } := by
  have slot : (s.recompute k).slot k = { s.slot k with fill := { (s.slot k).fill with
      f := 0, h := (s.slot k).record.headroom 0 } } := by
    rw [State.slot_recompute, he]
    simp [SlotRecord.fillOf]
  rw [State.emptied_eq hr he, State.slot_recomputeHours, State.slot_changeBar_same, slot, SlotUnit.withBar_frame]

theorem State.emptied_unmeasured (hr : (s.slot k).record.inRange) (he : (s.slot k).fill.e = 0) :
    ((s.emptied k).slot k).bars.unmeasured = (s.slot k).bars.unmeasured := by
  rw [State.emptied_eq hr he, State.slot_recomputeHours, State.slot_changeBar_same]
  refine (SlotUnit.withBar_has_other (c := .unmeasured) .full false _ (by decide)).trans ?_
  rw [State.slot_recompute]
  rfl

theorem State.emptied_other (hr : (s.slot k).record.inRange) (he : (s.slot k).fill.e = 0) (h : j ≠ k) :
    (s.emptied k).slot j = s.slot j := by
  rw [State.emptied_eq hr he, State.slot_recomputeHours_other _ h, State.slot_changeBar_other _ _ _ h]
  exact State.slot_modSlot_other _ _ h

theorem State.emptied_ranging (hr : (s.slot k).record.inRange) (he : (s.slot k).fill.e = 0) :
    (s.emptied k).ranging = s.ranging := by
  rw [State.emptied_eq hr he, State.recomputeHours_frame]
  exact (State.barred_changeBar ..).ranging

/-- What a change of geometry brings about of the slot (R6). -/
theorem State.regeared_emptied (hc : s.custodyOn k = .none) (hk : (s.slot k).configured = true) (hr : r.inRange) :
    (s.slot k).Regeared r (((s.remeasured k r).emptied k).slot k) := by
  have slot := s.slot_remeasured hc r
  have record : ((s.remeasured k r).slot k).record = r := by rw [slot]; rfl
  have estimate : ((s.remeasured k r).slot k).fill.e = 0 := by rw [slot]; rfl
  have inRange : ((s.remeasured k r).slot k).record.inRange := by rw [record]; exact hr
  have emptied := State.slot_emptied inRange estimate
  refine ⟨?_, (State.emptied_unmeasured inRange estimate).trans (State.remeasured_bars hc hk r)⟩
  rw [record] at emptied
  generalize (s.remeasured k r).slot k = u at slot emptied
  generalize ((s.remeasured k r).emptied k).slot k = v at emptied
  rw [emptied, slot]
  rfl

/-! ## The LOG bar and the rotation (R6) -/

/-- The LOG bar follows a change of the charged flag, and the rotation one of reader enable (R6, R96). -/
def State.settled (old : SlotRecord) (k : Slot) (charged : Bool) (s : State) : State :=
  (if old.charged = charged then s else s.evaluateLog).changeReader old k

theorem State.turned_changeReader (s : State) (k : Slot) (old : SlotRecord) : s.Turned (s.changeReader old k) := by
  unfold State.changeReader
  split
  · exact .refl _
  · split
    · exact State.turned_joinRotation ..
    · exact State.turned_modReader ..

theorem State.changeReader_ranging (s : State) (k : Slot) (old : SlotRecord) : (s.changeReader old k).ranging = s.ranging := by
  unfold State.changeReader
  split
  · rfl
  · split
    · exact State.joinRotation_ranging ..
    · rfl

theorem State.turned_settled (s : State) (k : Slot) (old : SlotRecord) (b : Bool) : s.Turned (s.settled old k b) := by
  have logged : s.Turned (if old.charged = b then s else s.evaluateLog) := by
    split
    · exact .refl s
    · exact s.relogged_evaluateLog.reranged.turned
  exact logged.trans (State.turned_changeReader ..)

theorem State.settled_ranging (s : State) (k : Slot) (old : SlotRecord) (b : Bool) :
    (s.settled old k b).ranging = s.ranging := by
  have logged : (if old.charged = b then s else s.evaluateLog).ranging = s.ranging := by
    split
    · rfl
    · exact s.relogged_evaluateLog.ranging
  exact (State.changeReader_ranging ..).trans logged

theorem State.noticed_settled (s : State) (k : Slot) (old : SlotRecord) (b : Bool) : s.Noticed (s.settled old k b) :=
  Kept.changeReader _ _ (Kept.ite (State.Noticed.refl s).holds (Kept.evaluateLog (State.Noticed.refl s).holds))

/-! ## The request (R6) -/

theorem IntakeState.isOpen_of_not_busy {x : IntakeState} (h : x.busy = false) : x.isOpen = false := by
  cases x with
  | opened c => cases h
  | idle => rfl
  | barred => rfl
  | verifying d => rfl
  | closing c d => rfl

theorem State.reconfigureSlot_eq (s : State) (k : Slot) (r : SlotRecord) : s.reconfigureSlot k r =
    (if (s.slot k).record.geometry = r.geometry then
      (s.modSlot k fun u => { u with record := r }).keepGeometry (s.slot k).record k
    else (s.remeasured k r).emptied k).settled (s.slot k).record k r.charged := by
  unfold State.reconfigureSlot
  dsimp only
  rw [State.changeGeometry_eq]
  rfl

/-- What the request brings about of its slot, and what it leaves (R6). -/
structure State.Reconfigured (s : State) (k : Slot) (r : SlotRecord) (t : State) : Prop where
  refitted : (s.slot k).Refitted r (t.slot k)
  kept : (s.slot k).record.geometry = r.geometry → (s.slot k).Regauged r (t.slot k)
  changed : (s.slot k).record.geometry ≠ r.geometry → (s.slot k).Regeared r (t.slot k)
  asked : (s.slot k).record.geometry ≠ r.geometry → (s.slot k).bars.flood = false → t.firstAsked k .office
  other : ∀ j, j ≠ k → (s.slot j).Turned (t.slot j)

theorem State.reconfigured_reconfigureSlot (hk : (s.slot k).configured = true) (hc : s.custodyOn k = .none)
    (hi : (s.slot k).intake.state.isOpen = false) (hr : r.inRange) : s.Reconfigured k r (s.reconfigureSlot k r) := by
  rw [State.reconfigureSlot_eq]
  by_cases same : (s.slot k).record.geometry = r.geometry
  · rw [if_pos same]
    have settled := State.turned_settled ((s.modSlot k fun u => { u with record := r }).keepGeometry (s.slot k).record k) k
      (s.slot k).record r.charged
    have regauged := (s.regauged_keepGeometry (r := r) hi (s.slot k).record).turned (settled.slot k)
    refine ⟨regauged.refitted, fun _ => regauged, fun h => absurd same h, fun h => absurd same h, fun j hj => ?_⟩
    have turned := settled.slot j
    rwa [State.keepGeometry_other hi _ hj] at turned
  · rw [if_neg same]
    have settled := ((s.remeasured k r).emptied k).turned_settled k (s.slot k).record r.charged
    have regeared := (State.regeared_emptied hc hk hr).turned (settled.slot k)
    have record : ((s.remeasured k r).slot k).record.inRange := by rw [s.slot_remeasured hc r]; exact hr
    have estimate : ((s.remeasured k r).slot k).fill.e = 0 := by rw [s.slot_remeasured hc r]; rfl
    refine ⟨regeared.refitted, fun h => absurd h same, fun _ => regeared, fun _ hf => ?_, fun j hj => ?_⟩
    · exact (State.remeasured_asked hc hk hf r).congr
        ((State.settled_ranging ..).trans (State.emptied_ranging record estimate))
    · have turned := settled.slot j
      rw [State.emptied_other record estimate hj] at turned
      exact (State.remeasured_other hc r hj).trans turned

theorem State.noticed_dismissed_emptied (s : State) (k : Slot) (r : SlotRecord) :
    (s.dismissed k r).Noticed ((s.remeasured k r).emptied k) := by
  have remeasured : (Kept.noticed (s.dismissed k r)).holds (s.remeasured k r) :=
    Kept.requestRange _ _ (Kept.chooseBurst (State.Noticed.refl _).holds)
  exact Kept.recomputeHours _ (Kept.evaluateThresholds _ _ (Kept.recompute _ remeasured))

theorem State.noticed_keepGeometry (s : State) (old : SlotRecord) (k : Slot) : s.Noticed (s.keepGeometry old k) := by
  have recomputed : (Kept.noticed s).holds (s.recompute k) := Kept.recompute _ (State.Noticed.refl s).holds
  exact Kept.recomputeHours _ (Kept.ite recomputed (Kept.evaluateThresholds _ _ recomputed))

theorem State.noticed_reconfigureSlot (s : State) (k : Slot) (r : SlotRecord) : s.Noticed (s.reconfigureSlot k r) := by
  rw [State.reconfigureSlot_eq]
  refine State.Noticed.trans ?_ (State.noticed_settled ..)
  split
  · have stored : s.Noticed (s.modSlot k fun u => { u with record := r }) := (State.Noticed.refl s).congr rfl rfl
    exact stored.trans (State.noticed_keepGeometry ..)
  · have dismissed : (Kept.noticed s).holds (s.dismissed k r) :=
      Kept.answerWaiters _ _ (Kept.discardBurst _ _ (s.noticed_discarded k r).holds)
    exact State.Noticed.trans dismissed (State.noticed_dismissed_emptied ..)

section
variable {f : List Byte} {x : Taken} {st : Status} {pl : List Byte}

theorem State.turned_answer (s : State) (x : Taken) (st : Status) (pl : List Byte) : s.Turned (s.answer x st pl) :=
  { slot := fun _ => .refl _ }

/-- Where the geometry stays and the thresholds change, FULL and demand follow them (R6, R51, R53). -/
theorem State.reconfigureSlot_follows (hk : (s.slot k).configured = true) (hi : (s.slot k).intake.state.isOpen = false)
    (hg : (s.slot k).record.geometry = r.geometry) (hd : (s.slot k).record.thresholds ≠ r.thresholds)
    (hu : (s.popRequest .office f).reconfigureSlot k r = u) : s.demandFollows (u.answer x st pl) k
      ∧ ((u.answer x st pl).slot k).bars.full = { s.slot k with record := r }.fullAt ((u.answer x st pl).slot k).fill.f := by
  have slotP := s.slot_popRequest .office f k
  have gauged := State.keepGeometry_gauged (s := s.popRequest .office f) (r := r) (k := k) (by rw [slotP]; exact hi)
    (old := (s.slot k).record) hd
  rw [slotP] at gauged
  rw [State.reconfigureSlot_eq, slotP, if_pos hg, gauged] at hu
  generalize he : ((s.popRequest .office f).gauged k r).evaluateDemand
    (!(s.slot k).bars.full && (((s.popRequest .office f).gauged k r).slot k).bars.full) k = d at hu
  have turned := (d.recomputeHours k).turned_settled k (s.slot k).record r.charged
  have after := (((d.recomputeHours k).noticed_settled k (s.slot k).record r.charged).port .office).outboxPrefix
  rw [hu] at turned after
  have evaluated := State.evaluated_gauged he (turned.trans (State.turned_answer u x st pl))
    (after.trans (State.answer_outbox u x .office st pl))
  have slotA := (s.popRequest .office f).slot_gauged k r
  rw [slotP] at slotA
  refine ⟨evaluated.demandFollows, ?_⟩
  rw [evaluated.full, evaluated.fill, slotA, SlotUnit.withBar_bars _ _ _ (by exact hk), SlotUnit.withBar_fill]
  exact BarSet.has_put_same _ .full _

/-- Where the geometry changes, a waiter at OFFICE has its RANGE_RESULT DISCARDED posted (R34, R38). -/
theorem State.reconfigureSlot_posted (hc : s.custodyOn k = .none) (hr : s.run = .running)
    (hg : (s.slot k).record.geometry ≠ r.geometry) (hw : (s.slot k).range.waitOffice = true)
    (hu : (s.popRequest .office f).reconfigureSlot k r = u) :
    s.posted (u.answer x st pl) .office 0xC4 (encSlot k ++ RangeOutcome.discarded.fields) := by
  have slotP := s.slot_popRequest .office f k
  have told := State.dismissed_told (s := s.popRequest .office f) (k := k) (by simpa using hc) r
  have noticed := (s.popRequest .office f).noticed_dismissed_emptied k r
  rw [State.reconfigureSlot_eq, slotP, if_neg hg] at hu
  obtain ⟨a, run, before, after⟩ := told.office (by rw [slotP]; exact hw)
  rw [State.popRequest_outbox] at before
  have running : a.run = .running := run.trans (by rw [s.popRequest_of_ne_crew (p := .office) (by decide)]; exact hr)
  have settled := noticed.trans (((s.popRequest .office f).remeasured k r |>.emptied k).noticed_settled k (s.slot k).record
    r.charged)
  rw [hu] at settled
  exact State.posted_of_notify running before
    (after.trans ((settled.port .office).outboxPrefix.trans (State.answer_outbox u x .office st pl)))

end

theorem exec_slotConfig_busy {tag : Byte} (hf : r.fits)
    (h : s.offers .office (frameOf 0x04 tag (encSlot k ++ encSlotRecord r))) (hb : s.slotBusy k = true) :
    exec (.slotConfig .office) s = .next (s.answered1 .office 0x04 tag .busy []) := by
  have busy := State.slotConfig_busy (s := s.popRequest .office (frameOf 0x04 tag (encSlot k ++ encSlotRecord r)))
    (x := { port := .office, kind := BitVec.ofNat 8 0x04, tag := tag, payload := encSlot k ++ encSlotRecord r })
    (Taken.slot_encSlot (k := k) (bs := encSlotRecord r) rfl) (slotRecordAt_encSlotRecord k hf) (by simpa using hb)
  rw [exec_slotConfig_record h, busy]
  exact congrArg _ (State.refuse_popRequest ..)

end

/-- Settles O22. -/
theorem slotConfigOfAConfiguredSlot : Obligations.SlotConfigOfAConfiguredSlot := by
  refine fun s tag => ⟨fun k r hf ho => ⟨fun hb => ?_, fun hk hi hc => ?_⟩, fun pl hl hn ho => ?_⟩
  · exact exec_slotConfig_busy hf ho ((s.slotBusy_iff k).mpr hb)
  · have closed : (s.slot k).intake.state.isOpen = false := IntakeState.isOpen_of_not_busy hi
    have slots := s.slot_popRequest .office (frameOf 0x04 tag (encSlot k ++ encSlotRecord r))
    have noticed := (s.popRequest .office (frameOf 0x04 tag (encSlot k ++ encSlotRecord r))).noticed_reconfigureSlot k r.clamped
    have reconfigured := State.reconfigured_reconfigureSlot
      (s := s.popRequest .office (frameOf 0x04 tag (encSlot k ++ encSlotRecord r))) (k := k) (r := r.clamped)
      (by rw [slots]; exact hk) (by simpa using hc) (by rw [slots]; exact closed) r.inRange_clamped
    rw [exec_slotConfig_stores hf ho ((s.slotBusy_eq_false_iff k).mpr ⟨hi, hc⟩), if_pos hk]
    generalize hu : (s.popRequest .office (frameOf 0x04 tag (encSlot k ++ encSlotRecord r))).reconfigureSlot k r.clamped = u
      at noticed reconfigured
    obtain ⟨refitted, kept, changed, asked, other⟩ := reconfigured
    rw [slots] at refitted kept changed asked
    refine ⟨_, rfl, State.answeredLast_of_noticed _ _ noticed, refitted.configured.trans hk, refitted.record, fun hg => ?_,
      fun hg => ?_, refitted.fr, refitted.a, refitted.lines, refitted.locks, fun j hj => ?_⟩
    · have fill := (congrArg SlotUnit.fill (kept hg).frame :)
      exact ⟨(congrArg FillRecord.e fill :), (congrArg FillRecord.measured fill :), (congrArg FillRecord.f fill :),
        (congrArg FillRecord.h fill :), (congrArg FillRecord.hf fill :), (kept hg).unmeasured,
        fun hd => State.reconfigureSlot_follows hk closed hg hd hu⟩
    · have fill := (congrArg SlotUnit.fill (changed hg).frame :)
      exact ⟨(congrArg FillRecord.e fill :), (congrArg FillRecord.measured fill :), (congrArg FillRecord.silent fill :),
        (congrArg FillRecord.f fill :), (congrArg FillRecord.h fill :), (changed hg).unmeasured,
        fun hw => (asked hg hw).rangingAsked, fun hw => State.reconfigureSlot_posted hc ho.1 hg hw hu⟩
    · exact (slots j) ▸ (other j hj).frame
  · rw [exec_slotConfig hl ho, State.slotConfig_badField]
    · exact congrArg _ (State.refuse_popRequest ..)
    · exact hn.imp slotAt_none slotRecordAt_none

end Sys2Proof.Machine
end

section
/-! SUPPORT. The order of the queues and the numbers of the log (O9): what each change of the demand queue, the ranging queue,
the waiting charges and the log does to it (R32, R75, R76, R89, R128, R129, R171, R175). -/

namespace Sys2Proof.Machine

/-! ## An element that takes its place in a list -/

/-- An element put ahead of the first that it precedes keeps a list ordered, where what it does not precede stands ahead of it. -/
theorem pairwise_orderedInsert {α : Type} {r p : α → α → Prop} [DecidableRel p] {a : α} {l : List α}
    (trans : ∀ x y z, r x y → r y z → r x z) (ahead : ∀ b ∈ l, p a b → r a b) (behind : ∀ b ∈ l, ¬ p a b → r b a)
    (h : l.Pairwise r) : (l.orderedInsert p a).Pairwise r := by
  induction l with
  | nil => exact List.pairwise_singleton r a
  | cons b l ih =>
    obtain ⟨hb, hl⟩ := List.pairwise_cons.mp h
    rw [List.orderedInsert_cons]
    split
    · next hp =>
      have hab := ahead b List.mem_cons_self hp
      refine List.pairwise_cons.mpr ⟨fun c hc => ?_, h⟩
      obtain rfl | hc := List.mem_cons.mp hc
      · exact hab
      · exact trans a b c hab (hb c hc)
    · next hp =>
      refine List.pairwise_cons.mpr ⟨fun c hc => ?_, ih (fun c hc => ahead c (List.mem_cons_of_mem b hc))
        (fun c hc => behind c (List.mem_cons_of_mem b hc)) hl⟩
      obtain rfl | hc := List.mem_cons.mp ((List.perm_orderedInsert p a l).mem_iff.mp hc)
      · exact behind b List.mem_cons_self hp
      · exact hb c hc

/-! ## The demand queue (R128, R129) -/

/-- One entry per slot, in urgency order (R128, R129): `State.demandOrdered` of the queue alone. -/
def demandSorted (q : List DemandEntry) : Prop :=
  (q.map DemandEntry.slot).Nodup ∧ q.Pairwise fun x y => x.before y = true

theorem demandInsert_eq (e : DemandEntry) (q : List DemandEntry) :
    demandInsert e q = q.orderedInsert (fun x y => x.before y = true) e := by
  induction q with
  | nil => rfl
  | cons x q ih => unfold demandInsert; rw [List.orderedInsert_cons, ih]

theorem demandSorted.remove {q : List DemandEntry} (h : demandSorted q) (k : Slot) : demandSorted (demandRemove k q) :=
  ⟨h.1.sublist (List.filter_sublist.map _), h.2.sublist List.filter_sublist⟩

/-- An entry of a slot that has none takes its place (R129). -/
theorem demandSorted.insert {q : List DemandEntry} {e : DemandEntry} (h : demandSorted q)
    (he : q.find? (fun x => x.slot == e.slot) = none) : demandSorted (demandInsert e q) := by
  have other : ∀ x ∈ q, x.slot ≠ e.slot := fun x hx => by simpa using List.find?_eq_none.mp he x hx
  rw [demandInsert_eq]
  constructor
  · rw [((List.perm_orderedInsert _ e q).map DemandEntry.slot).nodup_iff]
    refine List.nodup_cons.mpr ⟨fun hm => ?_, h.1⟩
    obtain ⟨x, hx, hs⟩ := List.mem_map.mp hm
    exact other x hx hs
  · exact pairwise_orderedInsert (fun _ _ _ => DemandEntry.before_trans) (fun _ _ hb => hb)
      (fun x hx hb => DemandEntry.before_of_not_before (other x hx).symm (by simpa using hb)) h.2

/-- A change that leaves slots, HFs and raise times leaves the order (R129). -/
theorem demandSorted.map {q : List DemandEntry} {f : DemandEntry → DemandEntry} (h : demandSorted q)
    (hf : ∀ e, (f e).slot = e.slot ∧ (f e).hf = e.hf ∧ (f e).raised = e.raised) : demandSorted (q.map f) := by
  have before (x y : DemandEntry) : (f x).before (f y) = x.before y := by
    obtain ⟨sx, hx, rx⟩ := hf x
    obtain ⟨sy, hy, ry⟩ := hf y
    simp only [DemandEntry.before, sx, hx, rx, sy, hy, ry]
  constructor
  · have slots : DemandEntry.slot ∘ f = DemandEntry.slot := funext fun e => (hf e).1
    rw [List.map_map, slots]
    exact h.1
  · rw [List.pairwise_map]
    simpa only [before] using h.2

/-! ## The ranging queue (R32, R37) -/

/-- One entry per slot, in class order (R32): `State.rangingOrdered` of the queue alone. -/
def rangingSorted (q : List RangeEntry) : Prop :=
  (q.map RangeEntry.slot).Nodup ∧ q.Pairwise fun x y => x.cause.code ≤ y.cause.code

theorem insertAtEnd_eq (e : RangeEntry) (q : List RangeEntry) :
    insertAtEnd e q = q.orderedInsert (fun x y => x.cause.code < y.cause.code) e := by
  induction q with
  | nil => rfl
  | cons x q ih => unfold insertAtEnd; rw [List.orderedInsert_cons, ih]

theorem insertAtHead_eq (e : RangeEntry) (q : List RangeEntry) :
    insertAtHead e q = q.orderedInsert (fun x y => x.cause.code ≤ y.cause.code) e := by
  induction q with
  | nil => rfl
  | cons x q ih => unfold insertAtHead; rw [List.orderedInsert_cons, ih]

/-- An entry of a slot that has none is put in at the end or at the head of its class (R32, R37). -/
theorem rangingSorted.orderedInsert {q : List RangeEntry} {e : RangeEntry} {p : RangeEntry → RangeEntry → Prop}
    [DecidableRel p] (h : rangingSorted q) (he : firstOf e.slot q = none)
    (ahead : ∀ x y, p x y → x.cause.code ≤ y.cause.code) (behind : ∀ x y, ¬ p x y → y.cause.code ≤ x.cause.code) :
    rangingSorted (q.orderedInsert p e) := by
  constructor
  · rw [((List.perm_orderedInsert _ e q).map RangeEntry.slot).nodup_iff]
    refine List.nodup_cons.mpr ⟨fun hm => ?_, h.1⟩
    obtain ⟨x, hx, hs⟩ := List.mem_map.mp hm
    exact absurd hs (by simpa using List.find?_eq_none.mp he x hx)
  · exact pairwise_orderedInsert (fun _ _ _ => Nat.le_trans) (fun x _ => ahead e x) (fun x _ => behind e x) h.2

theorem rangingSorted.remove {q : List RangeEntry} (h : rangingSorted q) (k : Slot) : rangingSorted (removeRange k q) :=
  ⟨h.1.sublist (List.filter_sublist.map _), h.2.sublist List.filter_sublist⟩

theorem rangingSorted.queueAfter {q : List RangeEntry} (h : rangingSorted q) (atHead : Bool) (k : Slot) (c : RangeCause) :
    rangingSorted (queueAfter atHead k c q) := by
  have put {q : List RangeEntry} (hq : rangingSorted q) (hn : firstOf k q = none) :
      rangingSorted ((if atHead then insertAtHead ⟨k, c⟩ else insertAtEnd ⟨k, c⟩) q) := by
    cases atHead with
    | true =>
      show rangingSorted (insertAtHead ⟨k, c⟩ q)
      rw [insertAtHead_eq]
      exact hq.orderedInsert hn (fun _ _ h => h) (fun _ _ h => by omega)
    | false =>
      show rangingSorted (insertAtEnd ⟨k, c⟩ q)
      rw [insertAtEnd_eq]
      exact hq.orderedInsert hn (fun _ _ h => h.le) (fun _ _ h => by omega)
  unfold Machine.queueAfter
  dsimp only
  split
  · next hn => exact put h hn
  · split
    · exact put (h.remove k) (firstOf_removeRange_same k q)
    · exact h

/-! ## The waiting charges (R89) -/

/-- No card twice, each count in its range (R89): `State.chargesDistinct` of the waiting charges alone. -/
def chargesApart (q : List Charge) : Prop := (q.map Charge.card).Nodup ∧ ∀ c ∈ q, 1 ≤ c.count ∧ c.count ≤ 65535

theorem mem_cards_enterCharge (n m : CardNo) (q : List Charge) :
    m ∈ (enterCharge n q).map Charge.card ↔ m = n ∨ m ∈ q.map Charge.card := by
  induction q with
  | nil => simp [enterCharge]
  | cons c q ih =>
    unfold enterCharge
    split
    · next h => simp [h]
    · rw [List.map_cons, List.mem_cons, ih, List.map_cons, List.mem_cons]
      exact or_left_comm

theorem chargesApart.enter {q : List Charge} (h : chargesApart q) (n : CardNo) : chargesApart (enterCharge n q) := by
  induction q with
  | nil => exact ⟨List.nodup_singleton n, by simp [enterCharge]⟩
  | cons c q ih =>
    obtain ⟨hc, hq⟩ := List.nodup_cons.mp h.1
    obtain ⟨count, counts⟩ := List.forall_mem_cons.mp h.2
    unfold enterCharge
    split
    · exact ⟨h.1, List.forall_mem_cons.mpr ⟨by simp only [satAdd]; omega, counts⟩⟩
    · next hn =>
      obtain ⟨cards, counts'⟩ := ih ⟨hq, counts⟩
      refine ⟨List.nodup_cons.mpr ⟨fun hm => ?_, cards⟩, List.forall_mem_cons.mpr ⟨count, counts'⟩⟩
      exact ((mem_cards_enterCharge n c.card q).mp hm).elim hn hc

/-! ## The log (R171, R175) -/

/-- Consecutive numbers modulo 65536, and the counter behind the last (R171): `State.logNumbered` of the log alone. -/
def recordsNumbered (rs : List LogRecord) (seq : Nat) : Prop :=
  ∃ first, rs.map LogRecord.seq = (List.range rs.length).map (fun i => (first + i) % 65536)
    ∧ seq = (first + rs.length) % 65536

/-- An appended record takes the number of the counter, which moves on (R171). -/
theorem recordsNumbered.append {rs : List LogRecord} {seq : Nat} (h : recordsNumbered rs seq) (b : LogBody) :
    recordsNumbered (rs ++ [⟨seq, b⟩]) ((seq + 1) % 65536) := by
  obtain ⟨first, numbers, counter⟩ := h
  refine ⟨first, ?_, ?_⟩
  · simp [numbers, counter, List.range_succ]
  · simp only [List.length_append, List.length_singleton]
    omega

/-- Records that are released take the first numbers with them (R175). -/
theorem recordsNumbered.drop {rs : List LogRecord} {seq : Nat} (h : recordsNumbered rs seq) (n : Nat) : recordsNumbered (rs.drop n) seq := by
  obtain ⟨first, numbers, counter⟩ := h
  refine ⟨first + min n rs.length, List.ext_getElem (by simp) fun i hi _ => ?_, ?_⟩
  · have number (j : Nat) (hj : j < rs.length) : rs[j].seq = (first + j) % 65536 := by
      have at_j := congrArg (fun l => l[j]?) numbers
      simpa [hj] using at_j
    simp only [List.length_map, List.length_drop] at hi
    simp only [List.getElem_map, List.getElem_drop, List.getElem_range, number]
    congr 1
    omega
  · rw [counter, List.length_drop]
    congr 1
    omega

/-! ## Every command (R32, R75, R76, R89, R128, R129, R171, R175) -/

/-- Each of the five orders that s keeps, these queues, records and counts keep too. -/
structure State.KeepsOrder (s : State) (demand : List DemandEntry) (queue : List RangeEntry) (records : List LogRecord)
    (seq : Nat) (charges : List Charge) (starvation : Nat) : Prop where
  demand : s.demandOrdered → demandSorted demand
  ranging : s.rangingOrdered → rangingSorted queue
  log : s.logNumbered → recordsNumbered records seq
  charges : s.chargesDistinct → chargesApart charges
  starvation : s.starvationInRange → starvation ≤ 4

/-- Empty queues, an empty log and a count of 0 are in order. -/
theorem State.KeepsOrder.empty (s : State) : s.KeepsOrder [] [] [] 0 [] 0 where
  demand _ := ⟨List.nodup_nil, .nil⟩
  ranging _ := ⟨List.nodup_nil, .nil⟩
  log _ := ⟨0, rfl, rfl⟩
  charges _ := ⟨List.nodup_nil, nofun⟩
  starvation _ := Nat.zero_le _

/-- Each of the five orders that s keeps, t keeps too. -/
def State.keepsOrder (s t : State) : Prop :=
  s.KeepsOrder t.demand t.ranging.queue t.log.records t.log.seq t.resolver.charges t.arbiter.starvation

/-- A waiting head that is taken leaves the others. -/
theorem chargesApart.tail {c : Charge} {q : List Charge} (h : chargesApart (c :: q)) : chargesApart q :=
  ⟨(List.nodup_cons.mp h.1).2, (List.forall_mem_cons.mp h.2).2⟩

/-- An entry that takes a new HF takes its new place (R55, R129). -/
theorem demandSorted.rehf {s : State} {k : Slot} {e : DemandEntry} (h : demandSorted s.demand) (he : s.demandOf k = some e)
    (hf : Nat) : demandSorted (demandInsert { e with hf := hf } (demandRemove k s.demand)) := by
  refine (h.remove k).insert ?_
  show (demandRemove k s.demand).find? (fun x => x.slot == e.slot) = none
  rw [State.demandOf_slot he]
  exact find?_demandRemove_same k s.demand

/-- The orders of s are kept: every shared operation keeps this. -/
def Kept.ordered (s : State) : Kept where
  P := s.keepsOrder
  memOk := True
  frame e h := by
    unfold State.keepsOrder at h ⊢
    rwa [e.demand, e.queue, e.records, e.seq, e.charges, e.starvation]
  elapse _ h := h
  slot _ _ _ _ h := h
  notify _ _ _ h := by
    unfold State.keepsOrder at h ⊢
    simpa using h
  mem _ _ _ _ h := h
  raise _ he h := { h with demand := fun hs => (h.demand hs).insert he }
  rehf _ hf _ he h := { h with demand := fun hs => (h.demand hs).rehf he hf }
  mark _ _ hf h := { h with demand := fun hs => (h.demand hs).map fun e => by split; exacts [hf e, ⟨rfl, rfl, rfl⟩] }
  unraise k h := { h with demand := fun hs => (h.demand hs).remove k }
  enqueue b k c h := { h with ranging := fun hs => (h.ranging hs).queueAfter b k c }
  dequeue k h := { h with ranging := fun hs => (h.ranging hs).remove k }
  chargeIn n h := { h with charges := fun hs => (h.charges hs).enter n }
  chargeOut hc h := { h with charges := fun hs => chargesApart.tail (hc ▸ h.charges hs) }
  chargesOut h := { h with charges := fun _ => ⟨List.nodup_nil, nofun⟩ }
  starve _ hn h := { h with starvation := fun _ => hn }
  append b h := { h with log := fun hs => (h.log hs).append b }

/-- Taking, answering, writing and reading a frame change the ports alone. -/
def Serves.ordered (s : State) : Serves (Kept.ordered s) where
  pre _ := Kept.top
  pop _ _ _ _ h := ⟨h, trivial⟩
  answer _ _ _ h := h.1
  write _ _ h := by
    unfold State.frameWrite
    dsimp only
    split
    · exact h
    · split <;> exact h
  read _ _ h := by
    unfold State.frameRead
    split <;> exact h
  announceAll h := { h with demand := fun hs => (h.demand hs).map fun _ => ⟨rfl, rfl, rfl⟩ }
  clock _ _ h := h
  clockPre _ _ _ := trivial

/-- Every command admits the orders: LOG_RELEASE drops the oldest records, a reset leaves everything empty. -/
theorem Serves.ordered_admits (s : State) (i : Instr) : (Serves.ordered s).admits i := by
  cases i
  case stationConfig => exact fun {_} _ h => h
  case profileWrite => exact fun {_} _ h => h
  case hoursWrite => exact fun {_} _ h => h
  case toneWrite => exact fun {_} _ h => h
  case timeSet => exact fun {_} _ h => h
  case slotConfig => exact fun {_} _ _ _ h => h
  case slotRemove => exact fun {_} _ _ _ h => h
  case cacheNormal => exact fun {_} _ h => h
  case cacheFrozen => exact fun {_} _ h => h
  case logRelease => exact fun {_} n _ h => ⟨{ h.1 with log := fun hs => (h.1.log hs).drop n }, trivial⟩
  case storeAttach => exact fun {_} h => h.1
  case restart => exact fun {_} _ _ _ _ => .empty s
  case powerOn => exact fun {_} _ _ _ _ => .empty s
  case resetLine => exact fun {_} _ _ _ _ => .empty s
  case mainSupplyLoss => exact fun {_} _ => .empty s
  case transactionComplete => trivial
  case transactionTimeout => exact ⟨trivial, fun _ _ h => h, fun _ _ h => ⟨h, trivial⟩⟩
  case headerReadComplete => exact ⟨trivial, fun _ _ h => h, fun _ _ h => ⟨h, trivial⟩⟩
  all_goals trivial

/-- Settles O9: the five orders are properties that every command keeps, and so every step. -/
theorem stepsKeepTheQueuesInOrder : Obligations.StepsKeepTheQueuesInOrder := by
  intro s t hx
  have start : (Kept.ordered s).holds s := ⟨id, id, id, id, id⟩
  obtain ⟨demand, ranging, log, charges, starvation⟩ :=
    (Serves.ordered s).step (Serves.ordered_admits s) (fun _ h => h) start hx
  exact ⟨demand, ranging, log, charges, starvation⟩

end Sys2Proof.Machine
end

section
/-! SUPPORT. The lock rules (O11): what keeps the releases of DRUM_LOCK and HATCH_LOCK of one slot under R19 and apart, as a
property of the slot and of the custody on it, and how the bars, the log, custody and sessions keep it (R13, R19, R144, R184). -/

namespace Sys2Proof.Machine

/-- Custody with the hatch free (R19, R144, R146). -/
def CustodyState.free (c : CustodyState) : Bool := c == .granted || c == .raised

/-- The lock rules of a slot on which custody stands as `c`: `State.locksCommanded` and `State.releasesApart` of the slot
alone. -/
structure SlotUnit.Guarded (c : CustodyState) (u : SlotUnit) : Prop where
  drum : u.locks.drumReleased = true → u.intake.state.isOpen = true ∨ u.locks.tests .drum = true
  hatch : u.locks.hatchReleased = true → c.free = true ∨ u.locks.tests .hatch = true
  test : u.locks.test.isSome = true → u.bars.service = true ∧ u.intake.state.busy = false
  service : u.bars.service = true → c = .none
  custody : c ≠ .none → u.configured = true ∧ u.bars.lift = true
  quiet : c.free = true → u.intake.state.busy = false
  idle : u.intake.state = .idle → u.bars.isEmpty = true

/-- The lock rules hold of every slot. -/
def State.Guarded (s : State) : Prop := ∀ k, (s.slot k).Guarded (s.custodyOn k)

theorem State.guarded_iff (s : State) : s.Guarded ↔ s.locksSafe := by
  refine forall_congr' fun k => ⟨fun h => ?_, fun h => ?_⟩
  · exact ⟨⟨h.drum, h.hatch⟩, h.test, h.service, h.custody, h.quiet, h.idle⟩
  · obtain ⟨⟨drum, hatch⟩, test, service, custody, quiet, idle⟩ := h
    exact ⟨drum, hatch, test, service, custody, quiet, idle⟩

/-! ## What the rules say of a slot -/

section
variable {c : CustodyState} {u : SlotUnit} (h : u.Guarded c)
include h

/-- Without SERVICE no test runs. -/
theorem SlotUnit.Guarded.no_test (hs : u.bars.service = false) : u.locks.test = none := by
  by_contra hn
  have := (h.test (Option.isSome_iff_ne_none.mpr hn)).1
  simp [hs] at this

/-- On an intake in VERIFYING, OPEN or CLOSING no test runs. -/
theorem SlotUnit.Guarded.no_test_of_busy (hb : u.intake.state.busy = true) : u.locks.test = none := by
  by_contra hn
  have := (h.test (Option.isSome_iff_ne_none.mpr hn)).2
  simp [hb] at this

/-- Under custody SERVICE does not stand. -/
theorem SlotUnit.Guarded.no_service (hc : c ≠ .none) : u.bars.service = false := by
  cases hs : u.bars.service with
  | false => rfl
  | true => exact absurd (h.service hs) hc

/-- An intake in VERIFYING, OPEN or CLOSING stands under custody with the hatch engaged. -/
theorem SlotUnit.Guarded.not_free (hb : u.intake.state.busy = true) : c.free = false := by
  cases hf : c.free with
  | false => rfl
  | true => simp [h.quiet hf] at hb

/-- The releases of the two locks never stand together (R19). -/
theorem SlotUnit.Guarded.not_both : ¬ (u.locks.drumReleased = true ∧ u.locks.hatchReleased = true) := by
  rintro ⟨hd, hh⟩
  have test_of {x : ReleaseTest} (ht : u.locks.tests x = true) : ∃ d, u.locks.test = some (x, d) := by
    cases e : u.locks.test with
    | none => simp [Locks.tests, e] at ht
    | some y => exact ⟨y.2, by rw [← show y.1 = x by simpa [Locks.tests, e] using ht]⟩
  obtain ho | ht := h.drum hd
  · have busy : u.intake.state.busy = true := by cases e : u.intake.state <;> simp_all [IntakeState.isOpen, IntakeState.busy]
    obtain hf | ht := h.hatch hh
    · simp [h.not_free busy] at hf
    · obtain ⟨d, e⟩ := test_of ht
      simp [h.no_test_of_busy busy] at e
  · obtain ⟨d, e⟩ := test_of ht
    obtain hf | ht' := h.hatch hh
    · have hc := h.service (h.test (by simp [e])).1
      simp [hc, CustodyState.free] at hf
    · obtain ⟨d', e'⟩ := test_of ht'
      simp [e] at e'

/-- The custody on the slot changes. -/
theorem SlotUnit.Guarded.under {d : CustodyState}
    (stands : d ≠ .none → u.bars.service = false ∧ u.configured = true ∧ u.bars.lift = true)
    (hatch : u.locks.hatchReleased = true → d.free = true ∨ u.locks.tests .hatch = true)
    (quiet : d.free = true → u.intake.state.busy = false) : u.Guarded d where
  drum := h.drum
  hatch := hatch
  test := h.test
  service hs := by
    by_contra hd
    simp [(stands hd).1] at hs
  custody hd := (stands hd).2
  quiet := quiet
  idle := h.idle

end

/-- Two slots alike in all that the lock rules speak of. -/
structure SlotUnit.Alike (u v : SlotUnit) : Prop where
  configured : u.configured = true → v.configured = true
  locks : v.locks = u.locks
  service : v.bars.service = u.bars.service
  lift : v.bars.lift = u.bars.lift
  busy : v.intake.state.busy = u.intake.state.busy
  isOpen : v.intake.state.isOpen = u.intake.state.isOpen
  idle : (u.intake.state = .idle → u.bars.isEmpty = true) → v.intake.state = .idle → v.bars.isEmpty = true

/-- A slot with its locks, its bars and the state of its intake as they were. -/
theorem SlotUnit.Alike.light {u v : SlotUnit} (hc : u.configured = true → v.configured = true) (hl : v.locks = u.locks)
    (hb : v.bars = u.bars) (hi : v.intake.state = u.intake.state) : u.Alike v :=
  ⟨hc, hl, by rw [hb], by rw [hb], by rw [hi], by rw [hi], fun h => by rw [hi, hb]; exact h⟩

theorem SlotUnit.Alike.refl (u : SlotUnit) : u.Alike u := .light id rfl rfl rfl

theorem SlotUnit.Guarded.alike {c : CustodyState} {u v : SlotUnit} (h : u.Guarded c) (a : u.Alike v) : v.Guarded c where
  drum := by rw [a.locks, a.isOpen]; exact h.drum
  hatch := by rw [a.locks]; exact h.hatch
  test := by rw [a.locks, a.service, a.busy]; exact h.test
  service := by rw [a.service]; exact h.service
  custody hc := ⟨a.configured (h.custody hc).1, by rw [a.lift]; exact (h.custody hc).2⟩
  quiet := by rw [a.busy]; exact h.quiet
  idle := a.idle h.idle

theorem IntakeState.idle_of_follow {x : IntakeState} {b : BarSet} (h : x.follow b = .idle) : b.isEmpty = true := by
  by_contra hb
  cases x <;> simp_all [IntakeState.follow, restState]

/-- The bars of which the lock rules do not speak: all but SERVICE and LIFT. -/
def Bar.beside : Bar → Bool
  | .service | .lift => false
  | .full | .unmeasured | .flood | .drum | .out | .log => true

/-- Such a bar comes and goes beside the lock rules (R13). -/
theorem SlotUnit.alike_withBar (u : SlotUnit) {b : Bar} (v : Bool) (hb : b.beside = true) : u.Alike (u.withBar b v) := by
  have hs : .service ≠ b := fun e => by subst e; cases hb
  have hl : .lift ≠ b := fun e => by subst e; cases hb
  unfold SlotUnit.withBar
  split
  · exact {
      configured := id
      locks := rfl
      service := u.bars.has_put_other v hs
      lift := u.bars.has_put_other v hl
      busy := IntakeState.busy_follow ..
      isOpen := IntakeState.isOpen_follow ..
      idle := fun _ => IntakeState.idle_of_follow }
  · exact .refl _

theorem SlotUnit.Relogged.alike {u v : SlotUnit} (h : u.Relogged v) : u.Alike v := by
  obtain rfl | ⟨-, e⟩ := h
  · exact .refl _
  · exact {
      configured := fun hc => by rw [e]; exact hc
      locks := by rw [e]
      service := by rw [e]
      lift := by rw [e]
      busy := by rw [e]; exact IntakeState.busy_follow ..
      isOpen := by rw [e]; exact IntakeState.isOpen_follow ..
      idle := fun _ hi => by rw [e] at hi; exact IntakeState.idle_of_follow hi }

/-- LIFT comes, or goes where no custody stands. -/
theorem SlotUnit.Guarded.withLift {c : CustodyState} {u : SlotUnit} (h : u.Guarded c) {v : Bool} (hv : v = true ∨ c = .none) :
    (u.withBar .lift v).Guarded c := by
  unfold SlotUnit.withBar
  split
  · exact {
      drum := by simpa [IntakeState.isOpen_follow] using h.drum
      hatch := h.hatch
      test := by simpa [BarSet.put] using h.test
      service := h.service
      custody := fun hc => ⟨(h.custody hc).1, hv.resolve_right hc⟩
      quiet := by simpa using h.quiet
      idle := IntakeState.idle_of_follow }
  · exact h

/-- SERVICE comes where no custody stands, or goes where no test runs (R183, R184). -/
theorem SlotUnit.Guarded.withService {c : CustodyState} {u : SlotUnit} (h : u.Guarded c) {v : Bool}
    (hv : v = true ∧ c = .none ∨ v = false ∧ u.locks.test = none) : (u.withBar .service v).Guarded c := by
  unfold SlotUnit.withBar
  split
  · exact {
      drum := by simpa [IntakeState.isOpen_follow] using h.drum
      hatch := h.hatch
      test := fun ht => by
        obtain ⟨hv, -⟩ | ⟨-, hn⟩ := hv
        · exact ⟨hv, by simpa using (h.test ht).2⟩
        · simp [hn] at ht
      service := fun hs => by
        obtain ⟨-, hc⟩ | ⟨hv, -⟩ := hv
        · exact hc
        · exact absurd hs (by simp [BarSet.put, hv])
      custody := h.custody
      quiet := by simpa using h.quiet
      idle := IntakeState.idle_of_follow }
  · exact h

/-! ## States -/

section
variable {s t : State}

/-- A state whose slots are alike under the same custody keeps the lock rules. -/
theorem State.Guarded.alike (h : s.Guarded) (slot : ∀ j, (s.slot j).Alike (t.slot j))
    (custody : ∀ j, t.custodyOn j = s.custodyOn j) : t.Guarded := fun j => by
  rw [custody j]; exact (h j).alike (slot j)

theorem State.Guarded.reranged (h : s.Guarded) (r : s.Reranged t) : t.Guarded :=
  h.alike (fun j => (r.slot j).alike) r.custodyOn

theorem State.Guarded.relogged (h : s.Guarded) (r : s.Relogged t) : t.Guarded := h.reranged r.reranged

/-- A change beside the slots and the custody record. -/
theorem State.Guarded.same (h : s.Guarded) (slots : t.slots = s.slots)
    (custody : t.lift.custody = s.lift.custody) : t.Guarded :=
  h.alike (fun j => by rw [State.slot_congr slots]; exact .refl _) fun j => by unfold State.custodyOn; rw [custody]

theorem State.Guarded.ite {p : Prop} [Decidable p] (hs : p → s.Guarded) (ht : ¬ p → t.Guarded) :
    (if p then s else t).Guarded := by
  split
  · next hp => exact hs hp
  · next hp => exact ht hp

/-- A change of one slot that keeps the rules there. -/
theorem State.Guarded.modSlot (h : s.Guarded) (k : Slot) {f : SlotUnit → SlotUnit}
    (hf : (f (s.slot k)).Guarded (s.custodyOn k)) : (s.modSlot k f).Guarded := fun j => by
  rw [State.slot_modSlot]
  split
  · next e => subst e; exact hf
  · exact h j

/-- A change of one slot beside its locks, its bars and the state of its intake. -/
theorem State.Guarded.lightly (h : s.Guarded) (k : Slot) {f : SlotUnit → SlotUnit}
    (hc : (s.slot k).configured = true → (f (s.slot k)).configured = true) (hl : (f (s.slot k)).locks = (s.slot k).locks)
    (hb : (f (s.slot k)).bars = (s.slot k).bars) (hi : (f (s.slot k)).intake.state = (s.slot k).intake.state) :
    (s.modSlot k f).Guarded := h.modSlot k ((h k).alike (.light hc hl hb hi))

theorem State.Guarded.foldl {α : Type} {f : State → α → State} (hf : ∀ u a, u.Guarded → (f u a).Guarded) (l : List α)
    (h : s.Guarded) : (l.foldl f s).Guarded := by
  induction l generalizing s with
  | nil => exact h
  | cons a l ih => exact ih (hf _ _ h)

theorem State.Guarded.eachSlot {f : Slot → State → State} (hf : ∀ k u, u.Guarded → (f k u).Guarded) (h : s.Guarded) :
    (s.eachSlot f).Guarded := State.Guarded.foldl (fun u k => hf k u) _ h

/-! ## Ports, parts of the state, the log, demand -/

theorem State.Guarded.answer (h : s.Guarded) (x : Taken) (st : Status) (pl : List Byte) : (s.answer x st pl).Guarded := h.same rfl rfl
theorem State.Guarded.refuse (h : s.Guarded) (x : Taken) (st : Status) : (s.refuse x st).Guarded := h.same rfl rfl
theorem State.Guarded.elapse (h : s.Guarded) (ms : Nat) : (s.elapse ms).Guarded := h.same rfl rfl
theorem State.Guarded.elapseTo (h : s.Guarded) (d : Nat) : (s.elapseTo d).Guarded := h.same rfl rfl
theorem State.Guarded.modBatch (h : s.Guarded) (f : Batch → Batch) : (s.modBatch f).Guarded := h.same rfl rfl
theorem State.Guarded.modBus (h : s.Guarded) (f : ReaderBus → ReaderBus) : (s.modBus f).Guarded := h.same rfl rfl
theorem State.Guarded.modResolver (h : s.Guarded) (f : Resolver → Resolver) : (s.modResolver f).Guarded := h.same rfl rfl
theorem State.Guarded.modRanging (h : s.Guarded) (f : Ranging → Ranging) : (s.modRanging f).Guarded := h.same rfl rfl
theorem State.Guarded.modStore (h : s.Guarded) (f : Store → Store) : (s.modStore f).Guarded := h.same rfl rfl

/-- A change of the Lift Controller beside custody. -/
theorem State.Guarded.modLift (h : s.Guarded) {f : Lift → Lift} (hf : (f s.lift).custody = s.lift.custody) :
    (s.modLift f).Guarded := h.same rfl hf

/-- A change of the custody record beside its slot and its state. -/
theorem State.Guarded.modCustody (h : s.Guarded) {f : Custody → Custody}
    (hf : (f s.lift.custody).slot = s.lift.custody.slot ∧ (f s.lift.custody).state = s.lift.custody.state) :
    (s.modCustody f).Guarded := by
  refine h.alike (fun j => .refl _) fun j => ?_
  show (if (f s.lift.custody).slot = j then (f s.lift.custody).state else .none) = s.custodyOn j
  rw [hf.1, hf.2]
  rfl

theorem State.Guarded.post (h : s.Guarded) (p : Port) (n : NoticeKind) (pl : List Byte) : (s.post p n pl).Guarded :=
  h.same (by simp) (by simp)

theorem State.Guarded.changeBar (h : s.Guarded) (k : Slot) {b : Bar} (v : Bool) (hb : b.beside = true) :
    (s.changeBar k b v).Guarded := by
  refine h.alike (fun j => ?_) (s.barred_changeBar k b v).custodyOn
  rw [State.slot_changeBar]
  split
  · exact SlotUnit.alike_withBar _ v hb
  · exact .refl _

/-- A change of SERVICE. -/
theorem State.Guarded.changeService (h : s.Guarded) (k : Slot) (v : Bool)
    (hv : v = true ∧ s.custodyOn k = .none ∨ v = false ∧ (s.slot k).locks.test = none) :
    (s.changeBar k .service v).Guarded := fun j => by
  rw [(s.barred_changeBar k .service v).custodyOn, State.slot_changeBar]
  split
  · next e => subst e; exact (h j).withService hv
  · exact h j

theorem State.Guarded.evaluateLog (h : s.Guarded) : s.evaluateLog.Guarded := h.relogged s.relogged_evaluateLog
theorem State.Guarded.logAppend (h : s.Guarded) (b : LogBody) : (s.logAppend b).Guarded := h.relogged (s.relogged_logAppend b)
theorem State.Guarded.alert (h : s.Guarded) (a : Alert) : (s.alert a).Guarded := h.relogged (s.relogged_alert a)

theorem State.Guarded.announceDemand (h : s.Guarded) (k : Slot) (n : RaiseKind) : (s.announceDemand k n).Guarded := by
  unfold State.announceDemand
  split
  · exact h
  · dsimp only
    split
    · exact (h.post _ _ _).same rfl rfl
    · exact h.post _ _ _

theorem State.Guarded.raiseDemand (h : s.Guarded) (k : Slot) (c : DemandCause) (hf : Nat) :
    (s.raiseDemand k c hf).Guarded := by
  unfold State.raiseDemand
  refine .ite (fun _ => h) fun _ => State.Guarded.announceDemand ?_ k .new
  exact h.same rfl rfl

theorem State.Guarded.raiseCause (h : s.Guarded) (k : Slot) (c : DemandCause) : (s.raiseCause k c).Guarded := by
  unfold State.raiseCause
  refine State.Guarded.announceDemand ?_ k .cause
  exact h.same rfl rfl

theorem State.Guarded.demandHf (h : s.Guarded) (k : Slot) (hf : Nat) : (s.demandHf k hf).Guarded := by
  unfold State.demandHf
  split
  · exact h
  · exact h.same rfl rfl

theorem State.Guarded.clearDemand (h : s.Guarded) (k : Slot) (r : ClearReason) : (s.clearDemand k r).Guarded := by
  unfold State.clearDemand
  split
  · exact h
  · refine State.Guarded.post ?_ _ _ _
    exact h.same rfl rfl

theorem State.Guarded.repeatDemand (h : s.Guarded) : s.repeatDemand.Guarded :=
  State.Guarded.foldl (fun _ e hu => hu.announceDemand e.slot .again) _ h

/-! ## Custody (R142 to R156) -/

/-- Custody that stands on a slot stands on no other (R142). -/
theorem State.custodyOn_other {k j : Slot} (hk : s.custodyOn k ≠ .none) (hj : j ≠ k) : s.custodyOn j = .none := by
  unfold State.custodyOn at hk ⊢
  split at hk
  · next e => rw [if_neg (fun h => hj (h.symm.trans e))]
  · exact absurd rfl hk

/-- The record of custody names the slot on which custody stands. -/
theorem State.custody_slot_of {k : Slot} (hk : s.custodyOn k ≠ .none) : s.lift.custody.slot = k := by
  unfold State.custodyOn at hk
  split at hk
  · assumption
  · exact absurd rfl hk

theorem State.custodyOn_slot (s : State) : s.custodyOn s.lift.custody.slot = s.lift.custody.state := if_pos rfl

theorem State.Guarded.postCustody (h : s.Guarded) (k : Slot) (st : CustodyState) (r : Option CustodyReason) :
    (s.postCustody k st r).Guarded := by
  unfold State.postCustody
  exact .ite (fun _ => h.post _ _ _) fun _ => h

theorem State.Guarded.postLiftState (h : s.Guarded) (k : Slot) (st : CustodyState) : (s.postLiftState k st).Guarded := by
  unfold State.postLiftState
  exact .ite (fun _ => h) fun _ => h.postCustody _ _ _

theorem State.Guarded.dropTip (h : s.Guarded) (k : Slot) : (s.dropTip k).Guarded := h.lightly k id rfl rfl rfl

/-- A lock is engaged. -/
theorem State.Guarded.engageHatch (h : s.Guarded) (k : Slot) : (s.setHatch k false).Guarded :=
  h.modSlot k { h k with hatch := fun hr => absurd hr (by simp) }

theorem State.Guarded.engageDrum (h : s.Guarded) (k : Slot) : (s.setDrumLock k false).Guarded :=
  h.modSlot k { h k with drum := fun hr => absurd hr (by simp) }

/-- Custody that stands on a slot enters another state. -/
theorem State.Guarded.enterCustody (h : s.Guarded) {k : Slot} {st : CustodyState} {d : Option Nat}
    (hk : s.custodyOn k ≠ .none)
    (hatch : (s.slot k).locks.hatchReleased = true → st.free = true ∨ (s.slot k).locks.tests .hatch = true)
    (quiet : st.free = true → (s.slot k).intake.state.busy = false) : (s.enterCustody st d).Guarded := by
  have slot := State.custody_slot_of hk
  refine State.Guarded.evaluateLog fun j => ?_
  show (s.slot j).Guarded (if s.lift.custody.slot = j then st else .none)
  rw [slot]
  split
  · next e =>
    subst e
    exact (h k).under (fun _ => ⟨(h k).no_service hk, (h k).custody hk⟩) hatch quiet
  · next e =>
    have := h j
    rwa [State.custodyOn_other hk (Ne.symm e)] at this

/-- Custody ends with the hatch engaged but for a test of it (R142). -/
theorem State.Guarded.clearCustody (h : s.Guarded) {k : Slot} (hk : s.custodyOn k ≠ .none)
    (hatch : (s.slot k).locks.hatchReleased = true → (s.slot k).locks.tests .hatch = true) : (s.clearCustody k).Guarded := by
  unfold State.clearCustody
  refine State.Guarded.evaluateLog (State.Guarded.dropTip (fun j => ?_) k)
  show ((s.changeBar k .lift false).slot j).Guarded (if (0 : Slot) = j then .none else .none)
  rw [ite_self, State.slot_changeBar]
  have none_k : (s.slot k).Guarded .none := (h k).under (absurd rfl) (fun hr => .inr (hatch hr)) (fun hf => by cases hf)
  split
  · next e => subst e; exact none_k.withLift (.inr rfl)
  · next e =>
    have := h j
    rwa [State.custodyOn_other hk e] at this

theorem State.Guarded.endCustody (h : s.Guarded) {k : Slot} (hk : s.custodyOn k ≠ .none) (r : Option CustodyReason) :
    (s.endCustody k r).Guarded := by
  have cleared : ((s.setHatch k false).clearCustody k).Guarded :=
    (h.engageHatch k).clearCustody hk (fun hr => absurd hr (by simp [State.setHatch]))
  unfold State.endCustody
  cases r with
  | none => exact cleared
  | some x => exact .ite (fun _ => cleared) fun _ => cleared.postCustody _ _ _

/-- The hatch is freed at a quiet intake under custody in WAITING (R144). -/
theorem State.Guarded.slotQuiet (h : s.Guarded) {k : Slot} (hq : (s.slot k).intake.state.busy = false) :
    (s.slotQuiet k).Guarded := by
  unfold State.slotQuiet
  refine .ite (fun hw => ?_) fun _ => h
  have hk : s.custodyOn k ≠ .none := by rw [hw]; decide
  refine .ite (fun _ => h.endCustody hk _) fun _ => State.Guarded.postCustody ?_ k .granted none
  refine State.Guarded.evaluateLog fun j => ?_
  show (((s.modCustody _).setHatch k true).slot j).Guarded (if s.lift.custody.slot = j then .granted else .none)
  rw [State.custody_slot_of hk]
  unfold State.setHatch
  rw [State.slot_modSlot]
  by_cases e : j = k
  · subst e
    rw [if_pos rfl, if_pos rfl]
    have free : (s.slot j).Guarded .granted := { h j with
      hatch := fun _ => .inl rfl
      service := fun hs => absurd ((h j).service hs) hk
      custody := fun _ => (h j).custody hk
      quiet := fun _ => hq }
    exact { free with hatch := fun _ => .inl rfl }
  · rw [if_neg e, if_neg (Ne.symm e)]
    have := h j
    rwa [State.custodyOn_other hk e] at this

theorem State.Guarded.completeVisit (h : s.Guarded) : s.completeVisit.Guarded := by
  unfold State.completeVisit
  split
  · exact h
  · exact ((h.modLift rfl).logAppend _).modLift rfl

end

end Sys2Proof.Machine
end

section
/-! SUPPORT. The lock rules (O11) through the shared operations of the Arbiter, the Card Resolver, the reader bus, the intakes
and the Fill Estimator (R19, R75 to R117, R40 to R57). -/

namespace Sys2Proof.Machine

variable {s : State}

/-! ## The Store Arbiter, the cache and the charges (R75 to R94) -/

theorem State.Guarded.tryGrant (h : s.Guarded) : s.tryGrant.Guarded := by
  unfold State.tryGrant
  refine .ite (fun _ => h) fun _ => ?_
  split
  · next r _ =>
    unfold State.grant
    split
    · exact h
    · exact h.same rfl rfl
  · exact h

theorem State.Guarded.placeRequest (h : s.Guarded) (r : Requester) (q : StoreRequest) : (s.placeRequest r q).Guarded := by
  unfold State.placeRequest
  refine State.Guarded.tryGrant ?_
  exact h.same rfl rfl

theorem State.Guarded.endWork (h : s.Guarded) (r : Requester) : (s.endWork r).Guarded := by
  unfold State.endWork
  refine State.Guarded.tryGrant ?_
  exact h.same rfl rfl

theorem State.Guarded.setCacheSet (h : s.Guarded) (n : CardNo) (x : CacheSet) : (s.setCacheSet n x).Guarded := h.same rfl rfl

theorem State.Guarded.touchCache (h : s.Guarded) (n : CardNo) : (s.touchCache n).Guarded := by
  unfold State.touchCache
  split
  · exact h.setCacheSet _ _
  · exact h

theorem State.Guarded.modCached (h : s.Guarded) (n : CardNo) (f : CacheEntry → CacheEntry) : (s.modCached n f).Guarded := by
  unfold State.modCached
  split
  · exact h.setCacheSet _ _
  · exact h

theorem State.Guarded.fillCache (h : s.Guarded) (e : CacheEntry) : (s.fillCache e).Guarded := h.setCacheSet _ _
theorem State.Guarded.dropCached (h : s.Guarded) (n : CardNo) : (s.dropCached n).Guarded := h.setCacheSet _ _
theorem State.Guarded.flushCache (h : s.Guarded) : s.flushCache.Guarded := h.modResolver _

theorem State.Guarded.takeCharge (h : s.Guarded) : s.takeCharge.Guarded := by
  unfold State.takeCharge
  split
  · split <;> exact (h.modResolver _).placeRequest _ _
  · exact h

theorem State.Guarded.charge (h : s.Guarded) (n : CardNo) : (s.charge n).Guarded := by
  unfold State.charge
  exact .ite (fun _ => ((h.modCached n _).modResolver _).takeCharge) fun _ => h.modCached n _

theorem State.Guarded.nextCharge (h : s.Guarded) : s.nextCharge.Guarded := (h.modResolver _).takeCharge

theorem State.Guarded.writeCharge (h : s.Guarded) (j : ChargeJob) (b : Bucket) (p : Position) (r : CardRecord) :
    (s.writeCharge j b p r).Guarded := (h.modResolver _).placeRequest _ _

theorem State.Guarded.dropCharge (h : s.Guarded) (c : Charge) : (s.dropCharge c).Guarded :=
  ((h.endWork .charge).alert _).nextCharge

theorem State.Guarded.chargeSearch (h : s.Guarded) (j : ChargeJob) (st : SearchStep) : (s.chargeSearch j st).Guarded := by
  unfold State.chargeSearch
  split
  · exact (h.modResolver _).placeRequest _ _
  · exact h.writeCharge _ _ _ _
  · exact h.dropCharge _
  · exact h.dropCharge _

theorem State.Guarded.refreshCached (h : s.Guarded) (n : CardNo) (w : CardRecord) : (s.refreshCached n w).Guarded := by
  unfold State.refreshCached
  exact .ite (fun _ => h) fun _ => h.modCached _ _

theorem State.Guarded.chargeHanded (h : s.Guarded) (t : Transaction) (o : Handed) : (s.chargeHanded t o).Guarded := by
  unfold State.chargeHanded
  split
  · exact h
  · next j _ =>
    have search : ((s.setChargePhase (.searching { card := j.charge.card })).placeRequest .charge
        (searchRequest j.charge.card false)).Guarded := (h.modResolver _).placeRequest _ _
    split
    · exact .ite (fun _ => h.writeCharge _ _ _ _) fun _ => search
    · exact search
    · exact search
    · exact h.chargeSearch _ _
    · split
      · exact ((h.refreshCached _ _).endWork _).nextCharge
      · exact (h.endWork _).nextCharge
    · exact h

theorem State.Guarded.chargesLoss (h : s.Guarded) : s.chargesLoss.Guarded := by
  unfold State.chargesLoss
  split
  · exact h
  · exact (h.modResolver _).alert _

/-! ## The reader bus (R96 to R99) -/

theorem State.Guarded.modReader (h : s.Guarded) (k : Slot) (f : Reader → Reader) : (s.modReader k f).Guarded := h.lightly k id rfl rfl rfl

theorem State.Guarded.poll (h : s.Guarded) (k : Slot) : (s.poll k).Guarded := (h.modReader k _).modBus _

theorem State.Guarded.passTurn (h : s.Guarded) : s.passTurn.Guarded := by
  unfold State.passTurn
  split
  · exact h.poll _
  · exact h.modBus _

theorem State.Guarded.afterPoll (h : s.Guarded) (k : Slot) : (s.afterPoll k).Guarded := by
  unfold State.afterPoll
  split
  · exact (h.modReader k _).modBus _
  · exact h.passTurn

theorem State.Guarded.wakeBus (h : s.Guarded) : s.wakeBus.Guarded := by
  unfold State.wakeBus
  split
  · exact h.passTurn
  all_goals exact h

theorem State.Guarded.askTone (h : s.Guarded) (k : Slot) (p : TonePattern) : (s.askTone k p).Guarded := by
  unfold State.askTone
  exact .ite (fun _ => h.modReader k _) fun _ => h

theorem State.Guarded.unanswered (h : s.Guarded) (k : Slot) : (s.unanswered k).Guarded := by
  unfold State.unanswered
  exact .ite (fun _ => ((h.modReader k _).modReader k _).alert _) fun _ => h.modReader k _

theorem State.Guarded.answered (h : s.Guarded) (k : Slot) : (s.answered k).Guarded := by
  unfold State.answered
  exact .ite (fun _ => (h.modReader k _).alert _) fun _ => h.modReader k _

/-! ## Intake sessions (R100 to R117) -/

/-- An intake takes another state, without becoming busy. -/
theorem State.Guarded.setIntake (h : s.Guarded) {k : Slot} {x : IntakeState}
    (busy : x.busy = true → (s.slot k).intake.state.busy = true)
    (idle : x = .idle → (s.slot k).bars.isEmpty = true)
    (drum : (s.slot k).locks.drumReleased = true → x.isOpen = true ∨ (s.slot k).locks.tests .drum = true) :
    (s.setIntake k x).Guarded := by
  have quiet (hb : (s.slot k).intake.state.busy = false) : x.busy = false := by
    cases hx : x.busy with
    | false => rfl
    | true => simp [busy hx] at hb
  exact h.modSlot k { h k with
    drum := drum
    test := fun ht => ⟨((h k).test ht).1, quiet ((h k).test ht).2⟩
    quiet := fun hf => quiet ((h k).quiet hf)
    idle := idle }

theorem restState_eq_idle {b : BarSet} (h : restState b = .idle) : b.isEmpty = true := by
  by_contra hb
  simp [restState, hb] at h

/-- An intake goes to rest with its drum lock engaged but for a test. -/
theorem State.Guarded.rest (h : s.Guarded) {k : Slot}
    (drum : (s.slot k).locks.drumReleased = true → (s.slot k).locks.tests .drum = true) :
    (s.setIntake k (restState (s.slot k).bars)).Guarded :=
  h.setIntake (fun hb => absurd hb (by simp)) restState_eq_idle fun hd => .inr (drum hd)

/-- Outside OPEN the drum lock is released for a test alone. -/
theorem SlotUnit.Guarded.drum_tests {c : CustodyState} {u : SlotUnit} (h : u.Guarded c) (ho : u.intake.state.isOpen = false)
    (hd : u.locks.drumReleased = true) : u.locks.tests .drum = true := (h.drum hd).resolve_left (by simp [ho])

/-- A session is closed with its drum lock engaged but for a test (R115, R117). -/
theorem State.Guarded.closeSession (h : s.Guarded) {k : Slot}
    (drum : (s.slot k).locks.drumReleased = true → (s.slot k).locks.tests .drum = true) (c : Session) (r : EndReason) :
    (s.closeSession k c r).Guarded := by
  have recorded := s.relogged_recordedSession k c r
  have closed : (s.modSlot k (SlotUnit.closed s.now c)).Guarded :=
    h.modSlot k ((h.rest drum k).alike (by rw [State.setIntake, State.modIntake, State.slot_modSlot_same]; exact .light id rfl rfl rfl))
  rw [State.closeSession_eq]
  refine (closed.relogged recorded).slotQuiet ?_
  rw [(recorded.slot k).busy, State.slot_modSlot_same]
  exact restState_busy _

theorem State.Guarded.endSession (h : s.Guarded) (k : Slot) (r : EndReason) : (s.endSession k r).Guarded := by
  unfold State.endSession
  split
  · next c e =>
    have engaged : ((s.setDrumLock k false).modIntake k fun i => { i with idleDeadline := none }).Guarded :=
      (h.engageDrum k).lightly k id rfl rfl rfl
    have locked : (((s.setDrumLock k false).modIntake k fun i => { i with idleDeadline := none }).slot k).locks.drumReleased
        = false := by simp [State.modIntake, State.setDrumLock]
    refine .ite (fun _ => engaged.closeSession (fun hd => absurd hd (by simp [locked])) c r) fun _ => ?_
    refine engaged.setIntake (fun _ => ?_) (fun hi => by cases hi) (fun hd => absurd hd (by simp [locked]))
    simp [State.modIntake, State.setDrumLock, e, IntakeState.busy]
  all_goals exact h

theorem State.Guarded.homeTests (h : s.Guarded) (k : Slot) : (s.homeTests k).Guarded := by
  unfold State.homeTests
  split
  · split
    · exact h.endSession _ _
    · exact h
  all_goals exact h

theorem State.Guarded.barOnSession (h : s.Guarded) (k : Slot) (b : Bar) : (s.barOnSession k b).Guarded := by
  unfold State.barOnSession
  split
  · exact h.endSession _ _
  all_goals first | exact h | exact .ite (fun _ => h.homeTests k) fun _ => h

theorem State.Guarded.setBar (h : s.Guarded) (k : Slot) {b : Bar} (hb : b.beside = true) : (s.setBar k b).Guarded := by
  unfold State.setBar
  exact .ite (fun _ => (h.changeBar k true hb).barOnSession k b) fun _ => h

/-- SERVICE is set where no custody stands (R183). -/
theorem State.Guarded.setService (h : s.Guarded) {k : Slot} (hk : s.custodyOn k = .none) : (s.setBar k .service).Guarded := by
  unfold State.setBar
  exact .ite (fun _ => (h.changeService k true (.inl ⟨rfl, hk⟩)).barOnSession k .service) fun _ => h

theorem State.Guarded.setFull (h : s.Guarded) (b : Bool) (k : Slot) : (s.setFull b k).Guarded := by
  unfold State.setFull
  exact .ite (fun _ => h.changeBar k true rfl) fun _ => h.setBar k rfl

theorem State.slot_askTone (s : State) (k : Slot) (p : TonePattern) (j : Slot) :
    (s.askTone k p).slot j = { s.slot j with reader := ((s.askTone k p).slot j).reader } := by
  unfold State.askTone
  split
  · unfold State.modReader
    rw [State.slot_modSlot]
    split <;> rfl
  · rfl

theorem State.Guarded.denyVerifying (h : s.Guarded) {k : Slot} (ho : (s.slot k).intake.state.isOpen = false) (d : DenyReason) :
    (s.denyVerifying k d).Guarded := by
  have slot := s.slot_askTone k d.tone k
  have bars : ((s.askTone k d.tone).slot k).bars = (s.slot k).bars := (congrArg SlotUnit.bars slot :)
  have intake : ((s.askTone k d.tone).slot k).intake = (s.slot k).intake := (congrArg SlotUnit.intake slot :)
  have asked := h.askTone k d.tone
  unfold State.denyVerifying
  rw [← bars]
  refine (asked.rest ((asked k).drum_tests (by rw [intake]; exact ho))).slotQuiet ?_
  simp [State.setIntake, State.modIntake]

/-- A grant at an intake in VERIFYING opens the session and frees the drum (R19, R108). -/
theorem State.Guarded.grantSession (h : s.Guarded) {k : Slot} (hb : (s.slot k).intake.state.busy = true) (n : CardNo)
    (a : Admission) (l : Nat) : (s.grantSession k n a l).Guarded := by
  have asked := h.askTone k .grant
  have intake : ((s.askTone k .grant).slot k).intake = (s.slot k).intake :=
    (congrArg SlotUnit.intake (s.slot_askTone k .grant k) :)
  have opened (x : Session) : (((s.askTone k .grant).setDrumLock k true).setIntake k (.opened x)).Guarded := by
    unfold State.setIntake State.modIntake State.setDrumLock
    rw [State.modSlot_modSlot]
    refine asked.modSlot k { asked k with
      drum := fun _ => .inl rfl
      test := fun ht => absurd ht (by simp [(asked k).no_test_of_busy (by rw [intake]; exact hb)])
      quiet := fun hf => absurd ((asked k).quiet hf) (by rw [intake, hb]; decide)
      idle := fun hi => by cases hi }
  unfold State.grantSession
  exact State.Guarded.evaluateLog (.ite (fun _ => (opened _).lightly k id rfl rfl rfl) fun _ => opened _)

theorem State.Guarded.decideIntake (h : s.Guarded) (k : Slot) (o : LookupOutcome) : (s.decideIntake k o).Guarded := by
  unfold State.decideIntake
  split
  · next e =>
    split
    · exact h.denyVerifying (by simp [e, IntakeState.isOpen]) _
    · exact h.grantSession (by simp [e, IntakeState.busy]) _ _ _
  all_goals exact h

/-- An open session goes on in another form. -/
theorem State.Guarded.openedAgain (h : s.Guarded) {k : Slot} {c : Session} (e : (s.slot k).intake.state = .opened c)
    (c' : Session) : (s.setIntake k (.opened c')).Guarded :=
  h.setIntake (fun _ => by simp [e, IntakeState.busy]) (fun hi => by cases hi) fun _ => .inl rfl

theorem State.Guarded.intakeTurnBegins (h : s.Guarded) (k : Slot) : (s.intakeTurnBegins k).Guarded := by
  unfold State.intakeTurnBegins
  split
  · next c e =>
    have := (h.openedAgain e { c with turnBelongs := true }) k
    rw [State.setIntake, State.modIntake, State.slot_modSlot_same] at this
    exact h.modSlot k (this.alike (.light id rfl rfl rfl))
  all_goals exact h

theorem State.Guarded.chargeTurn (h : s.Guarded) (c : Session) (b : Bool) : (s.chargeTurn c b).Guarded := by
  unfold State.chargeTurn
  exact .ite (fun _ => h.charge _) fun _ => h

theorem State.Guarded.startIdle (h : s.Guarded) (k : Slot) : (s.startIdle k).Guarded := h.lightly k id rfl rfl rfl

theorem State.tryGrant_slots (s : State) : s.tryGrant.slots = s.slots := by
  unfold State.tryGrant
  split
  · rfl
  · split
    · unfold State.grant
      split <;> rfl
    · rfl

theorem State.placeRequest_slots (s : State) (r : Requester) (q : StoreRequest) : (s.placeRequest r q).slots = s.slots :=
  State.tryGrant_slots _

theorem State.takeCharge_slots (s : State) : s.takeCharge.slots = s.slots := by
  unfold State.takeCharge
  split
  · split <;> exact State.placeRequest_slots ..
  · rfl

theorem State.modCached_slots (s : State) (n : CardNo) (f : CacheEntry → CacheEntry) : (s.modCached n f).slots = s.slots := by
  unfold State.modCached; split <;> rfl

/-- A charge leaves the slots (R88). -/
theorem State.chargeTurn_slots (s : State) (c : Session) (b : Bool) : (s.chargeTurn c b).slots = s.slots := by
  unfold State.chargeTurn
  split
  · unfold State.charge
    dsimp only
    split
    · exact (State.takeCharge_slots _).trans (State.modCached_slots ..)
    · exact State.modCached_slots ..
  · rfl

theorem State.Guarded.intakeTurnEnds (h : s.Guarded) (k : Slot) (b : Bool) : (s.intakeTurnEnds k b).Guarded := by
  unfold State.intakeTurnEnds
  split
  · next c e =>
    have charged := h.chargeTurn c b
    have slot : (s.chargeTurn c b).slot k = s.slot k := State.slot_congr (s.chargeTurn_slots c b) k
    exact ((charged.openedAgain (slot ▸ e) _).startIdle k).homeTests k
  · next c r e =>
    have slot : (s.chargeTurn c b).slot k = s.slot k := State.slot_congr (s.chargeTurn_slots c b) k
    exact (h.chargeTurn c b).closeSession (by rw [slot]; exact (h k).drum_tests (by simp [e, IntakeState.isOpen])) _ _
  all_goals exact h

theorem State.Guarded.withdrawCard (h : s.Guarded) (n : CardNo) : (s.withdrawCard n).Guarded := by
  refine h.eachSlot fun k u hu => ?_
  unfold State.withdrawCardAt
  split
  · next c e =>
    have withdrawn := hu.openedAgain e { c with withdrawal := true }
    exact .ite (fun _ => .ite (fun _ => withdrawn.homeTests k) fun _ => withdrawn) fun _ => hu
  all_goals exact hu

/-! ## Fill estimation (R40 to R57) -/

theorem State.Guarded.modFill (h : s.Guarded) (k : Slot) (f : FillRecord → FillRecord) : (s.modFill k f).Guarded :=
  h.lightly k id rfl rfl rfl

theorem State.Guarded.recompute (h : s.Guarded) (k : Slot) : (s.recompute k).Guarded := h.lightly k id rfl rfl rfl

theorem State.Guarded.setEstimate (h : s.Guarded) (k : Slot) (e : Nat) : (s.setEstimate k e).Guarded :=
  (h.modFill k _).recompute k

theorem State.Guarded.evaluateThresholds (h : s.Guarded) (b : Bool) (k : Slot) : (s.evaluateThresholds b k).Guarded := by
  have full : (s.evaluateFull b k).Guarded := by
    unfold State.evaluateFull
    exact .ite (fun _ => h.setFull b k) fun _ => .ite (fun _ => h.changeBar k false rfl) fun _ => h
  unfold State.evaluateThresholds State.evaluateDemand
  dsimp only
  split
  · exact .ite (fun _ => full.raiseDemand _ _ _) fun _ => full
  · exact .ite (fun _ => full.raiseCause _ _) fun _ => full

theorem State.Guarded.recomputeHours (h : s.Guarded) (k : Slot) : (s.recomputeHours k).Guarded := by
  unfold State.recomputeHours
  exact .ite (fun _ => h) fun _ => (h.modFill k _).demandHf _ _

theorem State.Guarded.deposit (h : s.Guarded) (k : Slot) : (s.deposit k).Guarded :=
  (((h.modFill k _).setEstimate k _).evaluateThresholds true k).recomputeHours k

theorem State.Guarded.silentBurst (h : s.Guarded) (k : Slot) : (s.silentBurst k).Guarded := by
  unfold State.silentBurst
  exact .ite (fun _ => (h.modFill k _).alert _) fun _ => h.modFill k _

theorem State.Guarded.blendReading (h : s.Guarded) (k : Slot) (c : RangeCause) (r : Reading) : (s.blendReading k c r).Guarded := by
  unfold State.blendReading
  refine State.Guarded.recomputeHours (State.Guarded.evaluateThresholds (State.Guarded.recompute ?_ k) false k) k
  exact State.Guarded.changeBar (h.modFill k _) k false rfl

theorem State.Guarded.liftFill (h : s.Guarded) (k : Slot) (b : Bool) : (s.liftFill k b).Guarded := by
  unfold State.liftFill
  exact .ite (fun _ => ((h.setEstimate k 0).evaluateThresholds false k).recomputeHours k) fun _ => h

theorem State.Guarded.fillSet (h : s.Guarded) (k : Slot) (v : Nat) : (s.fillSet k v).Guarded := by
  unfold State.fillSet
  refine State.Guarded.recomputeHours (State.Guarded.evaluateThresholds (State.Guarded.recompute ?_ k) false k) k
  exact State.Guarded.changeBar (h.modFill k _) k false rfl

theorem State.Guarded.hourlyUpdate (h : s.Guarded) : s.hourlyUpdate.Guarded := by
  refine State.Guarded.repeatDemand (h.eachSlot fun k u hu => ?_)
  unfold State.rateUpdate
  exact .ite (fun _ => (hu.modFill k _).recomputeHours k) fun _ => hu

end Sys2Proof.Machine
end

section
/-! SUPPORT. The lock rules (O11) through the Ranging Unit, the pit lines, the lookups, the Batch Engine and the Card Store
Interface (R19, R31 to R38, R20 to R30, R80 to R86, R144 to R150, R184). -/

namespace Sys2Proof.Machine

variable {s : State}

/-! ## The Ranging Unit and the end of a lift (R31 to R38, R149, R150) -/

theorem State.Guarded.modRange (h : s.Guarded) (k : Slot) (f : RangeSlot → RangeSlot) : (s.modRange k f).Guarded :=
  h.lightly k id rfl rfl rfl

theorem State.Guarded.answerWaiters (h : s.Guarded) (k : Slot) (o : RangeOutcome) : (s.answerWaiters k o).Guarded := by
  have office : ∀ b : Bool, (if b then s.post .office .rangeResult (encSlot k ++ o.fields) else s).Guarded :=
    fun b => .ite (fun _ => h.post _ _ _) fun _ => h
  exact State.Guarded.modRange (.ite (fun _ => (office _).post _ _ _) fun _ => office _) k _

theorem State.Guarded.postLiftDone (h : s.Guarded) (k : Slot) (c : Custody) (p : Option Nat) :
    (s.postLiftDone k c p).Guarded := by
  unfold State.postLiftDone
  exact .ite (fun _ => (h.post _ _ _).post _ _ _) fun _ => h.post _ _ _

/-- A lift ends with the hatch engaged, for a test of it does not run under custody (R150, R184). -/
theorem State.Guarded.closeLift (h : s.Guarded) {k : Slot} (hk : s.custodyOn k = .closing) (p : Option Nat) :
    (s.closeLift k p).Guarded := by
  have clear {u : State} (hu : u.Guarded) (hc : u.custodyOn k = .closing) : (u.clearCustody k).Guarded :=
    hu.clearCustody (by rw [hc]; decide) fun hr => ((hu k).hatch hr).resolve_left (by rw [hc]; decide)
  have marked : (s.modCustody fun x => { x with recorded := true }).Guarded := h.modCustody ⟨rfl, rfl⟩
  unfold State.closeLift
  dsimp only
  generalize hb : LogBody.lift k (s.slot k).record.fraction s.lift.custody p = body
  have logged := marked.logAppend body
  have closing : ((s.modCustody fun x => { x with recorded := true }).logAppend body).custodyOn k = .closing :=
    ((State.relogged_logAppend _ body).custodyOn k).trans hk
  generalize (s.modCustody fun x => { x with recorded := true }).logAppend body = u at logged closing
  have listed : (if s.lift.custody.orphaned then u else u.addLifted k).Guarded := .ite (fun _ => logged) fun _ => logged.modLift rfl
  have closing' : (if s.lift.custody.orphaned then u else u.addLifted k).custodyOn k = .closing := by
    split <;> exact closing
  have done := (clear listed closing').postLiftDone k s.lift.custody p
  exact .ite (fun _ => done.completeVisit) fun _ => done

theorem State.Guarded.liftReport (h : s.Guarded) (k : Slot) (p : Option Nat) : (s.liftReport k p).Guarded := by
  unfold State.liftReport
  exact .ite (fun hk => h.closeLift hk p) fun _ => h

theorem State.Guarded.reportDiscard (h : s.Guarded) (k : Slot) (c : RangeCause) : (s.reportDiscard k c).Guarded := by
  unfold State.reportDiscard
  exact .ite (fun _ => h.liftReport k none) fun _ => h

theorem State.Guarded.queueRange (h : s.Guarded) (b : Bool) (k : Slot) (c : RangeCause) : (s.queueRange b k c).Guarded := by
  unfold State.queueRange
  exact .ite (fun _ => h) fun _ => .ite (fun _ => h.reportDiscard k c) fun _ => h.modRanging _

theorem State.Guarded.chooseBurst (h : s.Guarded) : s.chooseBurst.Guarded := h.reranged s.reranged_chooseBurst

theorem State.Guarded.requestRange (h : s.Guarded) (k : Slot) (c : RangeCause) : (s.requestRange k c).Guarded :=
  (h.queueRange false k c).chooseBurst

theorem State.Guarded.discardBurst (h : s.Guarded) (k : Slot) (o : RangeOutcome) : (s.discardBurst k o).Guarded := by
  unfold State.discardBurst
  split
  · exact ((h.modRanging _).answerWaiters k o).reportDiscard k _
  · exact h

theorem State.Guarded.removeEntry (h : s.Guarded) (k : Slot) (o : RangeOutcome) : (s.removeEntry k o).Guarded := by
  unfold State.removeEntry
  split
  · exact ((h.modRanging _).answerWaiters k o).reportDiscard k _
  · exact h

theorem State.Guarded.returnBurst (h : s.Guarded) (k : Slot) : (s.returnBurst k).Guarded := by
  unfold State.returnBurst
  split
  · exact (h.modRanging _).queueRange true k _
  · exact h

theorem State.Guarded.removeLift (h : s.Guarded) (k : Slot) : (s.removeLift k).Guarded := by
  unfold State.removeLift
  exact .ite (fun _ => ((h.modRanging _).liftReport k none).answerWaiters k _) fun _ => h

theorem State.Guarded.rangeUnseated (h : s.Guarded) (k : Slot) : (s.rangeUnseated k).Guarded :=
  ((h.discardBurst k .discarded).chooseBurst).removeLift k

theorem State.Guarded.setDue (h : s.Guarded) (k : Slot) : (s.setDue k).Guarded := h.modRange k _

theorem State.Guarded.applyBurst (h : s.Guarded) (b : Burst) : (s.applyBurst b).1.Guarded := by
  unfold State.applyBurst
  split
  · dsimp only
    exact h.blendReading _ _ _
  · exact h.silentBurst _

theorem State.Guarded.completeBurst (h : s.Guarded) (b : Burst) : (s.completeBurst b).Guarded := by
  unfold State.completeBurst
  dsimp only
  have applied := h.applyBurst b
  generalize s.applyBurst b = r at applied
  have timed : ((r.1.setDue b.slot).modRange b.slot fun x => { x with lastBurst := s.now }).Guarded :=
    (applied.setDue b.slot).modRange b.slot _
  refine State.Guarded.chooseBurst (State.Guarded.modRanging (State.Guarded.answerWaiters ?_ b.slot _) _)
  exact .ite (fun _ => timed.liftReport b.slot _) fun _ => timed

theorem State.Guarded.endPing (h : s.Guarded) (b : Burst) (r : Option Nat) : (s.endPing b r).Guarded := by
  unfold State.endPing
  exact .ite (fun _ => h.modRanging _) fun _ => h.completeBurst _

theorem State.Guarded.requestLift (h : s.Guarded) (k : Slot) : (s.requestLift k).Guarded := by
  unfold State.requestLift
  exact State.Guarded.chooseBurst
    (.ite (fun _ => h.queueRange false k .lift) fun _ => (h.queueRange false k .lift).removeLift k)

/-- Custody in RETURNED goes to CLOSING with the hatch engaged but for a test (R149). -/
theorem State.Guarded.releaseCustody (h : s.Guarded) {k : Slot} (hk : s.custodyOn k = .returned) :
    (s.releaseCustody k).Guarded := by
  have entered : (s.enterCustody .closing none).Guarded := by
    refine h.enterCustody (k := k) (by rw [hk]; decide) (fun hr => .inr ?_) (fun hf => by cases hf)
    exact ((h k).hatch hr).resolve_left (by rw [hk]; decide)
  exact entered.requestLift k

/-! ## The pit lines (R20 to R30) -/

theorem State.Guarded.modTrack (h : s.Guarded) (k : Slot) (f : Tracking → Tracking) : (s.modTrack k f).Guarded :=
  h.lightly k id rfl rfl rfl

theorem State.Guarded.drumLeft (h : s.Guarded) (k : Slot) : (s.drumLeft k).Guarded := by
  unfold State.drumLeft
  split
  · exact (h.modTrack k _).intakeTurnBegins k
  all_goals exact h

theorem State.Guarded.drumReachedOpen (h : s.Guarded) (k : Slot) : (s.drumReachedOpen k).Guarded := by
  unfold State.drumReachedOpen
  split
  · exact h.modTrack k _
  all_goals exact h

theorem State.Guarded.drumRecovered (h : s.Guarded) (k : Slot) (b : Bool) (n : Nat) : (s.drumRecovered k b n).Guarded := by
  unfold State.drumRecovered
  exact .ite (fun _ => (h.changeBar k false rfl).alert _) fun _ => h

theorem State.Guarded.endTurn (h : s.Guarded) (k : Slot) (b : Bool) (n : Nat) : (s.endTurn k b n).Guarded := by
  have home := h.modTrack k fun x => { x with drum := .atHome, jamDeadline := none }
  unfold State.endTurn
  refine State.Guarded.drumRecovered (State.Guarded.intakeTurnEnds (State.Guarded.chooseBurst ?_) k b) k b n
  exact .ite (fun _ => (home.deposit k).returnBurst k) fun _ => home

theorem State.Guarded.drumCameHome (h : s.Guarded) (k : Slot) : (s.drumCameHome k).Guarded := by
  unfold State.drumCameHome
  dsimp only
  split
  · exact h
  · exact h.endTurn k _ _
  · exact h.endTurn k _ _

/-- A slot whose test, if one ran, has ended with its lock engaged (R184). -/
theorem SlotUnit.Guarded.testEnded {c : CustodyState} {u : SlotUnit} (h : u.Guarded c) : u.testEnded.Guarded c :=
  { h with
    drum := fun hr => by
      obtain ⟨hd, hn⟩ : u.locks.drumReleased = true ∧ u.locks.tests .drum = false := by simpa [SlotUnit.testEnded] using hr
      exact .inl ((h.drum hd).resolve_right (by simp [hn]))
    hatch := fun hr => by
      obtain ⟨hh, hn⟩ : u.locks.hatchReleased = true ∧ u.locks.tests .hatch = false := by simpa [SlotUnit.testEnded] using hr
      exact .inl ((h.hatch hh).resolve_right (by simp [hn]))
    test := fun ht => by cases ht }

theorem State.Guarded.endTest (h : s.Guarded) (k : Slot) : (s.endTest k).Guarded := by
  rw [State.endTest_eq]
  exact h.modSlot k (h k).testEnded

theorem State.Guarded.endHatchTest (h : s.Guarded) (k : Slot) : (s.endHatchTest k).Guarded := by
  unfold State.endHatchTest
  split
  · exact h.endTest k
  all_goals exact h

theorem State.Guarded.containerOut (h : s.Guarded) (k : Slot) : (s.containerOut k).Guarded := (h.setBar k rfl).alert _

/-- The lift begins with the hatch free (R146). -/
theorem State.Guarded.raise (h : s.Guarded) {k : Slot} (hk : s.custodyOn k = .granted) : (s.raise k).Guarded := by
  have entered : (s.enterCustody .raised (some (s.now + Config.liftOvertimeMs))).Guarded :=
    h.enterCustody (k := k) (by rw [hk]; decide) (fun _ => .inl rfl) fun _ => (h k).quiet (by rw [hk]; rfl)
  exact entered.postLiftState k _

theorem State.Guarded.platformLeft (h : s.Guarded) (k : Slot) : (s.platformLeft k).Guarded := by
  unfold State.platformLeft
  refine State.Guarded.rangeUnseated (State.Guarded.endHatchTest ?_ k) k
  split
  · next hk => exact h.raise hk
  · exact h
  all_goals exact h.containerOut k

/-- The thresholds leave the Lift Controller where no custody waits on the slot (R51, R114). -/
theorem State.lift_evaluateThresholds {k : Slot} (h : s.custodyOn k ≠ .waiting) (b : Bool) :
    (s.evaluateThresholds b k).lift = s.lift := by
  have full : (s.evaluateFull b k).lift = s.lift := by
    unfold State.evaluateFull State.setFull
    dsimp only
    split
    · split
      · exact (s.barred_changeBar ..).lift
      · have changed := s.barred_changeBar k .full true
        exact ((s.ended_setBar k .full).lift (by rw [changed.custodyOn]; exact h)).trans changed.lift
    · split
      · exact (s.barred_changeBar ..).lift
      · rfl
  unfold State.evaluateThresholds
  exact (congrArg State.lift (State.evaluateDemand_frame ..) :).trans full

theorem State.lift_recomputeHours (s : State) (k : Slot) : (s.recomputeHours k).lift = s.lift :=
  (congrArg State.lift (s.recomputeHours_frame k) :)

theorem State.lift_liftFill {k : Slot} (h : s.custodyOn k ≠ .waiting) (b : Bool) : (s.liftFill k b).lift = s.lift := by
  unfold State.liftFill
  split
  · rw [State.lift_recomputeHours, State.lift_evaluateThresholds (s := s.setEstimate k 0) h]
    rfl
  · rfl

theorem State.lift_liftDemand (s : State) (k : Slot) (b : Bool) : (s.liftDemand k b).lift = s.lift := by
  unfold State.liftDemand
  split
  · exact (s.barred_clearDemand k .lift).lift
  · rfl

theorem State.Guarded.liftDemand (h : s.Guarded) (k : Slot) (b : Bool) : (s.liftDemand k b).Guarded := by
  unfold State.liftDemand
  exact .ite (fun _ => h.clearDemand k _) fun _ => h

/-- The container is back: the hatch is engaged and custody returned, or released where it is ORPHANED (R148, R153). -/
theorem State.Guarded.returned (h : s.Guarded) {k : Slot} (hk : s.custodyOn k = .raised) : (s.returned k).Guarded := by
  have entered : ((s.setHatch k false).enterCustody .returned none).Guarded :=
    (h.engageHatch k).enterCustody (k := k) (fun e => absurd (hk.symm.trans e) (by decide))
      (fun hr => absurd hr (by simp [State.setHatch])) (fun hf => by cases hf)
  have custody : (((s.setHatch k false).enterCustody .returned none).dropTip k).custodyOn k = .returned := by
    refine ((State.relogged_evaluateLog _).custodyOn k).trans ?_
    exact if_pos (State.custody_slot_of (s := s) (by rw [hk]; decide))
  unfold State.returned
  dsimp only
  generalize s.lift.custody.qualifying = tipped
  have dropped := entered.dropTip k
  generalize ((s.setHatch k false).enterCustody .returned none).dropTip k = u at custody dropped
  have outcome := (dropped.liftFill k tipped).liftDemand k tipped
  have lift : ((u.liftFill k tipped).liftDemand k tipped).lift = u.lift :=
    (State.lift_liftDemand ..).trans (State.lift_liftFill (by rw [custody]; decide) tipped)
  have custody' : ((u.liftFill k tipped).liftDemand k tipped).custodyOn k = .returned := by
    rw [← custody]
    unfold State.custodyOn
    rw [lift]
  exact .ite (fun _ => outcome.releaseCustody custody') fun _ => outcome.postCustody _ _ _

theorem State.Guarded.seated (h : s.Guarded) (k : Slot) : (s.seated k).Guarded := by
  unfold State.seated
  exact .ite (fun _ => (h.changeBar k false rfl).alert _) fun _ => h

theorem State.Guarded.platformSeated (h : s.Guarded) (k : Slot) : (s.platformSeated k).Guarded := by
  unfold State.platformSeated
  exact State.Guarded.chooseBurst (.ite (fun hk => (h.seated k).returned hk) fun _ => h.seated k)

theorem State.Guarded.waterRose (h : s.Guarded) (k : Slot) : (s.waterRose k).Guarded := by
  unfold State.waterRose
  have dry := h.modTrack k fun x => { x with floodHold := none }
  exact State.Guarded.removeEntry (.ite (fun _ => dry) fun _ => ((dry.modTrack k _).setBar k rfl).alert _) k _

theorem State.Guarded.waterFell (h : s.Guarded) (k : Slot) : (s.waterFell k).Guarded := by
  unfold State.waterFell
  exact .ite (fun _ => h.modTrack k _) fun _ => h

theorem State.Guarded.tiltOn (h : s.Guarded) (k : Slot) : (s.tiltOn k).Guarded := by
  unfold State.tiltOn
  exact .ite (fun _ => h.modTrack k _) fun _ => h

theorem State.Guarded.tiltOff (h : s.Guarded) (k : Slot) : (s.tiltOff k).Guarded := by
  unfold State.tiltOff
  split
  · exact .ite (fun _ => (h.dropTip k).modCustody ⟨rfl, rfl⟩) fun _ => h
  · exact h

theorem State.Guarded.deliverEdge (h : s.Guarded) (k : Slot) (l : Line) (b : Bool) : (s.deliverEdge k l b).Guarded := by
  unfold State.deliverEdge
  refine .ite (fun _ => h) fun _ => ?_
  split
  · exact h.drumLeft k
  · exact h.drumCameHome k
  · exact h.drumReachedOpen k
  · exact h
  · exact h.platformLeft k
  · exact h.platformSeated k
  · exact h.waterRose k
  · exact h.waterFell k
  · exact h.tiltOn k
  · exact h.tiltOff k

/-! ## Lookups (R80 to R86, R102, R114, R140) -/

theorem State.Guarded.answerQuery (h : s.Guarded) (n : CardNo) (o : LookupOutcome) : (s.answerQuery n o).Guarded := by
  unfold State.answerQuery
  split
  · exact (h.modResolver _).post _ _ _
  · exact h

theorem State.Guarded.decideCrew (h : s.Guarded) (o : LookupOutcome) : (s.decideCrew o).Guarded := by
  unfold State.decideCrew
  split
  · exact h
  · split
    · unfold State.openCrew
      exact (State.Guarded.evaluateLog (State.Guarded.modLift (h.modLift rfl) rfl)).post _ _ _
    · exact State.Guarded.post (h.modLift rfl) _ _ _

theorem State.Guarded.deliver (h : s.Guarded) (l : Lookup) (o : LookupOutcome) : (s.deliver l o).Guarded := by
  unfold State.deliver
  split
  · exact h.decideIntake _ o
  · exact h.decideCrew o
  · exact h.answerQuery _ o

theorem State.Guarded.dropLookup (h : s.Guarded) (q : LookupRequester) : (s.dropLookup q).Guarded := h.modResolver _

theorem State.Guarded.offline (h : s.Guarded) (l : Lookup) : (s.offline l).Guarded := (h.touchCache _).deliver l _

theorem State.Guarded.walkOne (h : s.Guarded) (l : Lookup) : (s.walkOne l).Guarded := by
  unfold State.walkOne
  refine .ite (fun _ => h) fun _ => ?_
  split
  · exact ((h.dropLookup _).touchCache _).deliver l _
  · exact .ite (fun _ => (h.modResolver _).placeRequest _ _) fun _ => h

theorem State.Guarded.serviceWalk (h : s.Guarded) : s.serviceWalk.Guarded :=
  State.Guarded.foldl (fun _ l hu => hu.walkOne l) _ h

theorem State.Guarded.placeLookup (h : s.Guarded) (l : Lookup) : (s.placeLookup l).Guarded := by
  unfold State.placeLookup
  refine .ite (fun _ => h.offline l) fun _ => .ite (fun _ => (h.modResolver _).serviceWalk) fun _ => ?_
  split
  · exact (h.touchCache _).deliver l _
  · exact (h.modResolver _).serviceWalk

theorem State.Guarded.refillAnswer (h : s.Guarded) (r : Refill) (o : LookupOutcome) : (s.refillAnswer r o).Guarded := by
  unfold State.refillAnswer
  refine State.Guarded.serviceWalk ?_
  split
  · exact ((h.modResolver _).dropLookup _).deliver _ o
  · exact h.modResolver _

theorem State.Guarded.refillFound (h : s.Guarded) (r : Refill) (x : CardRecord) (p : Position) :
    (s.refillFound r x p).Guarded := by
  unfold State.refillFound
  exact State.Guarded.refillAnswer (.ite (fun _ => h) fun _ => h.fillCache _) r _

theorem State.Guarded.refillSearch (h : s.Guarded) (r : Refill) (st : SearchStep) : (s.refillSearch r st).Guarded := by
  unfold State.refillSearch
  split
  · exact (h.modResolver _).placeRequest _ _
  · exact (h.endWork _).refillFound _ _ _
  · exact (h.endWork _).refillAnswer _ _
  · exact (h.endWork _).refillAnswer _ _

theorem State.Guarded.refillHanded (h : s.Guarded) (o : Handed) : (s.refillHanded o).Guarded := by
  unfold State.refillHanded
  split
  · exact h.refillSearch _ _
  · exact h

theorem State.Guarded.lossOne (h : s.Guarded) (l : Lookup) : (s.lossOne l).Guarded := (h.dropLookup _).offline l

theorem State.Guarded.lookupsLoss (h : s.Guarded) : s.lookupsLoss.Guarded := by
  unfold State.lookupsLoss
  refine State.Guarded.foldl (fun _ l hu => hu.lossOne l) _ ?_
  split
  · dsimp only
    split
    · exact (h.modResolver _).lossOne _
    · exact h.modResolver _
  · exact h

theorem State.Guarded.withdrawLookup (h : s.Guarded) (q : LookupRequester) : (s.withdrawLookup q).Guarded :=
  (h.dropLookup q).modResolver _

/-- An IDLE intake verifies a card: with an empty bar set no test runs there and no custody stands (R13, R102). -/
theorem State.Guarded.verify (h : s.Guarded) {k : Slot} (hi : (s.slot k).intake.state = .idle) (n : CardNo) :
    (s.setIntake k (.verifying n)).Guarded := by
  have empty := (h k).idle hi
  have service : (s.slot k).bars.service = false := by
    cases e : (s.slot k).bars.service with
    | false => rfl
    | true => simp [BarSet.isEmpty, e] at empty
  have custody : s.custodyOn k = .none := by
    by_contra hc
    simp [BarSet.isEmpty, ((h k).custody hc).2] at empty
  have test := (h k).no_test service
  exact h.modSlot k { h k with
    drum := fun hd => .inr ((h k).drum_tests (by rw [hi]; rfl) hd)
    test := fun ht => absurd ht (by simp [test])
    quiet := fun hf => absurd hf (by rw [custody]; decide)
    idle := fun e => by cases e }

theorem State.Guarded.takeCard (h : s.Guarded) (k : Slot) (n : CardNo) : (s.takeCard k n).Guarded := by
  unfold State.takeCard
  split
  · split
    · exact h.askTone k _
    · exact h
  · next hi => exact .ite (fun _ => h.askTone k _) fun _ => (h.verify hi n).placeLookup _
  all_goals exact h

theorem State.Guarded.takeAnswer (h : s.Guarded) (k : Slot) (x : ReaderFrame) : (s.takeAnswer k x).Guarded := by
  unfold State.takeAnswer
  dsimp only
  split
  · exact h.answered k
  · exact .ite (fun _ => h.answered k) fun _ => (h.answered k).takeCard k _

/-- The preemption request of custody that stands on the slot (R114, R145). -/
theorem State.Guarded.preempt (h : s.Guarded) {k : Slot} (hk : s.custodyOn k ≠ .none) : (s.preempt k).Guarded := by
  unfold State.preempt
  split
  · next n e =>
    have slot : (s.withdrawLookup (.intake k)).slot k = s.slot k := rfl
    exact (h.withdrawLookup _).denyVerifying (by rw [slot, e]; rfl) _
  · exact .ite (fun _ => h.endSession k _) fun _ => h.endCustody hk _
  · exact h.endCustody hk _
  all_goals next e => exact h.slotQuiet (by rw [e]; rfl)

/-! ## The Batch Engine (chapter 10) -/

theorem State.Guarded.enterCommit (h : s.Guarded) (bs : List Byte) (o : Bool) (i : Nat) : (s.enterCommit bs o i).Guarded := by
  unfold State.enterCommit
  split
  · exact h.modBatch _
  · exact (h.modBatch _).placeRequest _ _

theorem State.Guarded.closeEntry (h : s.Guarded) (bs : List Byte) (o : Bool) : (s.closeEntry bs o).Guarded := by
  unfold State.closeEntry
  exact .ite (fun _ => (h.modBatch _).enterCommit _ _ _) fun _ => h.modBatch _

theorem State.Guarded.framedStart (h : s.Guarded) (x : Byte) : (s.framedStart x).Guarded := by
  unfold State.framedStart
  split
  · exact .ite (fun _ => h.closeEntry _ _) fun _ => (h.closeEntry _ _).modBatch _
  all_goals exact h.modBatch _

theorem State.Guarded.parseByte (h : s.Guarded) (x : Byte) : (s.parseByte x).Guarded := by
  have packed : (s.packedParse x).Guarded := by
    unfold State.packedParse
    dsimp only
    split
    · exact .ite (fun _ => (h.modBatch _).closeEntry _ _) fun _ => h.modBatch _
    all_goals exact h.modBatch _
  have framed : (s.framedParse x).Guarded := by
    unfold State.framedParse
    exact .ite (fun _ => .ite (fun _ => h.modBatch _) fun _ => h.framedStart x) fun _ =>
      .ite (fun _ => h.modBatch _) fun _ => h.modBatch _
  unfold State.parseByte
  exact .ite (fun _ => h.modBatch _) fun _ => .ite (fun _ => packed) fun _ => framed

theorem State.Guarded.parse (h : s.Guarded) (bs : List Byte) : (s.parse bs).Guarded := by
  induction bs generalizing s with
  | nil => exact h.modBatch _
  | cons x xs ih =>
    unfold State.parse
    exact .ite (fun _ => (h.parseByte x).modBatch _) fun _ => ih (h.parseByte x)

theorem State.Guarded.runParser (h : s.Guarded) : s.runParser.Guarded := by
  unfold State.runParser
  exact .ite (fun _ => h) fun _ => h.parse _

theorem State.Guarded.reportBatch (h : s.Guarded) : s.reportBatch.Guarded := (h.post _ _ _).modBatch _

theorem State.Guarded.endIfDone (h : s.Guarded) : s.endIfDone.Guarded := by
  unfold State.endIfDone
  exact .ite (fun _ => h.reportBatch) fun _ => h

theorem State.Guarded.commitFreed (h : s.Guarded) : s.commitFreed.Guarded := by
  unfold State.commitFreed
  split
  · exact (((h.modBatch _).enterCommit _ _ _).runParser).endIfDone
  all_goals exact h.runParser.endIfDone

theorem State.Guarded.batchCache (h : s.Guarded) (e : Entry) (w : Option CardRecord) (m : Option (CardNo × Position)) :
    (s.batchCache e w m).Guarded := by
  unfold State.batchCache
  split
  · exact h.modCached _ _
  · exact h.modCached _ _
  · exact h.modCached _ _
  · exact h.modCached _ _
  · dsimp only
    split
    · exact (((h.dropCached _).modResolver _).modCached _ _).modResolver _
    · exact (h.dropCached _).modResolver _
  all_goals exact h

theorem State.Guarded.batchWithdraw (h : s.Guarded) (e : Entry) : (s.batchWithdraw e).Guarded := by
  unfold State.batchWithdraw
  split
  · exact h.withdrawCard _
  · exact h.withdrawCard _
  all_goals exact h

theorem State.Guarded.endCommitWork (h : s.Guarded) : s.endCommitWork.Guarded := (h.endWork .batch).serviceWalk

theorem State.Guarded.applyEntry (h : s.Guarded) (c : Commit) (m : Option (CardNo × Position)) : (s.applyEntry c m).Guarded := by
  unfold State.applyEntry
  exact ((((h.batchCache _ _ _).batchWithdraw _).endCommitWork).modBatch _).commitFreed

theorem State.Guarded.rejectEntry (h : s.Guarded) (c : Commit) (r : Rejection) : (s.rejectEntry c r).Guarded :=
  ((h.endCommitWork).modBatch _).commitFreed

theorem State.Guarded.commitRequest (h : s.Guarded) (c : Commit) (ph : CommitPhase) (op : StoreOp) :
    (s.commitRequest c ph op).Guarded := (h.modBatch _).placeRequest _ _

theorem State.Guarded.entrySearched (h : s.Guarded) (c : Commit) (e : SearchEnd) : (s.entrySearched c e).Guarded := by
  have add (w : CardRecord) : (s.addSearched c w e).Guarded := by
    unfold State.addSearched
    split
    · exact h.commitRequest _ _ _
    · split
      · exact h.commitRequest _ _ _
      · exact h.rejectEntry _ _
    all_goals exact h.commitRequest _ _ _
  have change (f : CardRecord → CardRecord) : (s.changeSearched c f e).Guarded := by
    unfold State.changeSearched
    split
    · exact h.commitRequest _ _ _
    all_goals exact h.rejectEntry _ _
  have revoke : (s.revokeSearched c e).Guarded := by
    unfold State.revokeSearched
    split
    · split <;> exact h.commitRequest _ _ _
    all_goals exact h.rejectEntry _ _
  unfold State.entrySearched
  split
  · exact add _
  · exact revoke
  all_goals exact change _

theorem State.Guarded.scanned (h : s.Guarded) (c : Commit) (p q : Position) (r : Option CardRecord) :
    (s.scanned c p q r).Guarded := by
  unfold State.scanned
  split
  · exact h.commitRequest _ _ _
  · split <;> exact h.commitRequest _ _ _

theorem State.Guarded.commitHanded (h : s.Guarded) (t : Transaction) (o : Handed) : (s.commitHanded t o).Guarded := by
  unfold State.commitHanded
  split
  · exact h
  · split
    · split
      · exact h.commitRequest _ _ _
      · exact h.entrySearched _ _
    · exact h.applyEntry _ _
    · exact h.commitRequest _ _ _
    · exact h.applyEntry _ _
    · exact h.scanned _ _ _ _
    · exact h.applyEntry _ _
    · exact h.commitRequest _ _ _
    · exact h.applyEntry _ _
    · exact h

theorem State.Guarded.withdrawBatch (h : s.Guarded) : s.withdrawBatch.Guarded := by
  unfold State.withdrawBatch
  exact h.same rfl rfl

theorem State.Guarded.abortBatch (h : s.Guarded) : s.abortBatch.Guarded := by
  unfold State.abortBatch
  exact State.Guarded.endIfDone
    (.ite (fun _ => ((h.modBatch _).withdrawBatch).modBatch _) fun _ => h.modBatch _)

theorem State.Guarded.batchLoss (h : s.Guarded) : s.batchLoss.Guarded := by
  unfold State.batchLoss
  exact .ite (fun _ => h) fun _ => (h.modBatch _).reportBatch

/-! ## The Card Store Interface (R64 to R74) -/

theorem State.Guarded.putItem (h : s.Guarded) (t : Transaction) : (s.putItem t).Guarded := by
  unfold State.putItem
  split
  · exact h.same rfl rfl
  · exact h

theorem State.Guarded.cutOffItem (h : s.Guarded) (t : Transaction) : (s.cutOffItem t).Guarded := by
  unfold State.cutOffItem
  split
  · exact h.same rfl rfl
  · exact h

theorem State.Guarded.applyFate (h : s.Guarded) (w : WriteFate) (t : Transaction) : (s.applyFate w t).Guarded := by
  unfold State.applyFate
  split
  · exact h
  · exact h.putItem t
  · exact h.cutOffItem t

theorem State.Guarded.postStoreState (h : s.Guarded) (a b : StoreState) (c : StoreCause) : (s.postStoreState a b c).Guarded :=
  h.post _ _ _

theorem State.Guarded.storeOnline (h : s.Guarded) (x : Header) (p : StoreState) (c : StoreCause) :
    (s.storeOnline x p c).Guarded := (((h.modStore _).flushCache).alert _).post _ _ _

theorem State.Guarded.lossFor (h : s.Guarded) (r : Requester) : (s.lossFor r).Guarded := by
  unfold State.lossFor
  split
  · exact h.lookupsLoss
  · exact h.chargesLoss
  · exact h.batchLoss

theorem State.Guarded.storeLoss (h : s.Guarded) (r : Option Requester) : (s.storeLoss r).Guarded := by
  have lost : s.arbiterLoss.Guarded := by
    unfold State.arbiterLoss
    exact h.same rfl rfl
  exact State.Guarded.foldl (fun _ q hu => hu.lossFor q) _ lost

theorem State.Guarded.storeFault (h : s.Guarded) (t : Transaction) (f : Failure) : (s.storeFault t f).Guarded :=
  ((((h.modStore _).alert _).post _ _ _).storeLoss _).lossFor _

theorem State.Guarded.formatHanded (h : s.Guarded) : s.formatHanded.Guarded := by
  unfold State.formatHanded
  split
  · exact .ite (fun _ => (h.storeOnline _ _ _).endWork _) fun _ => (h.modStore _).placeRequest _ _
  · exact h

theorem State.Guarded.startFormat (h : s.Guarded) : s.startFormat.Guarded :=
  (((((h.modStore _).flushCache).post _ _ _).storeLoss none).modStore _).placeRequest _ _

theorem State.Guarded.damageAlert (h : s.Guarded) (t : Transaction) (o : Handed) : (s.damageAlert t o).Guarded := by
  unfold State.damageAlert
  dsimp only
  split
  · exact h.alert _
  · exact h.alert _
  all_goals exact h

theorem State.Guarded.handOver (h : s.Guarded) (t : Transaction) (o : Handed) : (s.handOver t o).Guarded := by
  unfold State.handOver
  split
  · exact h.refillHanded o
  · exact h.chargeHanded t o
  · exact .ite (fun _ => h.formatHanded) fun _ => h.commitHanded t o

theorem State.Guarded.complete (h : s.Guarded) (t : Transaction) (bs : List Byte) : (s.complete t bs).Guarded :=
  (((h.putItem t).damageAlert t _).tryGrant).handOver t _

theorem State.Guarded.answerTransaction (h : s.Guarded) (a : StoreAnswer) (t : Transaction) :
    (s.answerTransaction a t).Guarded := by
  have left : { s with arbiter := { s.arbiter with inFlight := none } : State }.Guarded := h.same rfl rfl
  unfold State.answerTransaction
  dsimp only
  split
  · exact left.complete t _
  · exact State.Guarded.storeFault (.ite (fun _ => left.applyFate _ t) fun _ => left) t _
  · exact .ite (fun _ => left.complete t _) fun _ => .ite (fun _ => (left.modStore _).complete t _) fun _ => left.storeFault t _

theorem State.Guarded.timeoutTransaction (h : s.Guarded) (w : WriteFate) (t : Transaction) :
    (s.timeoutTransaction w t).Guarded := by
  have left : { s.elapseTo (t.start + Config.storeMs) with arbiter := { s.arbiter with inFlight := none } : State }.Guarded :=
    h.same rfl rfl
  unfold State.timeoutTransaction
  exact State.Guarded.storeFault (.ite (fun _ => left.applyFate w t) fun _ => left) t _

end Sys2Proof.Machine
end

section
/-! SUPPORT. The lock rules (O11) through every command and every step (R18, R19, R144, R184). -/

namespace Sys2Proof.Machine

variable {s : State}

/-! ## Requests (R141, R179) -/

/-- A request handler that keeps the lock rules. -/
def keepsGuarded (g : Taken → State → State) : Prop := ∀ (x : Taken) (u : State), u.Guarded → (g x u).Guarded

theorem State.Guarded.popRequest (h : s.Guarded) (p : Port) (f : List Byte) : (s.popRequest p f).Guarded := by
  unfold State.popRequest State.restartLink
  dsimp only
  split
  · refine .ite (fun _ => h.same rfl rfl) fun _ => State.Guarded.modLift ?_ rfl
    exact h.same rfl rfl
  · exact h.same rfl rfl

theorem State.Guarded.takeRow (h : s.Guarded) (p : Port) (row : RequestRow) {g : Taken → State → State}
    (hg : keepsGuarded g) : (s.takeRow p row g).Guarded := by
  unfold State.takeRow
  split
  · exact h
  · exact .ite (fun _ => hg _ _ (h.popRequest p _)) fun _ => h

theorem keepsGuarded_checkKind (k : RequestKind) {g : Taken → State → State} (hg : keepsGuarded g) :
    keepsGuarded (State.checkKind k g) := fun x u hu =>
  .ite (fun _ => hu.refuse x _) fun _ => .ite (fun _ => hu.refuse x _) fun _ => hg x u hu

theorem State.Guarded.takeKind (h : s.Guarded) (p : Port) (k : RequestKind) {g : Taken → State → State}
    (hg : keepsGuarded g) : (s.takeKind p k g).Guarded := h.takeRow p _ (keepsGuarded_checkKind k hg)

theorem State.Guarded.unknownRequest (h : s.Guarded) (p : Port) : (s.takeUnknown p).Guarded := by
  unfold State.takeUnknown
  split
  · exact h
  · exact h.takeRow p _ fun x u hu => .ite (fun _ => hu.refuse x _) fun _ => hu.refuse x _

/-! ## Container Table, clock, demand and log (chapters 1, 6, 7, 11) -/

theorem State.Guarded.slotQuery (h : s.Guarded) (x : Taken) : (s.slotQuery x).Guarded := by
  unfold State.slotQuery
  split
  · exact h.answer x _ _
  · exact h.refuse x _

theorem State.Guarded.recomputePeriod (h : s.Guarded) (c : PeriodCause) : (s.recomputePeriod c).Guarded := by
  unfold State.recomputePeriod
  refine .ite (fun _ => State.Guarded.post ?_ _ _ _) fun _ => h
  exact h.same rfl rfl

theorem State.Guarded.moveDue (h : s.Guarded) (k : Slot) : (s.moveDue k).Guarded := by
  unfold State.moveDue
  exact .ite (fun _ => h) fun _ => .ite
    (fun _ => .ite (fun _ => h.setDue k) fun _ => (h.setDue k).requestRange k _) fun _ => h.modRange k _

theorem State.Guarded.stationConfig (h : s.Guarded) (x : Taken) : (s.stationConfig x).Guarded := by
  unfold State.stationConfig
  split
  · next c _ =>
    have stored : { s with config := c : State }.Guarded := h.same rfl rfl
    unfold State.applyConfig
    exact (State.Guarded.recomputePeriod (.ite (fun _ => stored) fun _ => stored.eachSlot fun k _ hu => hu.moveDue k) _).answer
      x _ _
  · exact h.refuse x _

theorem State.Guarded.startTurn (h : s.Guarded) (d : DrumState) (k : Slot) : (s.startTurn d k).Guarded := h.modTrack k _

theorem State.Guarded.joinRotation (h : s.Guarded) (k : Slot) : (s.joinRotation k).Guarded := by
  unfold State.joinRotation
  exact .ite (fun _ => h.wakeBus) fun _ => h

theorem State.Guarded.configureBars (h : s.Guarded) (k : Slot) : (s.configureBars k).Guarded := by
  have out : (if (s.slot k).accepted .platform then s else s.changeBar k .out true).Guarded :=
    .ite (fun _ => h) fun _ => h.changeBar k true rfl
  unfold State.configureBars
  exact .ite (fun _ => (out.modTrack k _).changeBar k true rfl) fun _ => out

theorem State.Guarded.configureAlerts (h : s.Guarded) (k : Slot) : (s.configureAlerts k).Guarded := by
  have out : (if (s.slot k).accepted .platform then s else s.alert (.outUnexpected k (s.custodyOn k))).Guarded :=
    .ite (fun _ => h) fun _ => h.alert _
  unfold State.configureAlerts
  exact .ite (fun _ => (out.alert _).removeEntry k _) fun _ => out

theorem State.Guarded.configureDrum (h : s.Guarded) (k : Slot) : (s.configureDrum k).Guarded := by
  unfold State.configureDrum
  exact .ite (fun _ => h.modTrack k _) fun _ => h.startTurn _ k

theorem State.Guarded.configureSlot (h : s.Guarded) (k : Slot) (r : SlotRecord) : (s.configureSlot k r).Guarded := by
  have configured : (s.modSlot k fun u =>
      { u with configured := true, record := r, fill := {}, track := {}, range := { lastBurst := s.now } }).Guarded :=
    h.lightly k (fun _ => rfl) rfl rfl rfl
  have due := ((configured.recompute k).changeBar k (b := .unmeasured) true rfl).setDue k
  have lines := (((due.queueRange false k .office).configureBars k).configureAlerts k).configureDrum k
  exact ((lines.evaluateLog.evaluateThresholds false k).joinRotation k).chooseBurst

theorem State.Guarded.keepGeometry (h : s.Guarded) (old : SlotRecord) (k : Slot) : (s.keepGeometry old k).Guarded := by
  unfold State.keepGeometry
  exact State.Guarded.recomputeHours
    (.ite (fun _ => h.recompute k) fun _ => (h.recompute k).evaluateThresholds false k) k

theorem State.Guarded.changeGeometry (h : s.Guarded) (k : Slot) : (s.changeGeometry k).Guarded := by
  have dropped := (((h.modFill k fun x => { x with e := 0, h := 0, measured := false, silent := 0 }).changeBar k
    (b := .unmeasured) true rfl).discardBurst k .discarded).answerWaiters k .discarded
  exact ((((dropped.chooseBurst).requestRange k .office).recompute k).evaluateThresholds false k).recomputeHours k

theorem State.Guarded.changeReader (h : s.Guarded) (old : SlotRecord) (k : Slot) : (s.changeReader old k).Guarded := by
  unfold State.changeReader
  exact .ite (fun _ => h) fun _ => .ite (fun _ => h.joinRotation k) fun _ => h.modReader k _

theorem State.Guarded.reconfigureSlot (h : s.Guarded) (k : Slot) (r : SlotRecord) : (s.reconfigureSlot k r).Guarded := by
  have stored : (s.modSlot k fun u => { u with record := r }).Guarded := h.lightly k id rfl rfl rfl
  unfold State.reconfigureSlot
  dsimp only
  have effects : (if (s.slot k).record.geometry = r.geometry then
      (s.modSlot k fun u => { u with record := r }).keepGeometry (s.slot k).record k
      else (s.modSlot k fun u => { u with record := r }).changeGeometry k).Guarded :=
    .ite (fun _ => stored.keepGeometry _ k) fun _ => stored.changeGeometry k
  exact State.Guarded.changeReader (.ite (fun _ => effects) fun _ => effects.evaluateLog) _ k

theorem State.Guarded.slotConfig (h : s.Guarded) (x : Taken) : (s.slotConfig x).Guarded := by
  unfold State.slotConfig
  split
  · exact .ite (fun _ => h.refuse x _) fun _ =>
      (State.Guarded.ite (fun _ => h.reconfigureSlot _ _) fun _ => h.configureSlot _ _).answer x _ _
  · exact h.refuse x _

/-- A slot out of service has both locks engaged and no custody (R7). -/
theorem State.Guarded.removeSlot (h : s.Guarded) {k : Slot} (hk : s.custodyOn k = .none) : (s.removeSlot k).Guarded := by
  have custody (j : Slot) : (s.removeSlot k).custodyOn j = s.custodyOn j := (State.ranged_removeSlot hk).custodyOn j
  intro j
  rw [custody]
  by_cases e : j = k
  · subst e
    rw [State.slot_removeSlot hk, hk]
    exact {
      drum := fun hd => by cases hd
      hatch := fun hh => by cases hh
      test := fun ht => by cases ht
      service := fun hs => by cases hs
      custody := fun hc => absurd rfl hc
      quiet := fun hf => by cases hf
      idle := fun _ => rfl }
  · exact (h j).alike (State.slot_removeSlot_other hk e).alike

theorem State.Guarded.slotRemove (h : s.Guarded) (x : Taken) : (s.slotRemove x).Guarded := by
  unfold State.slotRemove
  split
  · next k _ =>
    refine .ite (fun _ => h.refuse x _) fun hb => .ite (fun _ => h.refuse x _) fun _ => State.Guarded.answer ?_ x _ _
    have idle : s.custodyOn k = .none := by
      simp only [State.slotBusy, Bool.or_eq_true, not_or] at hb
      simpa using hb.2
    exact h.removeSlot idle
  · exact h.refuse x _

theorem State.Guarded.profileWrite (h : s.Guarded) (x : Taken) : (s.profileWrite x).Guarded := by
  unfold State.profileWrite
  split
  · exact h.refuse x _
  · split
    · refine .ite (fun _ => h.refuse x _) fun _ => State.Guarded.answer ?_ x _ _
      exact h.same rfl rfl
    · exact h.refuse x _

theorem State.Guarded.hoursWrite (h : s.Guarded) (x : Taken) : (s.hoursWrite x).Guarded := by
  unfold State.hoursWrite
  split
  · refine State.Guarded.answer ?_ x _ _
    exact h.same rfl rfl
  · exact h.refuse x _

theorem State.Guarded.toneWrite (h : s.Guarded) (x : Taken) : (s.toneWrite x).Guarded := by
  unfold State.toneWrite
  split
  · refine State.Guarded.answer ?_ x _ _
    exact h.same rfl rfl
  · exact h.refuse x _

theorem State.Guarded.timeSet (h : s.Guarded) (x : Taken) : (s.timeSet x).Guarded := by
  unfold State.timeSet State.setTime
  refine .ite (fun _ => State.Guarded.answer (State.Guarded.recomputePeriod ?_ _) x _ _) fun _ => h.refuse x _
  exact h.same rfl rfl

theorem State.Guarded.reachHour (h : s.Guarded) : s.reachHour.Guarded := by
  unfold State.reachHour
  dsimp only
  split <;> exact h.same rfl rfl

theorem State.Guarded.reachDay (h : s.Guarded) : s.reachDay.Guarded := by
  unfold State.reachDay
  dsimp only
  split <;> exact h.same rfl rfl

theorem State.Guarded.fillSetRequest (h : s.Guarded) (x : Taken) : (s.fillSetRequest x).Guarded := by
  unfold State.fillSetRequest
  split
  · exact (h.fillSet _ _).answer x _ _
  · exact h.refuse x _

theorem State.Guarded.rangeNow (h : s.Guarded) (x : Taken) : (s.rangeNow x).Guarded := by
  unfold State.rangeNow
  split
  · exact .ite (fun _ => h.refuse x _) fun _ => ((h.answer x _ _).modRange _ _).requestRange _ _
  · exact h.refuse x _

theorem State.Guarded.demandAdd (h : s.Guarded) (x : Taken) : (s.demandAdd x).Guarded := by
  unfold State.demandAdd
  split
  · refine State.Guarded.answer ?_ x _ _
    unfold State.orderDemand
    split
    · exact h.raiseDemand _ _ _
    · exact .ite (fun _ => h) fun _ => h.raiseCause _ _
  · exact h.refuse x _

theorem State.Guarded.demandCancel (h : s.Guarded) (x : Taken) : (s.demandCancel x).Guarded := by
  unfold State.demandCancel
  split
  · split
    · exact (h.clearDemand _ _).answer x _ _
    · exact h.refuse x _
  · exact h.refuse x _

theorem State.Guarded.demandList (h : s.Guarded) (x : Taken) : (s.demandList x).Guarded := by
  unfold State.demandList
  exact h.same rfl rfl

theorem State.Guarded.logFetch (h : s.Guarded) (x : Taken) : (s.logFetch x).Guarded := by
  unfold State.logFetch
  split
  · refine State.Guarded.answer ?_ x _ _
    exact h.same rfl rfl
  · exact h.refuse x _

theorem State.Guarded.logRelease (h : s.Guarded) (x : Taken) : (s.logRelease x).Guarded := by
  unfold State.logRelease State.releaseLog
  refine State.Guarded.answer (State.Guarded.evaluateLog ?_) x _ _
  exact h.same rfl rfl

/-! ## Batches, cards and the store (chapters 4, 5, 10) -/

theorem State.Guarded.batchBegin (h : s.Guarded) (x : Taken) : (s.batchBegin x).Guarded := by
  unfold State.batchBegin
  dsimp only
  split
  · exact h.refuse x _
  · refine .ite (fun _ => h.refuse x _) fun _ => .ite (fun _ => h.refuse x _) fun _ => .ite (fun _ => h.refuse x _) fun _ =>
      State.Guarded.answer ?_ x _ _
    exact h.same rfl rfl

theorem State.Guarded.batchData (h : s.Guarded) (x : Taken) : (s.batchData x).Guarded := by
  unfold State.batchData State.feedBatch
  exact .ite (fun _ => h.refuse x _) fun _ => .ite (fun _ => h.refuse x _) fun _ => .ite (fun _ => h.refuse x _) fun _ =>
    ((h.modBatch _).answer x _ _).runParser

theorem State.Guarded.finishBatch (h : s.Guarded) : s.finishBatch.Guarded := by
  unfold State.finishBatch
  refine State.Guarded.endIfDone (State.Guarded.modBatch ?_ _)
  split
  · exact h.closeEntry _ _
  all_goals exact h

theorem State.Guarded.batchEnd (h : s.Guarded) (x : Taken) : (s.batchEnd x).Guarded := by
  unfold State.batchEnd
  exact .ite (fun _ => h.refuse x _) fun _ => .ite (fun _ => h.refuse x _) fun _ => (h.answer x _ _).finishBatch

theorem State.Guarded.batchAbort (h : s.Guarded) (x : Taken) : (s.batchAbort x).Guarded := by
  unfold State.batchAbort
  exact .ite (fun _ => h.refuse x _) fun _ => (h.answer x _ _).abortBatch

theorem State.Guarded.cardQuery (h : s.Guarded) (x : Taken) : (s.cardQuery x).Guarded := by
  unfold State.cardQuery
  exact .ite (fun _ => h.refuse x _) fun _ => .ite (fun _ => h.refuse x _) fun _ =>
    ((h.answer x _ _).modResolver _).placeLookup _

theorem State.Guarded.setMode (h : s.Guarded) (b : Bool) (x : Taken) : (s.setMode b x).Guarded := (h.modResolver _).answer x _ _

theorem State.Guarded.cacheNormal (h : s.Guarded) (x : Taken) : (s.cacheNormal x).Guarded := by
  unfold State.cacheNormal
  exact .ite (fun _ => h.setMode false x) fun _ => h.refuse x _

theorem State.Guarded.cacheFlush (h : s.Guarded) (x : Taken) : (s.cacheFlush x).Guarded := by
  unfold State.cacheFlush
  exact .ite (fun _ => h.refuse x _) fun _ => h.flushCache.answer x _ _

theorem State.Guarded.storeAttach (h : s.Guarded) (x : Taken) : (s.storeAttach x).Guarded := by
  unfold State.storeAttach
  split
  · exact h.refuse x _
  · exact h.refuse x _
  all_goals exact h.modStore _

theorem State.Guarded.storeFormat (h : s.Guarded) (x : Taken) : (s.storeFormat x).Guarded := by
  unfold State.storeFormat
  split
  any_goals exact h.refuse x _
  all_goals exact .ite (fun _ => h.refuse x _) fun _ => (h.answer x _ _).startFormat

/-! ## Crew and service (chapter 9) -/

theorem State.Guarded.crewOpen (h : s.Guarded) (x : Taken) : (s.crewOpen x).Guarded := by
  unfold State.crewOpen State.beginOpening
  dsimp only
  split
  · exact h.refuse x _
  · exact .ite (fun _ => h.refuse x _) fun _ => .ite (fun _ => h.refuse x _) fun _ => .ite (fun _ => h.refuse x _) fun _ =>
      State.Guarded.placeLookup (State.Guarded.modLift (h.answer x _ _) rfl) _

theorem State.Guarded.present (h : s.Guarded) (x : Taken) : (s.present x).Guarded := by
  unfold State.present
  exact .ite (fun _ => h.answer x _ _) fun _ => h.refuse x _

/-- Custody is accepted on a configured slot without SERVICE while it stands nowhere: WAITING under LIFT, and granted at
once where the intake is quiet (R143, R144). -/
theorem State.Guarded.acceptCustody (h : s.Guarded) {k : Slot} (hn : s.lift.custody.state = .none)
    (hc : (s.slot k).configured = true) (hs : (s.slot k).bars.service = false) (c : CrewSession) :
    (s.acceptCustody c k).Guarded := by
  have none (j : Slot) : s.custodyOn j = .none := by unfold State.custodyOn; rw [hn]; exact ite_self _
  have waiting : ((s.modCustody fun _ => { slot := k, truck := c.truck, card := c.card }).enterCustody .waiting
      (some (s.now + 1000 * s.config.custodyWait))).setBar k .lift |>.Guarded := by
    have log := State.relogged_evaluateLog ((s.modCustody fun _ => { slot := k, truck := c.truck, card := c.card }).modCustody
      fun x => { x with state := .waiting, deadline := some (s.now + 1000 * s.config.custodyWait) })
    unfold State.enterCustody
    generalize State.evaluateLog _ = u at log
    have custody (j : Slot) : u.custodyOn j = if k = j then .waiting else .none := log.custodyOn j
    have slot (j : Slot) : (u.slot j).Guarded .none := by
      have := (h j).alike (log.slot j).alike
      rwa [none j] at this
    have lift : (u.setBar k .lift).lift = u.lift := by
      unfold State.setBar
      split
      · exact (u.barred_changeBar k .lift true).lift
      · rfl
    have set : u.setBar k .lift = u.changeBar k .lift true := by
      unfold State.setBar State.changeBar
      split
      · next hb => rw [if_pos (by simpa using hb)]; rfl
      · next hb => rw [if_neg (by simpa using hb)]
    have configured : (u.slot k).configured = true := (log.slot k).configured.trans hc
    rw [set]
    intro j
    rw [(u.barred_changeBar k .lift true).custodyOn, custody, State.slot_changeBar]
    by_cases e : j = k
    · subst e
      rw [if_pos rfl, if_pos rfl]
      have barred := (slot j).withLift (v := true) (.inl rfl)
      refine barred.under (fun _ => ⟨?_, ?_, ?_⟩) (fun hr => .inr ?_) (fun hf => by cases hf)
      · exact (SlotUnit.withBar_has_other .lift true _ (c := .service) (by decide)).trans
          (((log.slot j).has (b := .service) (by decide)).trans hs)
      · rw [SlotUnit.withBar_configured]; exact configured
      · rw [SlotUnit.withBar_bars _ _ _ configured]; rfl
      · exact (barred.hatch hr).resolve_left (by decide)
    · rw [if_neg e, if_neg (Ne.symm e)]
      exact slot j
  unfold State.acceptCustody
  dsimp only
  exact .ite (fun _ => waiting) fun hb => waiting.slotQuiet (by simpa using hb)

theorem State.Guarded.custodyRequest (h : s.Guarded) (x : Taken) : (s.custodyRequest x).Guarded := by
  unfold State.custodyRequest
  split
  · exact h.refuse x _
  · split
    · exact h.refuse x _
    · next k hk =>
      split
      · exact h.refuse x _
      · next c hr =>
        have configured : (s.slot k).configured = true := by
          unfold State.configuredSlot at hk
          split at hk
          · split at hk
            · cases hk; assumption
            · cases hk
          · cases hk
        unfold State.custodyRefusal at hr
        split_ifs at hr with _ _ service _ busy _
        exact (h.answer x _ _).acceptCustody (not_not.mp busy) configured (by simpa using service) _

theorem State.Guarded.custodyRelease (h : s.Guarded) (x : Taken) : (s.custodyRelease x).Guarded := by
  have own : (s.answer x .ok (u8 CustodyState.none.code)).custodyOn s.lift.custody.slot = s.lift.custody.state :=
    s.custodyOn_slot
  unfold State.custodyRelease
  dsimp only
  refine .ite (fun _ => h.refuse x _) fun _ => .ite (fun _ => h.refuse x _) fun _ => ?_
  split
  · exact h.refuse x _
  · exact h.refuse x _
  · next e => exact (h.answer x _ _).endCustody (by rw [own, e]; decide) _
  · next e => exact (h.answer x _ _).endCustody (by rw [own, e]; decide) _
  · exact h.refuse x _
  · next e => exact (h.answer x _ _).releaseCustody (s.custodyOn_slot.trans e)

theorem State.Guarded.crewClose (h : s.Guarded) (x : Taken) : (s.crewClose x).Guarded := by
  have closed (b : Bool) : (s.answerClose x b).Guarded := h.answer x _ _
  have own (b : Bool) : (s.answerClose x b).custodyOn s.lift.custody.slot = s.lift.custody.state := s.custodyOn_slot
  unfold State.crewClose
  split
  · exact h.refuse x _
  · refine .ite (fun _ => h.refuse x _) fun _ => ?_
    unfold State.closeCrew
    dsimp only
    refine .ite (fun _ => (closed true).completeVisit) fun _ => ?_
    split
    · exact (closed true).completeVisit
    · next e => exact ((closed true).endCustody (by rw [own, e]; decide) _).completeVisit
    · next e => exact ((closed true).endCustody (by rw [own, e]; decide) _).completeVisit
    · exact h.refuse x _
    · next e => exact State.Guarded.releaseCustody (State.Guarded.modLift (closed false) rfl) ((own false).trans e)
    · exact State.Guarded.modLift (closed false) rfl

theorem State.Guarded.serviceHold (h : s.Guarded) (x : Taken) : (s.serviceHold x).Guarded := by
  unfold State.serviceHold
  split
  · exact h.refuse x _
  · exact .ite (fun _ => h.refuse x _) fun _ => .ite (fun _ => h.refuse x _) fun hn =>
      (h.setService (not_not.mp hn)).answer x _ _

theorem State.Guarded.serviceRelease (h : s.Guarded) (x : Taken) : (s.serviceRelease x).Guarded := by
  unfold State.serviceRelease
  split
  · exact h.refuse x _
  · next k _ =>
    refine .ite (fun _ => h.refuse x _) fun _ => State.Guarded.answer ?_ x _ _
    refine (h.endTest k).changeService k false (.inr ⟨rfl, ?_⟩)
    rw [State.endTest_eq, State.slot_modSlot_same]
    rfl

/-- What the checks of OUTPUT_TEST have found when none refuses (R184). -/
theorem State.testRefusal_eq_none {k : Slot} (h : s.testRefusal k = none) :
    (s.slot k).configured = true ∧ (s.slot k).bars.service = true ∧ (s.slot k).intake.state.busy = false := by
  unfold State.testRefusal at h
  split_ifs at h with service busy
  simp_all

theorem State.Guarded.testDrum (h : s.Guarded) (x : Taken) : (s.testDrum x).Guarded := by
  unfold State.testDrum
  split
  · exact h.refuse x _
  · next k _ =>
    refine .ite (fun _ => h.refuse x _) fun _ => ?_
    split
    · exact h.refuse x _
    · next hr =>
      obtain ⟨-, service, busy⟩ := State.testRefusal_eq_none hr
      refine .ite (fun _ => h.refuse x _) fun ht => State.Guarded.answer ?_ x _ _
      unfold State.setTest State.setDrumLock
      rw [State.modSlot_modSlot]
      refine h.modSlot k { h k with
        drum := fun _ => .inr rfl
        hatch := fun hh => .inl (((h k).hatch hh).resolve_right ?_)
        test := fun _ => ⟨service, busy⟩ }
      simp [Locks.tests, show (s.slot k).locks.test = none by simpa using ht]

theorem State.Guarded.testHatch (h : s.Guarded) (x : Taken) : (s.testHatch x).Guarded := by
  unfold State.testHatch
  split
  · exact h.refuse x _
  · next k _ =>
    split
    · exact h.refuse x _
    · next hr =>
      obtain ⟨-, service, busy⟩ := State.testRefusal_eq_none hr
      refine .ite (fun _ => h.refuse x _) fun ht => .ite (fun _ => h.refuse x _) fun _ => State.Guarded.answer ?_ x _ _
      unfold State.setTest State.setHatch
      rw [State.modSlot_modSlot]
      refine h.modSlot k { h k with
        drum := fun hd => .inl (((h k).drum hd).resolve_right ?_)
        hatch := fun _ => .inr rfl
        test := fun _ => ⟨service, busy⟩ }
      simp [Locks.tests, show (s.slot k).locks.test = none by simpa using ht]

theorem State.Guarded.testTone (h : s.Guarded) (x : Taken) : (s.testTone x).Guarded := by
  unfold State.testTone
  split
  · split
    · exact h.refuse x _
    · exact (h.askTone _ _).answer x _ _
  · exact h.refuse x _

/-! ## Events -/

theorem State.Guarded.rawChange (h : s.Guarded) (k : Slot) (l : Line) (b : Bool) : (s.rawChange k l b).Guarded := h.lightly k id rfl rfl rfl

theorem State.Guarded.filterElapsed (h : s.Guarded) (k : Slot) (l : Line) : (s.filterElapsed k l).Guarded := by
  unfold State.filterElapsed
  split
  · exact State.Guarded.deliverEdge ((h.elapseTo _).lightly k id rfl rfl rfl) k l _
  · exact h

theorem State.Guarded.drumJam (h : s.Guarded) (k : Slot) : (s.drumJam k).Guarded := by
  unfold State.drumJam
  split
  · exact (((h.elapseTo _).modTrack k _).setBar k rfl).alert _
  · exact h

theorem State.Guarded.floodOff (h : s.Guarded) (k : Slot) : (s.floodOff k).Guarded := by
  unfold State.floodOff
  split
  · exact (((((h.elapseTo _).modTrack k _).changeBar k false rfl).alert _).setDue k).requestRange k _
  · exact h

theorem State.Guarded.dueTimePassed (h : s.Guarded) (k : Slot) : (s.dueTimePassed k).Guarded := by
  unfold State.dueTimePassed
  split
  · exact .ite (fun _ => (h.elapseTo _).setDue k) fun _ => ((h.elapseTo _).setDue k).requestRange k _
  · exact h

theorem State.Guarded.delayEnd (h : s.Guarded) (k : Slot) : (s.delayEnd k).Guarded := by
  unfold State.delayEnd
  split
  · exact ((h.elapseTo _).modRange k _).requestRange k _
  · exact h

theorem State.Guarded.pingEmit (h : s.Guarded) : s.pingEmit.Guarded := by
  unfold State.pingEmit
  split
  · exact .ite (fun _ => h) fun _ => (h.elapseTo _).modRanging _
  · exact h

theorem State.Guarded.echoEdge (h : s.Guarded) (k : Slot) (t : Nat) : (s.echoEdge k t).Guarded := by
  unfold State.echoEdge
  split
  · exact .ite (fun _ => (h.elapseTo _).endPing _ _) fun _ => h
  · exact h

theorem State.Guarded.pingTimeout (h : s.Guarded) : s.pingTimeout.Guarded := by
  unfold State.pingTimeout
  split
  · exact .ite (fun _ => (h.elapseTo _).endPing _ _) fun _ => h
  · exact h

theorem State.Guarded.readerDue (h : s.Guarded) (k : Slot) : (s.readerDue k).Guarded := by
  unfold State.readerDue
  split
  · exact .ite (fun _ => (h.elapseTo _).poll k) fun _ => h
  · exact h

theorem State.Guarded.readerAnswer (h : s.Guarded) (bs : List Byte) : (s.readerAnswer bs).Guarded := by
  unfold State.readerAnswer
  split
  · refine State.Guarded.afterPoll ?_ _
    split
    · exact h.takeAnswer _ _
    · exact h.unanswered _
  all_goals exact h

theorem State.Guarded.pollTimeout (h : s.Guarded) : s.pollTimeout.Guarded := by
  unfold State.pollTimeout
  split
  · exact ((h.elapseTo _).unanswered _).afterPoll _
  all_goals exact h

theorem State.Guarded.signalSent (h : s.Guarded) : s.signalSent.Guarded := by
  unfold State.signalSent
  split
  · exact h.passTurn
  all_goals exact h

theorem State.Guarded.idleTimeout (h : s.Guarded) (k : Slot) : (s.idleTimeout k).Guarded := by
  unfold State.idleTimeout
  split
  · exact State.Guarded.endSession ((h.elapseTo _).lightly k id rfl rfl rfl) k _
  · exact h

theorem State.Guarded.stopCustodyTimer (h : s.Guarded) (d : Nat) : (s.stopCustodyTimer d).Guarded :=
  (h.elapseTo d).modCustody ⟨rfl, rfl⟩

/-- Where the custody timer of a state runs, custody stands in it on the slot of its record. -/
theorem State.custodyOn_of_timer {st : CustodyState} {d : Nat} (h : s.custodyTimer st = some d) :
    s.custodyOn s.lift.custody.slot = st := by
  unfold State.custodyTimer at h
  split at h
  · next e => exact s.custodyOn_slot.trans e
  · cases h

theorem State.Guarded.custodyWaitExpiry (h : s.Guarded) : s.custodyWaitExpiry.Guarded := by
  unfold State.custodyWaitExpiry
  split
  · next d e =>
    have waiting : (s.stopCustodyTimer d).custodyOn s.lift.custody.slot = .waiting :=
      State.custodyOn_of_timer (s := s) e
    exact (h.stopCustodyTimer d).preempt (by rw [waiting]; decide)
  · exact h

theorem State.Guarded.raiseTimeout (h : s.Guarded) : s.raiseTimeout.Guarded := by
  unfold State.raiseTimeout
  split
  · next d e =>
    have granted : (s.stopCustodyTimer d).custodyOn s.lift.custody.slot = .granted :=
      State.custodyOn_of_timer (s := s) e
    exact (h.stopCustodyTimer d).endCustody (by rw [granted]; decide) _
  · exact h

theorem State.Guarded.liftOvertime (h : s.Guarded) : s.liftOvertime.Guarded := by
  unfold State.liftOvertime
  split
  · exact State.Guarded.modCustody ((h.stopCustodyTimer _).alert _) ⟨rfl, rfl⟩
  · exact h

theorem State.Guarded.linkLoss (h : s.Guarded) : s.linkLoss.Guarded := by
  unfold State.linkLoss
  split
  · next d _ =>
    have marked : (s.elapseTo d).markLinkLost.Guarded := (h.elapseTo d).modLift rfl
    have own : (s.elapseTo d).markLinkLost.custodyOn (s.elapseTo d).lift.custody.slot = (s.elapseTo d).lift.custody.state :=
      (s.elapseTo d).custodyOn_slot
    unfold State.loseLink
    dsimp only
    refine .ite (fun _ => marked.completeVisit) fun _ => ?_
    split
    · exact marked.completeVisit
    · next e => exact (marked.endCustody (by rw [own, e]; decide) _).completeVisit
    · next e => exact (marked.endCustody (by rw [own, e]; decide) _).completeVisit
    · exact (marked.modCustody ⟨rfl, rfl⟩).completeVisit
    · next e => exact State.Guarded.releaseCustody (State.Guarded.modLift marked rfl) (own.trans e)
    · exact State.Guarded.modLift marked rfl
  · exact h

theorem State.Guarded.outputTestEnd (h : s.Guarded) (k : Slot) : (s.outputTestEnd k).Guarded := by
  unfold State.outputTestEnd
  split
  · exact (h.elapseTo _).endTest k
  · exact h

theorem State.Guarded.postStart (h : s.Guarded) : s.postStart.Guarded := ((h.post _ _ _).post _ _ _).post _ _ _

theorem State.Guarded.headerOutcome (h : s.Guarded) (p : HeaderPurpose) (st : StoreState) (x : Option Header) :
    (s.headerOutcome p st x).Guarded := by
  unfold State.headerOutcome
  split
  · unfold State.startUp
    refine State.Guarded.postStart ?_
    exact h.same rfl rfl
  · unfold State.attached
    refine State.Guarded.answer ?_ _ _ _
    split
    · exact (h.modStore _).storeOnline _ _ _
    · exact .ite (fun _ => (h.modStore _).modStore _) fun _ => ((h.modStore _).modStore _).post _ _ _

theorem State.Guarded.headerBytes (h : s.Guarded) (p : HeaderPurpose) (bs : List Byte) : (s.headerBytes p bs).Guarded := by
  unfold State.headerBytes
  exact .ite (fun _ => h.headerOutcome p _ _) fun _ => h.headerOutcome p _ _

theorem State.Guarded.headerReadComplete (h : s.Guarded) (a : StoreAnswer) : (s.headerReadComplete a).Guarded := by
  unfold State.headerReadComplete
  split
  · unfold State.answerHeader
    split
    · exact h.headerBytes _ _
    · exact h.headerOutcome _ _ _
    · exact .ite (fun _ => (h.modStore _).headerBytes _ _) fun _ => h.headerOutcome _ _ _
  · exact h

theorem State.Guarded.transactionTimeout (h : s.Guarded) (w : WriteFate) : (s.transactionTimeout w).Guarded := by
  unfold State.transactionTimeout
  split
  · exact h.timeoutTransaction w _
  · exact (h.elapseTo _).headerOutcome _ _ _
  · exact h

theorem State.Guarded.transactionComplete (h : s.Guarded) (a : StoreAnswer) : (s.transactionComplete a).Guarded := by
  unfold State.transactionComplete
  split
  · exact h.answerTransaction a _
  · exact h

/-! ## Resets and loss of supply: both locks engaged, no custody, no bar (R18, R185) -/

/-- A state whose slots stand at their reset values and whose custody is NONE. -/
theorem State.guarded_of_reset {t : State} (slot : ∀ k, ∃ u : SlotUnit, t.slot k = u.afterReset)
    (custody : t.lift.custody.state = .none := by rfl) : t.Guarded := fun k => by
  obtain ⟨u, e⟩ := slot k
  have none : t.custodyOn k = .none := by unfold State.custodyOn; rw [custody]; exact ite_self _
  rw [e, none]
  exact {
    drum := fun hd => by cases hd
    hatch := fun hh => by cases hh
    test := fun ht => by cases ht
    service := fun hs => by cases hs
    custody := fun hc => absurd rfl hc
    quiet := fun hf => by cases hf
    idle := fun _ => rfl }

theorem State.slot_volatileReset (s : State) (k : Slot) : s.volatileReset.slot k = (s.slot k).afterReset := by
  simp [State.volatileReset, State.slot]

theorem State.guarded_takeReset (s : State) (r : ResetKind) (c : Clock → Clock) : (s.takeReset r c).Guarded :=
  State.guarded_of_reset fun k => ⟨_, State.slot_volatileReset s.cutOff k⟩

theorem State.guarded_loseSupply (s : State) : s.loseSupply.Guarded :=
  State.guarded_of_reset fun k => ⟨_, State.slot_volatileReset s.cutOff k⟩

/-! ## Every command, every step -/

/-- Every command keeps the lock rules. -/
theorem State.Guarded.exec {t : State} {i : Instr} (h : s.Guarded) (hx : Machine.exec i s = .next t) : t.Guarded := by
  cases i <;> cases hx
  case stationStatus p => exact h.takeKind p _ fun x _ hu => hu.answer x _ _
  case slotQuery p => exact h.takeKind p _ fun x _ hu => hu.slotQuery x
  case stationConfig p => exact h.takeKind p _ fun x _ hu => hu.stationConfig x
  case slotConfig p => exact h.takeKind p _ fun x _ hu => hu.slotConfig x
  case slotRemove p => exact h.takeKind p _ fun x _ hu => hu.slotRemove x
  case profileWrite p => exact h.takeKind p _ fun x _ hu => hu.profileWrite x
  case hoursWrite p => exact h.takeKind p _ fun x _ hu => hu.hoursWrite x
  case toneWrite p => exact h.takeKind p _ fun x _ hu => hu.toneWrite x
  case timeSet p => exact h.takeKind p _ fun x _ hu => hu.timeSet x
  case timeQuery p => exact h.takeKind p _ fun x _ hu => hu.answer x _ _
  case fillSet p => exact h.takeKind p _ fun x _ hu => hu.fillSetRequest x
  case rangeNow p => exact h.takeKind p _ fun x _ hu => hu.rangeNow x
  case demandAdd p => exact h.takeKind p _ fun x _ hu => hu.demandAdd x
  case demandCancel p => exact h.takeKind p _ fun x _ hu => hu.demandCancel x
  case demandList p => exact h.takeKind p _ fun x _ hu => hu.demandList x
  case logFetch p => exact h.takeKind p _ fun x _ hu => hu.logFetch x
  case logRelease p => exact h.takeKind p _ fun x _ hu => hu.logRelease x
  case batchBegin p => exact h.takeKind p _ fun x _ hu => hu.batchBegin x
  case batchData p => exact h.takeKind p _ fun x _ hu => hu.batchData x
  case batchEnd p => exact h.takeKind p _ fun x _ hu => hu.batchEnd x
  case batchAbort p => exact h.takeKind p _ fun x _ hu => hu.batchAbort x
  case cardQuery p => exact h.takeKind p _ fun x _ hu => hu.cardQuery x
  case cacheNormal p => exact h.takeRow p _ (keepsGuarded_checkKind _ fun x _ hu => hu.cacheNormal x)
  case cacheFrozen p => exact h.takeRow p _ (keepsGuarded_checkKind _ fun x _ hu => hu.setMode true x)
  case cacheFlush p => exact h.takeRow p _ (keepsGuarded_checkKind _ fun x _ hu => hu.cacheFlush x)
  case storeAttach p => exact h.takeKind p _ fun x _ hu => hu.storeAttach x
  case storeFormat p => exact h.takeKind p _ fun x _ hu => hu.storeFormat x
  case restart p => exact h.takeKind p _ fun _ u _ => u.guarded_takeReset _ _
  case crewOpen p => exact h.takeKind p _ fun x _ hu => hu.crewOpen x
  case crewClose p => exact h.takeKind p _ fun x _ hu => hu.crewClose x
  case custody p => exact h.takeKind p _ fun x _ hu => hu.custodyRequest x
  case custodyRelease p => exact h.takeKind p _ fun x _ hu => hu.custodyRelease x
  case present p => exact h.takeKind p _ fun x _ hu => hu.present x
  case serviceHold p => exact h.takeKind p _ fun x _ hu => hu.serviceHold x
  case serviceRelease p => exact h.takeKind p _ fun x _ hu => hu.serviceRelease x
  case outputTestDrumRelease p => exact h.takeRow p _ (keepsGuarded_checkKind _ fun x _ hu => hu.testDrum x)
  case outputTestHatchRelease p => exact h.takeRow p _ (keepsGuarded_checkKind _ fun x _ hu => hu.testHatch x)
  case outputTestTone p => exact h.takeRow p _ (keepsGuarded_checkKind _ fun x _ hu => hu.testTone x)
  case unknownRequest p => exact h.unknownRequest p
  case frameWrite p f =>
    unfold State.frameWrite
    exact .ite (fun _ => h) fun _ => .ite (fun _ => h.same rfl rfl) fun _ => h.same rfl rfl
  case frameRead p n =>
    unfold State.frameRead
    exact .ite (fun _ => h) fun _ => h.same rfl rfl
  case rawLevelChange k l b n => exact (h.elapse n).rawChange k l b
  case filterTimeElapsed k l => exact h.filterElapsed k l
  case drumJam k => exact h.drumJam k
  case floodOff k => exact h.floodOff k
  case dueTimePassed k => exact h.dueTimePassed k
  case postSessionDelayEnd k => exact h.delayEnd k
  case pingEmit => exact h.pingEmit
  case echoEdge k n => exact h.echoEdge k n
  case pingTimeout => exact h.pingTimeout
  case readerDue k => exact h.readerDue k
  case readerAnswer f => exact h.readerAnswer f
  case pollTimeout => exact h.pollTimeout
  case signalSent => exact h.signalSent
  case idleTimeout k => exact h.idleTimeout k
  case custodyWaitExpiry => exact h.custodyWaitExpiry
  case raiseTimeout => exact h.raiseTimeout
  case liftOvertime => exact h.liftOvertime
  case linkLoss => exact h.linkLoss
  case outputTestEnd k => exact h.outputTestEnd k
  case transactionComplete a => exact h.transactionComplete a
  case transactionTimeout w => exact h.transactionTimeout w
  case headerReadComplete a => exact h.headerReadComplete a
  case hourEvent =>
    unfold State.hourEvent
    exact .ite (fun _ => h.reachHour) fun _ => h.reachHour.hourlyUpdate
  case dayEvent =>
    unfold State.dayEvent
    exact .ite (fun _ => h.reachDay) fun _ => h.reachDay.recomputePeriod _
  case clockWrap => exact h.elapse _
  case powerOn b => exact s.guarded_takeReset _ _
  case resetLine => exact .ite (fun _ => h) fun _ => s.guarded_takeReset _ _
  case mainSupplyLoss => exact .ite (fun _ => h) fun _ => s.guarded_loseSupply

/-- Every step keeps the lock rules. -/
theorem State.Guarded.step {t : State} (h : s.Guarded) (hx : Machine.step s = .next t) : t.Guarded := by
  unfold Machine.step at hx
  split at hx
  · cases hx
    unfold State.tick
    split
    · exact h.same rfl rfl
    · exact h.same rfl rfl
  · next c rest _ =>
    have popped : { s with pending := rest : State }.Guarded := h.same rfl rfl
    exact popped.exec hx

/-- Settles O11: the lock rules are kept by every command, and of a slot that keeps them the two releases do not stand
together. -/
theorem noSlotEverHasBothLocksReleased : Obligations.NoSlotEverHasBothLocksReleased := by
  unfold Obligations.NoSlotEverHasBothLocksReleased
  intro s t h hx
  have kept := State.Guarded.step ((State.guarded_iff s).mpr h) hx
  exact ⟨(State.guarded_iff t).mp kept, fun k => (kept k).not_both⟩

end Sys2Proof.Machine
end

section
/-! SUPPORT. Due times, post-session delays and the pings of a burst (O36). -/

namespace Sys2Proof.Machine

section
variable {s : State} {k : Slot}

/-! ## What asks for a burst (R32, R33) -/

theorem State.firstAsked_requestRange {c : RangeCause} (hc : c ≠ .lift) (hk : (s.slot k).configured = true)
    (hf : (s.slot k).bars.flood = false) : (s.requestRange k c).firstAsked k c :=
  (State.firstAsked_queueRange false hc hk hf).chooseBurst

theorem State.requestRange_range (s : State) (j k : Slot) {c : RangeCause} (hc : c ≠ .lift) :
    ((s.requestRange k c).slot j).range = (s.slot j).range := ((s.reranged_requestRange k hc).slot j).range

/-! ## DUE_TIME_PASSED and POST_SESSION_DELAY_END (R33) -/

theorem exec_dueTimePassed {d : Nat} (h : (s.slot k).range.due = some d) : exec (.dueTimePassed k) s
    = .next (if (s.slot k).bars.flood then (s.elapseTo d).setDue k
      else ((s.elapseTo d).setDue k).requestRange k .periodic) := by
  change Host.Outcome.next (s.dueTimePassed k) = _
  unfold State.dueTimePassed
  rw [h]

theorem exec_postSessionDelayEnd {d : Nat} (h : (s.slot k).range.delay = some d) : exec (.postSessionDelayEnd k) s
    = .next (((s.elapseTo d).modRange k fun x => { x with delay := none }).requestRange k .session) := by
  change Host.Outcome.next (s.delayEnd k) = _
  unfold State.delayEnd
  rw [h]

/-- The slot after a passed due time: only its next due time is another (R33). -/
theorem State.slot_setDue (s : State) (k : Slot) : (s.setDue k).slot k = { s.slot k with
    range := { (s.slot k).range with due := some (s.now + 60000 * s.config.rangingInterval) } } :=
  State.slot_modSlot_same ..

theorem dueTime_passes {d : Nat} (h : (s.slot k).range.due = some d) : ∃ t, exec (.dueTimePassed k) s = .next t
    ∧ t.now = max s.now d
    ∧ (t.slot k).range.due = some (max s.now d + 60000 * s.config.rangingInterval)
    ∧ ((s.slot k).configured = true → (s.slot k).bars.flood = false → t.rangingAsked k .periodic)
    ∧ ((s.slot k).bars.flood = true → t.ranging = s.ranging ∧ t.log = s.log) := by
  have moved := (s.elapseTo d).slot_setDue k
  rw [State.elapseTo_now] at moved
  refine ⟨_, exec_dueTimePassed h, ?_⟩
  cases hf : (s.slot k).bars.flood with
  | true => exact ⟨s.elapseTo_now d, congrArg (fun u : SlotUnit => u.range.due) moved, nofun, fun _ => ⟨rfl, rfl⟩⟩
  | false =>
    have ranged := ((s.elapseTo d).setDue k).reranged_requestRange k (c := .periodic) (by decide)
    refine ⟨ranged.now.trans (s.elapseTo_now d), ?_, fun hc _ => ?_, nofun⟩
    · exact (congrArg RangeSlot.due (State.requestRange_range _ k k (by decide))).trans
        (congrArg (fun u : SlotUnit => u.range.due) moved)
    · exact (State.firstAsked_requestRange (by decide) (by rw [moved]; exact hc) (by rw [moved]; exact hf)).rangingAsked

theorem delay_ends {d : Nat} (h : (s.slot k).range.delay = some d) : ∃ t, exec (.postSessionDelayEnd k) s = .next t
    ∧ t.now = max s.now d ∧ (t.slot k).range = { (s.slot k).range with delay := none }
    ∧ ((s.slot k).configured = true → (s.slot k).bars.flood = false → t.rangingAsked k .session) := by
  have ended : (((s.elapseTo d).modRange k fun x => { x with delay := none }).slot k)
      = { s.slot k with range := { (s.slot k).range with delay := none } } := State.slot_modSlot_same ..
  refine ⟨_, exec_postSessionDelayEnd h, ?_, ?_, fun hc hf => ?_⟩
  · exact (State.reranged_requestRange _ k (by decide)).now.trans (s.elapseTo_now d)
  · exact (State.requestRange_range _ k k (by decide)).trans (congrArg SlotUnit.range ended)
  · exact (State.firstAsked_requestRange (by decide) (by rw [ended]; exact hc) (by rw [ended]; exact hf)).rangingAsked

/-! ## Pings (R36) -/

/-- The end of ping 1 or 2 leaves the burst to its next ping. -/
theorem State.endPing_goes_on (s : State) {b : Burst} (r : Option Nat) (h : b.pings.length < 2) : s.endPing b r
    = { s with ranging := { s.ranging with burst := some { b with pings := b.pings ++ [r], awaiting := false } } } :=
  if_pos (by rw [List.length_append]; exact Nat.succ_lt_succ h)

/-- The end of ping 3 completes the burst. -/
theorem State.endPing_completes (s : State) {b : Burst} (r : Option Nat) (h : b.pings.length = 2) : s.endPing b r
    = s.completeBurst { b with pings := b.pings ++ [r], awaiting := false } :=
  if_neg (by simp [h])

theorem State.burstOn_same {b : Burst} (h : s.ranging.burst = some b) : s.burstOn b.slot = some b := by
  simp [State.burstOn, h, Option.filter]

theorem exec_pingEmit {b : Burst} (h : s.ranging.burst = some b) (ha : b.awaiting = false) : exec .pingEmit s
    = .next { s.elapseTo (b.start + 60 * b.pings.length) with
      ranging := { s.ranging with burst := some { b with awaiting := true } } } := by
  change Host.Outcome.next s.pingEmit = _
  unfold State.pingEmit
  rw [h]
  dsimp only
  rw [ha, if_neg nofun]
  rfl

theorem exec_pingTimeout {b : Burst} (h : s.ranging.burst = some b) (ha : b.awaiting = true) :
    exec .pingTimeout s = .next ((s.elapseTo (b.start + 60 * b.pings.length + 25)).endPing b none) := by
  change Host.Outcome.next s.pingTimeout = _
  unfold State.pingTimeout
  rw [h]
  dsimp only
  rw [ha, if_pos rfl]
  rfl

theorem exec_echoEdge {b : Burst} {us : Nat} (h : s.ranging.burst = some b) (ha : b.awaiting = true)
    (hl : 900 ≤ us) (hh : us ≤ 25000) : exec (.echoEdge b.slot us) s
      = .next ((s.elapseTo (b.start + 60 * b.pings.length + us / 1000)).endPing b (some us)) := by
  change Host.Outcome.next (s.echoEdge b.slot us) = _
  unfold State.echoEdge
  rw [State.burstOn_same h]
  dsimp only
  have inside : (b.awaiting && decide (Config.echoMinUs ≤ us) && decide (us ≤ Config.echoMaxUs)) = true := by
    rw [ha, decide_eq_true (p := Config.echoMinUs ≤ us) hl, decide_eq_true (p := us ≤ Config.echoMaxUs) hh]
    rfl
  rw [if_pos inside]
  rfl

/-- An edge that no ping of the slot awaits, or that falls outside the window, does nothing. -/
theorem exec_echoEdge_discarded {b : Burst} {us : Nat} (h : s.ranging.burst = some b)
    (hn : b.awaiting = false ∨ b.slot ≠ k ∨ us < 900 ∨ 25000 < us) : exec (.echoEdge k us) s = .next s := by
  change Host.Outcome.next (s.echoEdge k us) = _
  by_cases hk : b.slot = k
  · subst hk
    unfold State.echoEdge
    rw [State.burstOn_same h]
    refine congrArg Host.Outcome.next (if_neg fun hit => ?_)
    obtain ⟨⟨awaiting, low⟩, high⟩ : (b.awaiting = true ∧ Config.echoMinUs ≤ us) ∧ us ≤ Config.echoMaxUs := by
      simpa using hit
    change 900 ≤ us at low
    change us ≤ 25000 at high
    rcases hn with ha | hs | hb
    · rw [ha] at awaiting; cases awaiting
    · exact hs rfl
    · omega
  · have other : s.burstOn k = none := by simp [State.burstOn, h, Option.filter, hk]
    unfold State.echoEdge
    rw [other]

end

/-- Settles O36: the request of a due time or of a delay stands behind what its burst may start; the pings move on exactly. -/
theorem rangingIsTimed : Obligations.RangingIsTimed := by
  unfold Obligations.RangingIsTimed
  refine fun s k => ⟨fun d hd => dueTime_passes hd, fun d hd => delay_ends hd, fun b hb =>
    ⟨fun ha => exec_pingEmit hb ha, fun ha hl => ?timeout, fun us ha hl hs hlow hhigh => ?echo,
      fun us hn => exec_echoEdge_discarded hb hn⟩⟩
  case timeout =>
    rw [exec_pingTimeout hb ha, State.endPing_goes_on _ _ hl]
    rfl
  case echo =>
    subst hs
    rw [exec_echoEdge hb ha hlow hhigh, State.endPing_goes_on _ _ hl]
    rfl

end Sys2Proof.Machine
end

section
/-! SUPPORT. OUTPUT_TEST (O60): its three rows, the refusals they share, and the end of a test (R19, R99, R184). -/

namespace Sys2Proof.Machine

section
variable {s : State} {k : Slot} {tag : Byte} {st : Status} {x : Taken}

/-! ## The rows of OUTPUT_TEST (R179, R184, log entry 9) -/

/-- The row to which an OUTPUT_TEST of a kind belongs. -/
def testRow (kind : Byte) : RequestRow :=
  match kind.toNat with | 1 => .testHatch | 2 => .testTone | _ => .testDrum

theorem rowOf_outputTest (a kind v : Byte) : rowOf (frameOf 0x2A tag [a, kind, v]) = testRow kind := rfl

/-- What a refused or granted OUTPUT_TEST has been taken as. -/
abbrev testTaken (tag a kind v : Byte) : Taken :=
  { port := .service, kind := BitVec.ofNat 8 0x2A, tag := tag, payload := [a, kind, v] }

theorem State.takeRow_outputTest {a kind v : Byte} (g : Taken → State → State)
    (h : s.offers .service (frameOf 0x2A tag [a, kind, v])) :
    s.takeRow .service (testRow kind) (State.checkKind .outputTest g)
      = g (testTaken tag a kind v) (s.popRequest .service (frameOf 0x2A tag [a, kind, v])) := by
  rw [State.takeRow_offers _ h (rowOf_outputTest ..), takenOf_frameOf]
  rfl

theorem exec_outputTestDrumRelease {a kind v : Byte} (hk : testRow kind = .testDrum)
    (h : s.offers .service (frameOf 0x2A tag [a, kind, v])) : exec (.outputTestDrumRelease .service) s
      = .next ((s.popRequest .service (frameOf 0x2A tag [a, kind, v])).testDrum (testTaken tag a kind v)) :=
  congrArg Host.Outcome.next (hk ▸ State.takeRow_outputTest State.testDrum h)

theorem exec_outputTestHatchRelease {a v : Byte} (h : s.offers .service (frameOf 0x2A tag [a, 1, v])) :
    exec (.outputTestHatchRelease .service) s
      = .next ((s.popRequest .service (frameOf 0x2A tag [a, 1, v])).testHatch (testTaken tag a 1 v)) :=
  congrArg Host.Outcome.next (State.takeRow_outputTest State.testHatch h)

theorem exec_outputTestTone {a v : Byte} (h : s.offers .service (frameOf 0x2A tag [a, 2, v])) :
    exec (.outputTestTone .service) s
      = .next ((s.popRequest .service (frameOf 0x2A tag [a, 2, v])).testTone (testTaken tag a 2 v)) :=
  congrArg Host.Outcome.next (State.takeRow_outputTest State.testTone h)

/-! ## Refusals (R184) -/

theorem State.testDrum_badField (h : x.slot = none ∨ byteAt x.payload 1 ≠ 0) : s.testDrum x = s.refuse x .badField := by
  unfold State.testDrum
  cases hx : x.slot with
  | none => rfl
  | some k =>
    have kind : byteAt x.payload 1 ≠ 0 := h.resolve_left (by rw [hx]; nofun)
    exact if_pos kind

theorem State.testHatch_badField (h : x.slot = none) : s.testHatch x = s.refuse x .badField := by
  unfold State.testHatch; rw [h]

theorem State.testTone_badField (h : x.slot = none ∨ TonePattern.ofCode (byteAt x.payload 2) = none) :
    s.testTone x = s.refuse x .badField := by
  unfold State.testTone
  split
  · next hk hp => simp [hk, hp] at h
  · rfl

/-- A slot that no test may use refuses each of the three rows in the same way. -/
theorem State.testDrum_refused (h : x.slot = some k) (hk : byteAt x.payload 1 = 0) (hr : s.testRefusal k = some st) :
    s.testDrum x = s.refuse x st := by
  unfold State.testDrum; simp only [h, hk, hr, ne_eq, not_true_eq_false, if_false]

theorem State.testHatch_refused (h : x.slot = some k) (hr : s.testRefusal k = some st) :
    s.testHatch x = s.refuse x st := by
  unfold State.testHatch; simp only [h, hr]

theorem State.testTone_refused {pat : TonePattern} (h : x.slot = some k)
    (hp : TonePattern.ofCode (byteAt x.payload 2) = some pat) (hr : s.testRefusal k = some st) :
    s.testTone x = s.refuse x st := by
  unfold State.testTone; simp only [h, hp, hr]

theorem State.testRefusal_wrongState (h : (s.slot k).configured = false ∨ (s.slot k).bars.service = false) :
    s.testRefusal k = some .wrongState := if_pos (by rcases h with h | h <;> simp [h])

theorem State.testRefusal_busy (hc : (s.slot k).configured = true) (hs : (s.slot k).bars.service = true)
    (hb : (s.slot k).intake.state.busy = true) : s.testRefusal k = some .busy := by
  unfold State.testRefusal; simp [hc, hs, hb]

theorem State.testRefusal_none (hc : (s.slot k).configured = true) (hs : (s.slot k).bars.service = true)
    (hb : (s.slot k).intake.state.busy = false) : s.testRefusal k = none := by
  unfold State.testRefusal; simp [hc, hs, hb]

/-! ## Granted tests (R19, R99, R184) -/

theorem State.testDrum_running (h : x.slot = some k) (hk : byteAt x.payload 1 = 0) (hr : s.testRefusal k = none)
    (ht : (s.slot k).locks.test ≠ none) : s.testDrum x = s.refuse x .busy := by
  unfold State.testDrum
  simp only [h, hk, hr, ne_eq, not_true_eq_false, if_false]
  exact if_pos (Option.isSome_iff_ne_none.mpr ht)

theorem State.testDrum_starts (h : x.slot = some k) (hk : byteAt x.payload 1 = 0) (hr : s.testRefusal k = none)
    (ht : (s.slot k).locks.test = none) :
    s.testDrum x = ((s.setDrumLock k true).setTest k .drum (s.testEnd x)).answer x .ok [] := by
  unfold State.testDrum
  simp only [h, hk, hr, ht, ne_eq, not_true_eq_false, if_false]
  rfl

theorem State.testHatch_running (h : x.slot = some k) (hr : s.testRefusal k = none) (ht : (s.slot k).locks.test ≠ none) :
    s.testHatch x = s.refuse x .busy := by
  unfold State.testHatch
  simp only [h, hr]
  exact if_pos (Option.isSome_iff_ne_none.mpr ht)

theorem State.testHatch_off (h : x.slot = some k) (hr : s.testRefusal k = none) (ht : (s.slot k).locks.test = none)
    (hp : (s.slot k).accepted .platform = false) : s.testHatch x = s.refuse x .wrongState := by
  unfold State.testHatch
  simp only [h, hr, ht, hp]
  rfl

theorem State.testHatch_starts (h : x.slot = some k) (hr : s.testRefusal k = none) (ht : (s.slot k).locks.test = none)
    (hp : (s.slot k).accepted .platform = true) :
    s.testHatch x = ((s.setHatch k true).setTest k .hatch (s.testEnd x)).answer x .ok [] := by
  unfold State.testHatch
  simp only [h, hr, ht, hp]
  rfl

theorem State.testTone_sounds {pat : TonePattern} (h : x.slot = some k)
    (hp : TonePattern.ofCode (byteAt x.payload 2) = some pat) (hr : s.testRefusal k = none) :
    s.testTone x = (s.askTone k pat).answer x .ok [] := by
  unfold State.testTone; simp only [h, hp, hr]

/-- A tone is asked for on a configured slot exactly where its reader is enabled (R99). -/
theorem State.askTone_of_configured (pat : TonePattern) (hc : (s.slot k).configured = true) :
    s.askTone k pat = s.modSlot k fun u => { u with
      reader := { u.reader with signal := if u.record.readerEnable then some pat else u.reader.signal } } := by
  unfold State.askTone SlotUnit.inRotation
  rw [hc, Bool.true_and]
  cases he : (s.slot k).record.readerEnable with
  | true =>
    rw [if_pos rfl]
    exact State.modSlot_congr (by simp [he])
  | false =>
    rw [if_neg nofun]
    exact (State.modSlot_eq_self (by simp [he])).symm

/-! ## On the state that has taken the request -/

section
variable {a kind v : Byte}

theorem refused_outputTest (s : State) (tag a kind v : Byte) (st : Status) :
    (s.popRequest .service (frameOf 0x2A tag [a, kind, v])).refuse (testTaken tag a kind v) st
      = s.answered1 .service 0x2A tag st [] := State.refuse_popRequest 0x2A tag [a, kind, v] st

theorem testRefusal_popRequest (s : State) (f : List Byte) : (s.popRequest .service f).testRefusal k = s.testRefusal k := rfl

/-- A change of a slot between the taking and the answer of a test is the change of the slot itself. -/
theorem answered_outputTest (s : State) (k : Slot) (f : SlotUnit → SlotUnit) :
    ((s.popRequest .service (frameOf 0x2A tag [a, kind, v])).modSlot k f).answer (testTaken tag a kind v) .ok []
      = (s.modSlot k f).answered1 .service 0x2A tag .ok [] :=
  State.answer_popRequest (s := s.modSlot k f) 0x2A tag [a, kind, v] [] .ok

theorem asked_outputTest (s : State) (k : Slot) (pat : TonePattern) (hc : (s.slot k).configured = true) :
    ((s.popRequest .service (frameOf 0x2A tag [a, kind, v])).askTone k pat).answer (testTaken tag a kind v) .ok []
      = (s.modSlot k fun u => { u with
          reader := { u.reader with signal := if u.record.readerEnable then some pat else u.reader.signal } }).answered1
        .service 0x2A tag .ok [] := by
  rw [State.askTone_of_configured pat (by exact hc)]
  exact answered_outputTest ..

theorem started_drumTest (s : State) (k : Slot) :
    (((s.popRequest .service (frameOf 0x2A tag [a, kind, v])).setDrumLock k true).setTest k .drum
        ((s.popRequest .service (frameOf 0x2A tag [a, kind, v])).testEnd (testTaken tag a kind v))).answer
          (testTaken tag a kind v) .ok []
      = (s.modSlot k fun u => { u with locks := { u.locks with
          drumReleased := true, test := some (.drum, s.now + 1000 * clamp 1 30 v.toNat) } }).answered1
        .service 0x2A tag .ok [] := by
  unfold State.setDrumLock State.setTest
  rw [State.modSlot_modSlot]
  exact answered_outputTest ..

theorem started_hatchTest (s : State) (k : Slot) :
    (((s.popRequest .service (frameOf 0x2A tag [a, kind, v])).setHatch k true).setTest k .hatch
        ((s.popRequest .service (frameOf 0x2A tag [a, kind, v])).testEnd (testTaken tag a kind v))).answer
          (testTaken tag a kind v) .ok []
      = (s.modSlot k fun u => { u with locks := { u.locks with
          hatchReleased := true, test := some (.hatch, s.now + 1000 * clamp 1 30 v.toNat) } }).answered1
        .service 0x2A tag .ok [] := by
  unfold State.setHatch State.setTest
  rw [State.modSlot_modSlot]
  exact answered_outputTest ..

end

theorem testTaken_slot_above {a : Byte} (kind v : Byte) (h : 8 ≤ a.toNat) : (testTaken tag a kind v).slot = none :=
  slotAt_none h

/-- The number of a slot as its byte. -/
abbrev Slot.byte (k : Slot) : Byte := BitVec.ofNat 8 k.val

theorem testTaken_slot (k : Slot) (kind v : Byte) : (testTaken tag (Slot.byte k) kind v).slot = some k :=
  slotAt_encSlot k [kind, v]

/-- The three rows of OUTPUT_TEST with a kind, and for a tone a pattern, that they name (R184). -/
def testNamed (i : Instr) (kind v : Byte) : Prop :=
  (i = .outputTestDrumRelease .service ∧ kind = 0) ∨ (i = .outputTestHatchRelease .service ∧ kind = 1)
    ∨ (i = .outputTestTone .service ∧ kind = 2 ∧ v.toNat < 4)

theorem TonePattern.ofCode_isSome {n : Nat} (h : n < 4) : ∃ pat, TonePattern.ofCode n = some pat := by
  match n, h with
  | 0, _ => exact ⟨_, rfl⟩
  | 1, _ => exact ⟨_, rfl⟩
  | 2, _ => exact ⟨_, rfl⟩
  | 3, _ => exact ⟨_, rfl⟩

theorem exec_outputTest_refused {i : Instr} {kind v : Byte} (hi : testNamed i kind v)
    (ho : s.offers .service (frameOf 0x2A tag [Slot.byte k, kind, v])) (hr : s.testRefusal k = some st) :
    exec i s = .next (s.answered1 .service 0x2A tag st []) := by
  have hr : (s.popRequest .service (frameOf 0x2A tag [Slot.byte k, kind, v])).testRefusal k = some st := hr
  rcases hi with ⟨rfl, rfl⟩ | ⟨rfl, rfl⟩ | ⟨rfl, rfl, hv⟩
  · rw [exec_outputTestDrumRelease rfl ho, State.testDrum_refused (testTaken_slot k ..) rfl hr, refused_outputTest]
  · rw [exec_outputTestHatchRelease ho, State.testHatch_refused (testTaken_slot k ..) hr, refused_outputTest]
  · obtain ⟨pat, hp⟩ := TonePattern.ofCode_isSome hv
    rw [exec_outputTestTone ho, State.testTone_refused (testTaken_slot k ..) hp hr, refused_outputTest]

theorem exec_outputTest_running {i : Instr} {kind v : Byte} (hi : testNamed i kind v) (hk : kind.toNat < 2)
    (ho : s.offers .service (frameOf 0x2A tag [Slot.byte k, kind, v])) (hr : s.testRefusal k = none)
    (ht : (s.slot k).locks.test ≠ none) : exec i s = .next (s.answered1 .service 0x2A tag .busy []) := by
  have hr : (s.popRequest .service (frameOf 0x2A tag [Slot.byte k, kind, v])).testRefusal k = none := hr
  have ht : ((s.popRequest .service (frameOf 0x2A tag [Slot.byte k, kind, v])).slot k).locks.test ≠ none := ht
  rcases hi with ⟨rfl, rfl⟩ | ⟨rfl, rfl⟩ | ⟨rfl, rfl, hv⟩
  · rw [exec_outputTestDrumRelease rfl ho, State.testDrum_running (testTaken_slot k ..) rfl hr ht, refused_outputTest]
  · rw [exec_outputTestHatchRelease ho, State.testHatch_running (testTaken_slot k ..) hr ht, refused_outputTest]
  · exact absurd hk (by decide)

/-! A test that nothing refuses, by its kind. -/

section
variable {i : Instr} {kind v : Byte}

theorem testNamed.tone (hi : testNamed i kind v) (hk : kind = 2) : i = .outputTestTone .service := by
  subst hk
  obtain ⟨-, hk⟩ | ⟨-, hk⟩ | ⟨e, -⟩ := hi
  · cases hk
  · cases hk
  · exact e

theorem testNamed.drum (hi : testNamed i kind v) (hk : kind = 0) : i = .outputTestDrumRelease .service := by
  subst hk
  obtain ⟨e, -⟩ | ⟨-, hk⟩ | ⟨-, hk, -⟩ := hi
  · exact e
  · cases hk
  · cases hk

theorem testNamed.hatch (hi : testNamed i kind v) (hk : kind = 1) : i = .outputTestHatchRelease .service := by
  subst hk
  obtain ⟨-, hk⟩ | ⟨e, -⟩ | ⟨-, hk, -⟩ := hi
  · cases hk
  · exact e
  · cases hk

variable (hi : testNamed i kind v) (ho : s.offers .service (frameOf 0x2A tag [Slot.byte k, kind, v]))
  (hr : s.testRefusal k = none)
include hi ho hr

theorem exec_outputTest_sounds (hk : kind = 2) {pat : TonePattern} (hp : TonePattern.ofCode v.toNat = some pat) :
    exec i s = .next ((s.modSlot k fun u => { u with
      reader := { u.reader with signal := if u.record.readerEnable then some pat else u.reader.signal } }).answered1
        .service 0x2A tag .ok []) := by
  obtain ⟨hc, -⟩ := State.testRefusal_eq_none hr
  have hr : (s.popRequest .service (frameOf 0x2A tag [Slot.byte k, kind, v])).testRefusal k = none := hr
  rw [hi.tone hk]
  subst hk
  rw [exec_outputTestTone ho, State.testTone_sounds (testTaken_slot k ..) hp hr, asked_outputTest s k pat hc]

variable (ht : (s.slot k).locks.test = none)
include ht

theorem exec_outputTest_drum (hk : kind = 0) : exec i s = .next ((s.modSlot k fun u => { u with locks := { u.locks with
    drumReleased := true, test := some (.drum, s.now + 1000 * clamp 1 30 v.toNat) } }).answered1
      .service 0x2A tag .ok []) := by
  have hr : (s.popRequest .service (frameOf 0x2A tag [Slot.byte k, kind, v])).testRefusal k = none := hr
  have ht : ((s.popRequest .service (frameOf 0x2A tag [Slot.byte k, kind, v])).slot k).locks.test = none := ht
  rw [hi.drum hk]
  subst hk
  rw [exec_outputTestDrumRelease rfl ho, State.testDrum_starts (testTaken_slot k ..) rfl hr ht, started_drumTest]

theorem exec_outputTest_off (hk : kind = 1) (hp : (s.slot k).accepted .platform = false) :
    exec i s = .next (s.answered1 .service 0x2A tag .wrongState []) := by
  have hr : (s.popRequest .service (frameOf 0x2A tag [Slot.byte k, kind, v])).testRefusal k = none := hr
  have ht : ((s.popRequest .service (frameOf 0x2A tag [Slot.byte k, kind, v])).slot k).locks.test = none := ht
  rw [hi.hatch hk]
  subst hk
  rw [exec_outputTestHatchRelease ho, State.testHatch_off (testTaken_slot k ..) hr ht hp, refused_outputTest]

theorem exec_outputTest_hatch (hk : kind = 1) (hp : (s.slot k).accepted .platform = true) :
    exec i s = .next ((s.modSlot k fun u => { u with locks := { u.locks with
      hatchReleased := true, test := some (.hatch, s.now + 1000 * clamp 1 30 v.toNat) } }).answered1
        .service 0x2A tag .ok []) := by
  have hr : (s.popRequest .service (frameOf 0x2A tag [Slot.byte k, kind, v])).testRefusal k = none := hr
  have ht : ((s.popRequest .service (frameOf 0x2A tag [Slot.byte k, kind, v])).slot k).locks.test = none := ht
  rw [hi.hatch hk]
  subst hk
  rw [exec_outputTestHatchRelease ho, State.testHatch_starts (testTaken_slot k ..) hr ht hp, started_hatchTest]

end

/-- OUTPUT_TEST_END is the end of the test, as the slot then is (R184). -/
theorem exec_outputTestEnd {y : ReleaseTest × Nat} (h : (s.slot k).locks.test = some y) :
    exec (.outputTestEnd k) s = .next ((s.elapse (y.2 - s.now)).modSlot k SlotUnit.testEnded) := by
  change Host.Outcome.next (s.outputTestEnd k) = _
  unfold State.outputTestEnd
  rw [h]
  exact congrArg Host.Outcome.next (State.endTest_eq ..)

end

/-- Settles O60: each row is taken, its refusals are met in order, and what it commands stands under the answer. -/
theorem outputTestsReleaseAndEngage : Obligations.OutputTestsReleaseAndEngage := by
  unfold Obligations.OutputTestsReleaseAndEngage
  refine fun s tag k v => ⟨fun a kind ho h8 => ⟨?_, ?_, ?_⟩, fun a kind ho h3 => ?_, fun a ho h4 => ?_,
    fun i kind hi ho => ⟨fun h => ?_, fun hc hs hb => ?_, fun hc hs hb => ⟨fun pat hk hp => ?_, fun hk ht => ?_,
      fun ht => ⟨fun hk => ?_, fun hk hp => ?_, fun hk hp => ?_⟩⟩⟩, fun d hd => ?_, fun d hd => ?_⟩
  · rintro rfl
    rw [exec_outputTestDrumRelease rfl ho, State.testDrum_badField (.inl (testTaken_slot_above 0 v h8)), refused_outputTest]
  · rintro rfl
    rw [exec_outputTestHatchRelease ho, State.testHatch_badField (testTaken_slot_above 1 v h8), refused_outputTest]
  · rintro rfl
    rw [exec_outputTestTone ho, State.testTone_badField (.inl (testTaken_slot_above 2 v h8)), refused_outputTest]
  · have row : testRow kind = .testDrum := by
      unfold testRow
      split
      · omega
      · omega
      · rfl
    have other : byteAt (testTaken tag a kind v).payload 1 ≠ 0 := fun e => by
      have e : kind.toNat = 0 := e
      omega
    rw [exec_outputTestDrumRelease row ho, State.testDrum_badField (.inr other), refused_outputTest]
  · have unnamed : TonePattern.ofCode (byteAt (testTaken tag a 2 v).payload 2) = none := TonePattern.ofCode_none h4
    rw [exec_outputTestTone ho, State.testTone_badField (.inr unnamed), refused_outputTest]
  · exact exec_outputTest_refused hi ho (State.testRefusal_wrongState h)
  · exact exec_outputTest_refused hi ho (State.testRefusal_busy hc hs hb)
  · exact exec_outputTest_sounds hi ho (State.testRefusal_none hc hs hb) hk hp
  · exact exec_outputTest_running hi hk ho (State.testRefusal_none hc hs hb) ht
  · exact exec_outputTest_drum hi ho (State.testRefusal_none hc hs hb) ht hk
  · exact exec_outputTest_off hi ho (State.testRefusal_none hc hs hb) ht hk hp
  · exact exec_outputTest_hatch hi ho (State.testRefusal_none hc hs hb) ht hk hp
  · rw [exec_outputTestEnd hd]
    have hd : ((s.elapse (d - s.now)).slot k).locks.test = some (.drum, d) := hd
    exact congrArg Host.Outcome.next (State.modSlot_congr (by simp [SlotUnit.testEnded, Locks.tests, hd]))
  · rw [exec_outputTestEnd hd]
    have hd : ((s.elapse (d - s.now)).slot k).locks.test = some (.hatch, d) := hd
    exact congrArg Host.Outcome.next (State.modSlot_congr (by simp [SlotUnit.testEnded, Locks.tests, hd]))

end Sys2Proof.Machine
end

section
/-! SUPPORT. RANGE_NOW (O28): the waiter and the request of class OFFICE, and its refusals (R32, R34). -/

namespace Sys2Proof.Machine

section
variable {s : State} {p : Port} {k : Slot} {tag : Byte} {x : Taken}

theorem exec_rangeNow {pl : List Byte} (hp : p ≠ .crew) (hl : pl.length = 1)
    (h : s.offers p (frameOf 0x0C tag pl)) : exec (.rangeNow p) s = .next ((s.popRequest p (frameOf 0x0C tag pl)).rangeNow
      { port := p, kind := BitVec.ofNat 8 0x0C, tag := tag, payload := pl }) := by
  have permitted : RequestKind.rangeNow.permitted p = true := by simpa [RequestKind.permitted] using hp
  exact congrArg _ (State.takeKind_offers _ h (by omega) rfl (by decide) (by decide) permitted
    (by simp [hl, RequestKind.admits]))

/-! ## What a request of a configured slot reads (R3) -/

theorem State.configuredSlot_of_slot (h : x.slot = some k) (hc : (s.slot k).configured = true) :
    s.configuredSlot x = some k := by
  unfold State.configuredSlot
  rw [h]
  exact if_pos hc

theorem State.configuredSlot_none (h : ∀ k, x.slot = some k → (s.slot k).configured = false) :
    s.configuredSlot x = none := by
  unfold State.configuredSlot
  split
  · next k hk => rw [h k hk]; rfl
  · rfl

/-! ## The three outcomes (R34) -/

theorem State.rangeNow_badField (h : s.configuredSlot x = none) : s.rangeNow x = s.refuse x .badField := by
  unfold State.rangeNow; rw [h]

theorem State.rangeNow_flooded (h : s.configuredSlot x = some k) (hf : (s.slot k).bars.flood = true) :
    s.rangeNow x = s.refuse x .wrongState := by
  unfold State.rangeNow
  rw [h]
  exact if_pos hf

theorem State.rangeNow_accepted (h : s.configuredSlot x = some k) (hf : (s.slot k).bars.flood = false) :
    s.rangeNow x = ((s.answer x .accepted []).modRange k fun r => r.addWaiter x.port).requestRange k .office := by
  unfold State.rangeNow
  rw [h]
  exact if_neg (by rw [hf]; nofun)

/-- The port has been answered ACCEPTED and waits on the slot, ahead of what its request causes (R34, R182). -/
def State.waits (s : State) (p : Port) (tag : Byte) (k : Slot) : State :=
  (s.answered1 p 0x0C tag .accepted []).modRange k fun r => r.addWaiter p

theorem State.slot_waits (s : State) (p : Port) (tag : Byte) (k j : Slot) : (s.waits p tag k).slot j
    = if j = k then { s.slot j with range := (s.slot j).range.addWaiter p } else s.slot j := State.slot_modSlot ..

/-- Notices that follow an answer leave it the first of its frames (R182). -/
theorem State.answeredFirst_of_noticed {n : Nat} {st : Status} {q : List Byte} {t : State}
    (h : (s.answered1 p n tag st q).Noticed t) : s.answeredFirst t p n tag st q := by
  obtain ⟨notices, hnotices, outbox⟩ := (h.port p).outbox
  have answered : (s.answered1 p n tag st q).port p = _ := State.port_setPort_same ..
  refine ⟨notices, hnotices, ?_, ?_, ?_, ?_⟩
  · rw [(h.port p).requests, answered]
  · rw [(h.port p).inProgress, answered]
  · rw [(h.port p).overrun, answered]
  · rw [outbox, answered, List.append_nil]

theorem exec_rangeNow_accepted (hp : p ≠ .crew) (ho : s.offers p (frameOf 0x0C tag (encSlot k)))
    (hc : (s.slot k).configured = true) (hf : (s.slot k).bars.flood = false) :
    exec (.rangeNow p) s = .next ((s.waits p tag k).requestRange k .office) := by
  have named : ({ port := p, kind := BitVec.ofNat 8 0x0C, tag := tag, payload := encSlot k } : Taken).slot = some k :=
    Taken.slot_encSlot (List.append_nil _).symm
  rw [exec_rangeNow hp rfl ho, State.rangeNow_accepted (State.configuredSlot_of_slot named (by simpa using hc))
    (by simpa using hf), State.answer_popRequest, s.restartLink_of_ne_crew hp]
  rfl

/-- The state in which a burst has been asked for (R32, R34). -/
theorem rangeNow_asks (hc : (s.slot k).configured = true) (hf : (s.slot k).bars.flood = false) :
    let t := (s.waits p tag k).requestRange k .office
    s.answeredFirst t p 0x0C tag .accepted [] ∧ t.rangingAsked k .office
      ∧ (t.slot k).range = (s.slot k).range.addWaiter p
      ∧ (∀ j, t.slot j = { s.slot j with
          bars := (t.slot j).bars, intake := (t.slot j).intake, range := (t.slot j).range })
      ∧ t = { s with
          ports := t.ports, slots := t.slots, ranging := t.ranging, log := t.log, probe := t.probe
          freeIndex := t.freeIndex } := by
  intro t
  have reranged : (s.waits p tag k).Reranged t := State.reranged_requestRange _ k (by decide)
  have atK := (s.slot_waits p tag k k).trans (if_pos rfl)
  have noticed : (s.answered1 p 0x0C tag .accepted []).Noticed t :=
    Kept.requestRange k .office (Kept.modRange k _ (State.Noticed.refl _).holds)
  refine ⟨State.answeredFirst_of_noticed noticed, ?_, ?_, fun j => ?_, ?_⟩
  · exact (State.firstAsked_requestRange (by decide) (by rw [atK]; exact hc) (by rw [atK]; exact hf)).rangingAsked
  · exact (reranged.slot k).range.trans (congrArg SlotUnit.range atK)
  · have framed : t.slot j = { (s.waits p tag k).slot j with bars := (t.slot j).bars, intake := (t.slot j).intake } :=
      (reranged.slot j).but
    rw [framed, s.slot_waits p tag k j]
    split <;> rfl
  · exact reranged.frame

end

/-- Settles O28. -/
theorem rangeNowAsksForABurst : Obligations.RangeNowAsksForABurst := by
  unfold Obligations.RangeNowAsksForABurst
  refine fun s p tag hp => ⟨fun k ho hc => ⟨fun hf => ?_, fun hf => ?_⟩, fun pl hl hn ho => ?_⟩
  · have named : ({ port := p, kind := BitVec.ofNat 8 0x0C, tag := tag, payload := encSlot k } : Taken).slot = some k :=
      Taken.slot_encSlot (List.append_nil _).symm
    rw [exec_rangeNow hp rfl ho, State.rangeNow_flooded (State.configuredSlot_of_slot named (by simpa using hc))
      (by simpa using hf), State.refuse_popRequest, s.restartLink_of_ne_crew hp]
  · exact ⟨_, exec_rangeNow_accepted hp ho hc hf, rangeNow_asks hc hf⟩
  · rw [exec_rangeNow hp hl ho, State.rangeNow_badField (State.configuredSlot_none fun k hk => by simpa using hn k hk),
      State.refuse_popRequest, s.restartLink_of_ne_crew hp]

end Sys2Proof.Machine
end

section
/-! SUPPORT. What a ranging request, its removal and the end of a lift leave of the state, and the end of CLOSING as it is
seen from a state before it and one after it (R28, R34, R38, R150, R154 to R156; O31, O33 to O35, O37). -/

namespace Sys2Proof.Machine

section
variable {s t u a : State} {j k : Slot}

/-! ## Ports and log that only grow (R171, R180) -/

/-- The ports have taken notices alone, and the log has taken records at its end. -/
structure State.Grown (s t : State) : Prop where
  noticed : s.Noticed t
  records : s.log.records <+: t.log.records

theorem State.Grown.refl (s : State) : s.Grown s := ⟨.refl s, List.prefix_rfl⟩

theorem State.Grown.trans (h : s.Grown t) (h' : t.Grown u) : s.Grown u :=
  ⟨h.noticed.trans h'.noticed, h.records.trans h'.records⟩

theorem State.Grown.congr (h : s.Grown t) (hr : u.run = t.run) (hp : u.ports = t.ports)
    (hl : u.log.records = t.log.records) : s.Grown u := ⟨h.noticed.congr hr hp, hl ▸ h.records⟩

theorem State.Grown.outbox (h : s.Grown t) (p : Port) : (s.port p).outbox <+: (t.port p).outbox :=
  (h.noticed.port p).outboxPrefix

/-- Every operation that keeps the `Kept` properties lets ports and log only grow. -/
def Kept.grown (s : State) : Kept where
  P t := s.Grown t
  memOk := True
  frame e h := h.congr e.run e.ports e.records
  elapse _ h := h.congr rfl rfl rfl
  slot _ _ _ _ h := h.congr rfl rfl rfl
  notify _ _ _ h := ⟨h.noticed.trans (State.noticed_notify ..), by rw [State.notify_log]; exact h.records⟩
  mem _ _ _ _ h := h.congr rfl rfl rfl
  raise _ _ h := h.congr rfl rfl rfl
  rehf _ _ _ _ h := h.congr rfl rfl rfl
  mark _ _ _ h := h.congr rfl rfl rfl
  unraise _ h := h.congr rfl rfl rfl
  enqueue _ _ _ h := h.congr rfl rfl rfl
  dequeue _ h := h.congr rfl rfl rfl
  chargeIn _ h := h.congr rfl rfl rfl
  chargeOut _ h := h.congr rfl rfl rfl
  chargesOut h := h.congr rfl rfl rfl
  starve _ _ h := h.congr rfl rfl rfl
  append _ h := ⟨h.noticed.congr rfl rfl, h.records.trans (List.prefix_append ..)⟩

theorem State.Grown.holds (h : s.Grown t) : (Kept.grown s).holds t := h

/-- A notice that was posted between two states has been posted between any two around them. -/
theorem State.posted.around {p : Port} {n : Nat} {pl : List Byte} (h : a.posted u p n pl)
    (before : (s.port p).outbox <+: (a.port p).outbox) (after : (u.port p).outbox <+: (t.port p).outbox) :
    s.posted t p n pl := by
  obtain ⟨grew, placed⟩ := h
  refine ⟨before.trans (grew.trans after), fun room => ?_⟩
  have fewer : (u.port p).notices.length ≤ (t.port p).notices.length := (after.filter _).length_le
  obtain ⟨f, hf, named⟩ := placed (by omega)
  refine ⟨f, ?_, named⟩
  obtain ⟨l, hl⟩ := before
  obtain ⟨m, hm⟩ := grew
  obtain ⟨r, hr⟩ := after
  rw [← hm, List.drop_left] at hf
  rw [← hr, ← hm, ← hl, List.append_assoc, List.append_assoc, List.drop_left]
  exact List.mem_append_right _ (List.mem_append_left _ hf)

/-! ## Slots that a ranging request and the end of a lift leave (R34, R150) -/

/-- A slot after its waiters have been answered, its LIFT and LOG bars have changed and its tip has been discarded. -/
structure SlotUnit.Spared (u v : SlotUnit) : Prop where
  frame : v = { u with
    bars := v.bars, intake := v.intake, track := { u.track with tipStart := v.track.tipStart }
    range := { u.range with waitOffice := v.range.waitOffice, waitService := v.range.waitService } }
  tipStart : v.track.tipStart = u.track.tipStart ∨ v.track.tipStart = none
  has : ∀ b, b ≠ .log → b ≠ .lift → v.bars.has b = u.bars.has b
  busy : v.intake.state.busy = u.intake.state.busy
  intake : u.intake.state.busy = true → v.intake = u.intake
  chargedSession : v.intake.state.chargedSession = u.intake.state.chargedSession

section
variable {u v w : SlotUnit}

theorem SlotUnit.Spared.refl (u : SlotUnit) : u.Spared u := ⟨rfl, .inl rfl, fun _ _ _ => rfl, rfl, fun _ => rfl, rfl⟩

theorem SlotUnit.Spared.trans (h : u.Spared v) (h' : v.Spared w) : u.Spared w where
  frame := by rw [h'.frame, h.frame]
  tipStart := by
    rcases h'.tipStart with e | e
    · rw [e]; exact h.tipStart
    · exact .inr e
  has b hl hi := (h'.has b hl hi).trans (h.has b hl hi)
  busy := h'.busy.trans h.busy
  intake hb := (h'.intake (by rw [h.busy]; exact hb)).trans (h.intake hb)
  chargedSession := h'.chargedSession.trans h.chargedSession

variable (h : u.Spared v)
include h

theorem SlotUnit.Spared.configured : v.configured = u.configured := (congrArg SlotUnit.configured h.frame :)
theorem SlotUnit.Spared.record : v.record = u.record := (congrArg SlotUnit.record h.frame :)
theorem SlotUnit.Spared.lines : v.lines = u.lines := (congrArg SlotUnit.lines h.frame :)
theorem SlotUnit.Spared.locks : v.locks = u.locks := (congrArg SlotUnit.locks h.frame :)
theorem SlotUnit.Spared.fill : v.fill = u.fill := (congrArg SlotUnit.fill h.frame :)
theorem SlotUnit.Spared.drum : v.track.drum = u.track.drum := (congrArg (fun x : SlotUnit => x.track.drum) h.frame :)
theorem SlotUnit.Spared.jamDeadline : v.track.jamDeadline = u.track.jamDeadline :=
  (congrArg (fun x : SlotUnit => x.track.jamDeadline) h.frame :)
theorem SlotUnit.Spared.floodHold : v.track.floodHold = u.track.floodHold :=
  (congrArg (fun x : SlotUnit => x.track.floodHold) h.frame :)
theorem SlotUnit.Spared.floodSince : v.track.floodSince = u.track.floodSince :=
  (congrArg (fun x : SlotUnit => x.track.floodSince) h.frame :)
theorem SlotUnit.Spared.due : v.range.due = u.range.due := (congrArg (fun x : SlotUnit => x.range.due) h.frame :)

end

theorem SlotUnit.Relogged.spared {u v : SlotUnit} (h : u.Relogged v) : u.Spared v where
  frame := by rw [h.frame]
  tipStart := .inl (congrArg Tracking.tipStart h.track)
  has _ hl _ := h.has hl
  busy := h.busy
  intake := h.intake_of_busy
  chargedSession := h.chargedSession

theorem SlotUnit.spared_withLift (u : SlotUnit) (v : Bool) : u.Spared (u.withBar .lift v) where
  frame := by rw [u.withBar_frame .lift v]
  tipStart := .inl (congrArg Tracking.tipStart (u.withBar_track ..))
  has _ _ hi := SlotUnit.withBar_has_other _ _ _ hi
  busy := u.busy_withBar ..
  intake hb := SlotUnit.intake_withBar_of_busy _ _ hb
  chargedSession := u.chargedSession_withBar ..

/-- What a request, its removal, the report of a burst and the end of a lift leave of the state. -/
structure State.Spared (s t : State) : Prop extends s.Calm t where
  readerBus : t.readerBus = s.readerBus
  demand : t.demand = s.demand
  slot : ∀ j, (s.slot j).Spared (t.slot j)

theorem State.Spared.refl (s : State) : s.Spared s :=
  { (State.Ranged.refl s).toCalm with readerBus := rfl, demand := rfl, slot := fun _ => .refl _ }

theorem State.Spared.trans (h : s.Spared t) (h' : t.Spared u) : s.Spared u :=
  { h.toCalm.trans h'.toCalm with
    readerBus := h'.readerBus.trans h.readerBus, demand := h'.demand.trans h.demand
    slot := fun j => (h.slot j).trans (h'.slot j) }

theorem State.Reranged.spared (h : s.Reranged t) : s.Spared t :=
  { h.toCalm with readerBus := h.readerBus, demand := h.demand, slot := fun j => (h.slot j).spared }

theorem State.Relogged.spared (h : s.Relogged t) : s.Spared t := h.reranged.spared

/-- A step that leaves the slots spares them. -/
theorem State.Ranged.spared (h : s.Ranged t) (hs : t.slots = s.slots) : s.Spared t :=
  { h.toCalm with
    readerBus := h.readerBus, demand := h.demand, slot := fun j => by rw [State.slot_congr hs]; exact .refl _ }

theorem State.spared_answerWaiters (s : State) (k : Slot) (o : RangeOutcome) : s.Spared (s.answerWaiters k o) :=
  { (s.ranged_answerWaiters k o).toCalm with
    readerBus := (s.ranged_answerWaiters k o).readerBus, demand := (s.ranged_answerWaiters k o).demand
    slot := fun j => by
      rw [State.slot_answerWaiters]
      split
      · exact ⟨rfl, .inl rfl, fun _ _ _ => rfl, rfl, fun _ => rfl, rfl⟩
      · exact .refl _ }

theorem State.spared_modRanging (s : State) (f : Ranging → Ranging) : s.Spared (s.modRanging f) :=
  (s.reranged_modRanging f).spared

/-! ## The end of CLOSING (R150, R154 to R156) -/

/-- A change of the lift alone, as far as the rest of the state goes. -/
theorem State.calm_modLift (s : State) (f : Lift → Lift) : s.Calm (s.modLift f) := {}

theorem State.spared_modLift (s : State) (f : Lift → Lift) : s.Spared (s.modLift f) :=
  { s.calm_modLift f with readerBus := rfl, demand := rfl, slot := fun _ => .refl _ }

theorem State.spared_clearCustody (s : State) (k : Slot) : s.Spared (s.clearCustody k) := by
  have cleared : s.Spared (s.changeBar k .lift false) :=
    { (s.barred_changeBar k .lift false).toCalm with
      readerBus := (s.barred_changeBar k .lift false).readerBus, demand := (s.barred_changeBar k .lift false).demand
      slot := fun j => by
        rw [State.slot_changeBar]
        split
        · exact SlotUnit.spared_withLift ..
        · exact .refl _ }
  have dropped (x : State) : x.Spared (x.dropTip k) :=
    { (State.ranged_modSlot x k _).toCalm with
      readerBus := rfl, demand := rfl
      slot := fun j => by
        unfold State.dropTip
        rw [State.slot_modSlot]
        split
        · exact ⟨rfl, .inr rfl, fun _ _ _ => rfl, rfl, fun _ => rfl, rfl⟩
        · exact .refl _ }
  exact ((cleared.trans (State.spared_modLift _ _)).trans (dropped _)).trans (State.relogged_evaluateLog _).spared

theorem State.postLiftDone_slots (s : State) (k : Slot) (c : Custody) (post : Option Nat) :
    (s.postLiftDone k c post).slots = s.slots := by
  unfold State.postLiftDone
  dsimp only
  split <;> simp

theorem State.barred_postLiftDone (s : State) (k : Slot) (c : Custody) (post : Option Nat) :
    s.Barred (s.postLiftDone k c post) := by
  have office := s.barred_post (p := .office) (by decide) .liftDone (liftDonePayload k c post)
  unfold State.postLiftDone
  dsimp only
  split
  · exact office.trans (State.barred_post _ (p := .crew) (by decide) ..)
  · exact office

theorem State.spared_completeVisit (s : State) : s.Spared s.completeVisit := by
  unfold State.completeVisit
  split
  · exact .refl s
  · exact ((s.spared_modLift _).trans (State.relogged_logAppend _ _).spared).trans (State.spared_modLift _ _)

/-- The lift record has been handed over (R150, step 1). -/
def State.liftLogged (k : Slot) (post : Option Nat) (s : State) : State :=
  (s.modCustody fun x => { x with recorded := true }).logAppend
    (.lift k (s.slot k).record.fraction s.lift.custody post)

/-- The end of a lift before the visit may be completed. -/
def State.liftClosed (k : Slot) (post : Option Nat) (s : State) : State :=
  ((if s.lift.custody.orphaned then s.liftLogged k post else (s.liftLogged k post).addLifted k).clearCustody k).postLiftDone
    k s.lift.custody post

theorem State.closeLift_eq (s : State) (k : Slot) (post : Option Nat) : s.closeLift k post
    = if !s.lift.custody.orphaned && (s.liftClosed k post).lift.visitEnds then (s.liftClosed k post).completeVisit
      else s.liftClosed k post := rfl

theorem State.spared_liftLogged (s : State) (k : Slot) (post : Option Nat) : s.Spared (s.liftLogged k post) :=
  (s.spared_modLift _).trans (State.relogged_logAppend _ _).spared

theorem State.spared_liftClosed (s : State) (k : Slot) (post : Option Nat) : s.Spared (s.liftClosed k post) := by
  have logged := s.spared_liftLogged k post
  have posted (x : State) : x.Spared (x.postLiftDone k s.lift.custody post) :=
    (x.barred_postLiftDone k _ post).ranged.spared (x.postLiftDone_slots k _ post)
  unfold State.liftClosed
  split
  · exact (logged.trans (State.spared_clearCustody _ k)).trans (posted _)
  · exact ((logged.trans (State.spared_modLift _ _)).trans (State.spared_clearCustody _ k)).trans (posted _)

theorem State.spared_closeLift (s : State) (k : Slot) (post : Option Nat) : s.Spared (s.closeLift k post) := by
  rw [State.closeLift_eq]
  split
  · exact (s.spared_liftClosed k post).trans (State.spared_completeVisit _)
  · exact s.spared_liftClosed k post

theorem State.spared_liftReport (s : State) (k : Slot) (post : Option Nat) : s.Spared (s.liftReport k post) := by
  unfold State.liftReport
  split
  · exact s.spared_closeLift k post
  · exact .refl s

theorem State.spared_reportDiscard (s : State) (k : Slot) (c : RangeCause) : s.Spared (s.reportDiscard k c) := by
  unfold State.reportDiscard
  split
  · exact s.spared_liftReport k none
  · exact .refl s

/-! ## The Ranging Unit's operations (R32, R34, R37, R38) -/

theorem State.spared_queueRange (s : State) (b : Bool) (k : Slot) (c : RangeCause) : s.Spared (s.queueRange b k c) := by
  unfold State.queueRange
  split
  · exact .refl s
  · split
    · exact s.spared_reportDiscard k c
    · exact s.spared_modRanging _

theorem State.spared_chooseBurst (s : State) : s.Spared s.chooseBurst := s.reranged_chooseBurst.spared

theorem State.spared_discardBurst (s : State) (k : Slot) (o : RangeOutcome) : s.Spared (s.discardBurst k o) := by
  unfold State.discardBurst
  split
  · exact ((s.spared_modRanging _).trans (State.spared_answerWaiters ..)).trans (State.spared_reportDiscard ..)
  · exact .refl s

theorem State.spared_removeEntry (s : State) (k : Slot) (o : RangeOutcome) : s.Spared (s.removeEntry k o) := by
  unfold State.removeEntry
  split
  · exact ((s.spared_modRanging _).trans (State.spared_answerWaiters ..)).trans (State.spared_reportDiscard ..)
  · exact .refl s

theorem State.spared_returnBurst (s : State) (k : Slot) : s.Spared (s.returnBurst k) := by
  unfold State.returnBurst
  split
  · exact (s.spared_modRanging _).trans (State.spared_queueRange ..)
  · exact .refl s

theorem State.spared_removeLift (s : State) (k : Slot) : s.Spared (s.removeLift k) := by
  unfold State.removeLift
  split
  · exact ((s.spared_modRanging _).trans (State.spared_liftReport ..)).trans (State.spared_answerWaiters ..)
  · exact .refl s

theorem State.spared_rangeUnseated (s : State) (k : Slot) : s.Spared (s.rangeUnseated k) :=
  ((s.spared_discardBurst k .discarded).trans (State.spared_chooseBurst _)).trans (State.spared_removeLift _ k)

theorem State.spared_requestLift (s : State) (k : Slot) : s.Spared (s.requestLift k) := by
  unfold State.requestLift
  dsimp only
  split
  · exact (s.spared_queueRange ..).trans (State.spared_chooseBurst _)
  · exact ((s.spared_queueRange ..).trans (State.spared_removeLift ..)).trans (State.spared_chooseBurst _)

end

end Sys2Proof.Machine
end

section
/-! SUPPORT. The end of CLOSING seen from a state before it and one after it (R150, R154 to R156). -/

namespace Sys2Proof.Machine

section
variable {s t u a : State} {j k : Slot} {post : Option Nat}

/-! ## The steps of the end of a lift -/

theorem State.stamp_modLift (s : State) (f : Lift → Lift) : (s.modLift f).stamp = s.stamp := rfl

theorem State.addLifted_lift (s : State) (k : Slot) : (s.addLifted k).lift
    = { s.lift with visit := s.lift.visit.map fun v => { v with lifted := v.lifted ++ [k] } } := rfl

theorem State.slot_modLift (s : State) (f : Lift → Lift) (j : Slot) : (s.modLift f).slot j = s.slot j := rfl

theorem State.slot_addLifted (s : State) (j k : Slot) : (s.addLifted k).slot j = s.slot j := rfl

theorem State.clearCustody_lift (s : State) (k : Slot) : (s.clearCustody k).lift = { s.lift with custody := {} } := by
  have barred := s.barred_changeBar k .lift false
  unfold State.clearCustody
  rw [(State.relogged_evaluateLog _).lift]
  exact congrArg (fun x : Lift => { x with custody := {} }) barred.lift

theorem State.clearCustody_bar (s : State) (k : Slot) (hc : (s.slot k).configured = true) :
    ((s.clearCustody k).slot k).bars.lift = false := by
  have cleared : ((((s.changeBar k .lift false).modCustody fun _ => {}).dropTip k).slot k).bars
      = (s.slot k).bars.put false .lift := by
    refine (congrArg SlotUnit.bars (State.slot_modSlot_same ..)).trans ?_
    exact (congrArg SlotUnit.bars (State.slot_changeBar_same ..)).trans (SlotUnit.withBar_bars _ _ _ hc)
  have relogged := (State.relogged_evaluateLog (((s.changeBar k .lift false).modCustody fun _ => {}).dropTip k)).slot k
  exact (relogged.has (b := .lift) (by decide)).trans (by rw [cleared]; rfl)

theorem State.liftLogged_lift (s : State) (k : Slot) (post : Option Nat) : (s.liftLogged k post).lift
    = { s.lift with custody := { s.lift.custody with recorded := true } } := (State.relogged_logAppend _ _).lift

theorem State.liftLogged_records (s : State) (k : Slot) (post : Option Nat) : (s.liftLogged k post).log.records
    = s.log.records ++ [⟨s.log.seq, .lift k (s.slot k).record.fraction s.lift.custody post⟩] :=
  State.logAppend_records _ _

theorem State.grown_liftLogged (s : State) (k : Slot) (post : Option Nat) : s.Grown (s.liftLogged k post) :=
  Kept.logAppend _ (Kept.modCustody _ (State.Grown.refl s).holds)

/-- The lift after its record has been handed over, the slot has joined the visit and custody is NONE. -/
theorem State.liftClosed_lift (s : State) (k : Slot) (post : Option Nat) : (s.liftClosed k post).lift
    = { s.lift with
        custody := {}
        visit := if s.lift.custody.orphaned then s.lift.visit
          else s.lift.visit.map fun v => { v with lifted := v.lifted ++ [k] } } := by
  unfold State.liftClosed
  rw [(State.barred_postLiftDone _ k _ post).lift, State.clearCustody_lift]
  split
  · rw [State.liftLogged_lift]
  · rw [State.addLifted_lift, State.liftLogged_lift]

theorem State.grown_liftLogged_liftClosed (s : State) (k : Slot) (post : Option Nat) :
    (s.liftLogged k post).Grown (s.liftClosed k post) :=
  Kept.postLiftDone _ _ _ (Kept.clearCustody _ (Kept.ite (State.Grown.refl _).holds
    (Kept.addLifted _ (State.Grown.refl _).holds)))

theorem State.grown_closeLift (s : State) (k : Slot) (post : Option Nat) : s.Grown (s.closeLift k post) :=
  Kept.closeLift _ _ (State.Grown.refl s).holds

/-- The visit may be completed after the notices of the end of a lift; whatever has been posted and logged stays. -/
theorem State.grown_liftClosed_closeLift (s : State) (k : Slot) (post : Option Nat) :
    (s.liftClosed k post).Grown (s.closeLift k post) := by
  rw [State.closeLift_eq]
  exact Kept.ite (Kept.completeVisit (State.Grown.refl _).holds) (State.Grown.refl _).holds

theorem State.liftClosed_record (s : State) (k : Slot) (post : Option Nat) :
    ∃ r ∈ (s.liftClosed k post).log.records, r.body = .lift k (s.slot k).record.fraction s.lift.custody post := by
  refine ⟨⟨s.log.seq, _⟩, (s.grown_liftLogged_liftClosed k post).records.subset ?_, rfl⟩
  rw [State.liftLogged_records]
  exact List.mem_append_right _ (List.mem_singleton.mpr rfl)

/-- LIFT_DONE has been posted to OFFICE, and to CREW for a lift of the open session (R156). -/
theorem State.postLiftDone_posted {c : Custody} (hr : s.run = .running) :
    s.posted (s.postLiftDone k c post) .office 0xCA (liftDonePayload k c post)
      ∧ (c.orphaned = false → s.lift.session.isSome = true →
        s.posted (s.postLiftDone k c post) .crew 0xCA (liftDonePayload k c post)) := by
  let office := s.post .office .liftDone (liftDonePayload k c post)
  have calm : s.Calm office := s.calm_post ..
  have grown : s.Grown office := Kept.post _ _ _ (State.Grown.refl s).holds
  constructor
  · have after : office.Grown (s.postLiftDone k c post) :=
      Kept.ite (Kept.post _ _ _ (State.Grown.refl office).holds) (State.Grown.refl office).holds
    exact State.posted_of_notify hr List.prefix_rfl (after.outbox .office)
  · intro ho hs
    have crew : s.postLiftDone k c post = office.post .crew .liftDone (liftDonePayload k c post) :=
      if_pos (by rw [ho, hs]; rfl)
    rw [crew]
    exact State.posted_of_notify (calm.run.trans hr) (grown.outbox .crew) List.prefix_rfl

/-- The record of a visit has been handed over (R155). -/
def State.visitLogged (v : Visit) (s : State) : State := (s.modLift fun x => { x with visit := none }).logAppend (.visit v s.stamp)

theorem State.completeVisit_eq {v : Visit} (h : s.lift.visit = some v) : s.completeVisit
    = (s.visitLogged v).modLift fun x => { x with session := none, linkDeadline := none } := by
  unfold State.completeVisit
  rw [h]
  rfl

theorem State.relogged_visitLogged (s : State) (v : Visit) :
    (s.modLift fun x => { x with visit := none }).Relogged (s.visitLogged v) := State.relogged_logAppend _ _

theorem State.visitLogged_lift (s : State) (v : Visit) : (s.visitLogged v).lift = { s.lift with visit := none } :=
  (State.relogged_logAppend _ _).lift

theorem State.visitLogged_stamp (s : State) (v : Visit) : (s.visitLogged v).stamp = s.stamp :=
  (State.relogged_logAppend _ _).stamp.trans (s.stamp_modLift _)

/-- The lift of a visit that is completed, and its record (R155). -/
theorem State.completeVisit_of_some {v : Visit} (h : s.lift.visit = some v) :
    s.completeVisit.lift.custody = s.lift.custody ∧ s.completeVisit.lift.session = none ∧ s.completeVisit.lift.visit = none
      ∧ s.completeVisit.stamp = s.stamp ∧ ∃ r ∈ s.completeVisit.log.records, r.body = .visit v s.stamp := by
  have lift : s.completeVisit.lift = { s.lift with visit := none, session := none, linkDeadline := none } := by
    rw [State.completeVisit_eq h, State.modLift_lift, State.visitLogged_lift]
  have records : s.completeVisit.log.records = s.log.records ++ [⟨s.log.seq, .visit v s.stamp⟩] := by
    rw [State.completeVisit_eq h, State.modLift_log]
    exact State.logAppend_records _ _
  refine ⟨by rw [lift], by rw [lift], by rw [lift], ?_, ⟨s.log.seq, _⟩, ?_, rfl⟩
  · rw [State.completeVisit_eq h, State.stamp_modLift, State.visitLogged_stamp]
  · rw [records]
    exact List.mem_append_right _ (List.mem_singleton.mpr rfl)

theorem State.completeVisit_of_none (h : s.lift.visit = none) : s.completeVisit = s := by
  unfold State.completeVisit
  rw [h]

theorem State.completeVisit_custody (s : State) : s.completeVisit.lift.custody = s.lift.custody := by
  cases h : s.lift.visit with
  | none => rw [State.completeVisit_of_none h]
  | some v => exact (State.completeVisit_of_some h).1

/-! ## The end of a lift as a whole -/

theorem State.closeLift_custody (s : State) (k : Slot) (post : Option Nat) : (s.closeLift k post).lift.custody = {} := by
  have closed : (s.liftClosed k post).lift.custody = {} := congrArg Lift.custody (s.liftClosed_lift k post)
  rw [State.closeLift_eq]
  split
  · exact (State.completeVisit_custody _).trans closed
  · exact closed

theorem State.liftClosed_bar (hc : (s.slot k).configured = true) : ((s.liftClosed k post).slot k).bars.lift = false := by
  have configured : ((s.liftLogged k post).slot k).configured = true :=
    ((s.spared_liftLogged k post).slot k).configured.trans hc
  unfold State.liftClosed
  rw [State.slot_congr (State.postLiftDone_slots ..)]
  split
  · exact State.clearCustody_bar _ k configured
  · exact State.clearCustody_bar _ k (by rw [State.slot_addLifted]; exact configured)

theorem State.completeVisit_bar (s : State) (k : Slot) : (s.completeVisit.slot k).bars.lift = (s.slot k).bars.lift := by
  cases h : s.lift.visit with
  | none => rw [State.completeVisit_of_none h]
  | some v =>
    have logged := (s.relogged_visitLogged v).slot k
    rw [State.slot_modLift] at logged
    rw [State.completeVisit_eq h, State.slot_modLift]
    exact logged.has (b := .lift) (by decide)

theorem State.closeLift_bar (hc : (s.slot k).configured = true) : ((s.closeLift k post).slot k).bars.lift = false := by
  rw [State.closeLift_eq]
  split
  · rw [State.completeVisit_bar]; exact State.liftClosed_bar hc
  · exact State.liftClosed_bar hc

theorem State.liftClosed_posted (hr : s.run = .running) :
    s.posted (s.liftClosed k post) .office 0xCA (liftDonePayload k s.lift.custody post)
      ∧ (s.lift.custody.orphaned = false → s.lift.session.isSome = true →
        s.posted (s.liftClosed k post) .crew 0xCA (liftDonePayload k s.lift.custody post)) := by
  have ends (x : State) (grew : s.Grown x) (session : x.lift.session = s.lift.session) :
      s.posted ((x.clearCustody k).postLiftDone k s.lift.custody post) .office 0xCA (liftDonePayload k s.lift.custody post)
        ∧ (s.lift.custody.orphaned = false → s.lift.session.isSome = true →
          s.posted ((x.clearCustody k).postLiftDone k s.lift.custody post) .crew 0xCA
            (liftDonePayload k s.lift.custody post)) := by
    have grown : s.Grown (x.clearCustody k) := Kept.clearCustody _ grew.holds
    have kept : (x.clearCustody k).lift.session = s.lift.session := by rw [State.clearCustody_lift]; exact session
    obtain ⟨office, crew⟩ := State.postLiftDone_posted (s := x.clearCustody k) (k := k) (post := post)
      (c := s.lift.custody) (grown.noticed.run.trans hr)
    exact ⟨office.around (grown.outbox .office) List.prefix_rfl, fun ho hs =>
      (crew ho (by rw [kept]; exact hs)).around (grown.outbox .crew) List.prefix_rfl⟩
  unfold State.liftClosed
  split
  · exact ends _ (s.grown_liftLogged k post) (by rw [State.liftLogged_lift])
  · exact ends _ (Kept.addLifted _ (s.grown_liftLogged k post).holds)
      (by rw [State.addLifted_lift, State.liftLogged_lift])

/-- The end of CLOSING, seen from the state in which it ends (R150). -/
theorem State.closeLift_ended (hc : (s.slot k).configured = true) (hr : s.run = .running) :
    s.liftEnded (s.closeLift k post) k post := by
  have after := s.grown_liftClosed_closeLift k post
  have lift := s.liftClosed_lift k post
  have stamp : (s.liftClosed k post).stamp = s.stamp := (s.spared_liftClosed k post).stamp
  obtain ⟨r, hr', body⟩ := s.liftClosed_record k post
  obtain ⟨office, crew⟩ := State.liftClosed_posted (k := k) (post := post) hr
  refine ⟨⟨r, after.records.subset hr', body⟩, s.closeLift_custody k post, State.closeLift_bar hc, fun orphaned => ?orphan,
    fun v hv orphaned => ?visit, office.around List.prefix_rfl (after.outbox .office), fun orphaned session => ?crew⟩
  case orphan =>
    have stays : s.closeLift k post = s.liftClosed k post := by
      rw [State.closeLift_eq, orphaned]
      rfl
    rw [stays, lift, orphaned]
    exact ⟨rfl, rfl⟩
  case visit =>
    rw [Option.mem_def] at hv
    rw [orphaned, hv] at lift
    have ends : (s.liftClosed k post).lift.visitEnds = s.lift.session.all CrewSession.closePending := by
      rw [lift]
      unfold Lift.visitEnds
      cases s.lift.session <;> rfl
    have closes := s.closeLift_eq k post
    rw [orphaned, ends, Bool.not_false, Bool.true_and] at closes
    rw [closes]
    split
    · have visit : (s.liftClosed k post).lift.visit = some { v with lifted := v.lifted ++ [k] } := by rw [lift]; rfl
      obtain ⟨-, hsession, hvisit, hstamp, record⟩ := State.completeVisit_of_some visit
      rw [hstamp]
      exact ⟨hsession, hvisit, record⟩
    · rw [lift]
      exact ⟨rfl, rfl⟩
  case crew =>
    have told := (crew orphaned session).around List.prefix_rfl (after.outbox .crew)
    unfold liftDonePayload at told
    rwa [orphaned] at told

/-! ## Around the end of a lift -/

/-- What has gone before the end of a lift on slot k. -/
structure State.LiftBefore (s a : State) (k : Slot) : Prop where
  grown : s.Grown a
  lift : a.lift = s.lift
  record : (a.slot k).record = (s.slot k).record

/-- What comes after the end of a lift on slot k. -/
structure State.LiftAfter (u t : State) (k : Slot) : Prop where
  grown : u.Grown t
  lift : t.lift = u.lift
  bar : (t.slot k).bars.lift = (u.slot k).bars.lift
  stamp : t.stamp = u.stamp

theorem State.LiftBefore.refl (s : State) (k : Slot) : s.LiftBefore s k := ⟨.refl s, rfl, rfl⟩
theorem State.LiftAfter.refl (s : State) (k : Slot) : s.LiftAfter s k := ⟨.refl s, rfl, rfl, rfl⟩

theorem State.LiftAfter.trans (h : s.LiftAfter t k) (h' : t.LiftAfter u k) : s.LiftAfter u k :=
  ⟨h.grown.trans h'.grown, h'.lift.trans h.lift, h'.bar.trans h.bar, h'.stamp.trans h.stamp⟩

theorem State.LiftBefore.trans (h : s.LiftBefore t k) (h' : t.LiftBefore u k) : s.LiftBefore u k :=
  ⟨h.grown.trans h'.grown, h'.lift.trans h.lift, h'.record.trans h.record⟩

theorem State.Reranged.liftAfter (h : s.Reranged t) (g : s.Grown t) (k : Slot) : s.LiftAfter t k :=
  ⟨g, h.lift, (h.slot k).has (b := .lift) (by decide), h.stamp⟩

theorem State.Reranged.liftBefore (h : s.Reranged t) (g : s.Grown t) (k : Slot) : s.LiftBefore t k :=
  ⟨g, h.lift, (h.slot k).record⟩

theorem State.liftBefore_modRanging (s : State) (f : Ranging → Ranging) (k : Slot) : s.LiftBefore (s.modRanging f) k :=
  ⟨(State.Grown.refl s).congr rfl rfl rfl, rfl, rfl⟩

theorem State.liftAfter_modRanging (s : State) (f : Ranging → Ranging) (k : Slot) : s.LiftAfter (s.modRanging f) k :=
  ⟨(State.Grown.refl s).congr rfl rfl rfl, rfl, rfl, rfl⟩

theorem State.liftBefore_answerWaiters (s : State) (j k : Slot) (o : RangeOutcome) :
    s.LiftBefore (s.answerWaiters j o) k :=
  ⟨Kept.answerWaiters _ _ (State.Grown.refl s).holds, (s.ranged_answerWaiters j o).lift,
    ((s.spared_answerWaiters j o).slot k).record⟩

theorem State.liftAfter_answerWaiters (s : State) (j k : Slot) (o : RangeOutcome) :
    s.LiftAfter (s.answerWaiters j o) k := by
  refine ⟨Kept.answerWaiters _ _ (State.Grown.refl s).holds, (s.ranged_answerWaiters j o).lift, ?_,
    (s.ranged_answerWaiters j o).stamp⟩
  rw [State.slot_answerWaiters]
  split <;> rfl

theorem State.liftAfter_chooseBurst (s : State) (k : Slot) : s.LiftAfter s.chooseBurst k :=
  s.reranged_chooseBurst.liftAfter (Kept.chooseBurst (State.Grown.refl s).holds) k

theorem State.liftBefore_chooseBurst (s : State) (k : Slot) : s.LiftBefore s.chooseBurst k :=
  s.reranged_chooseBurst.liftBefore (Kept.chooseBurst (State.Grown.refl s).holds) k

theorem State.liftEnded.around (h : a.liftEnded u k post) (before : s.LiftBefore a k) (after : u.LiftAfter t k) :
    s.liftEnded t k post := by
  obtain ⟨⟨r, hr, body⟩, custody, bar, orphan, visit, office, crew⟩ := h
  have records := after.grown.records.subset
  rw [before.record, before.lift] at body
  rw [before.lift] at orphan visit office crew
  refine ⟨⟨r, records hr, body⟩, by rw [after.lift]; exact custody, after.bar.trans bar, ?_, fun v hv orphaned => ?_,
    office.around (before.grown.outbox .office) (after.grown.outbox .office), fun orphaned session =>
      (crew orphaned session).around (before.grown.outbox .crew) (after.grown.outbox .crew)⟩
  · rw [after.lift]; exact orphan
  · have ended := visit v hv orphaned
    rw [after.lift, after.stamp]
    split
    · next closes =>
      rw [if_pos closes] at ended
      obtain ⟨session, visit, x, hx, body⟩ := ended
      exact ⟨session, visit, x, records hx, body⟩
    · next stays =>
      rw [if_neg stays] at ended
      exact ended

/-- A lift in CLOSING that is reported ends (R150). -/
theorem State.liftReport_ended (h : s.custodyOn k = .closing) (hc : (s.slot k).configured = true) (hr : s.run = .running) :
    s.liftEnded (s.liftReport k post) k post := by
  have closes : s.liftReport k post = s.closeLift k post := if_pos h
  rw [closes]
  exact State.closeLift_ended hc hr

theorem State.liftReport_of_not_closing (h : s.custodyOn k ≠ .closing) : s.liftReport k post = s := if_neg h

theorem State.reportDiscard_of_not_closing (h : s.custodyOn k ≠ .closing) (c : RangeCause) : s.reportDiscard k c = s := by
  unfold State.reportDiscard
  rw [State.liftReport_of_not_closing h, ite_self]

end

end Sys2Proof.Machine
end

section
/-! SUPPORT. Raw levels, pending changes and accepted edges (O31): whatever an edge causes, the levels of the lines and the
moment stay (R18, R20, R21). -/

namespace Sys2Proof.Machine

section
variable {s t u : State} {j k : Slot} {l : Line} {level : Bool} {ms : Nat}

/-! ## RAW_LEVEL_CHANGE and FILTER_TIME_ELAPSED (R20, R21) -/

theorem exec_rawLevelChange_powered (h : s.run ≠ .off) : exec (.rawLevelChange k l level ms) s
    = .next ((s.elapse ms).modSlot k fun u => { u with
      lines := u.lines.set ((u.lines.get l).rawChange level (s.now + ms) (u.record.filterMs l)) l }) := by
  change Host.Outcome.next ((s.elapse ms).rawChange k l level) = _
  unfold State.rawChange
  refine congrArg Host.Outcome.next (State.modSlot_congr ?_)
  rw [if_neg (by exact h)]
  rfl

theorem exec_rawLevelChange_off (h : s.run = .off) : exec (.rawLevelChange k l level ms) s
    = .next ((s.elapse ms).modSlot k fun u => { u with lines := u.lines.set { u.lines.get l with raw := level } l }) := by
  change Host.Outcome.next ((s.elapse ms).rawChange k l level) = _
  unfold State.rawChange
  refine congrArg Host.Outcome.next (State.modSlot_congr ?_)
  rw [if_pos (by exact h)]

/-- A raw level: a change away from the accepted level is pending, one back to it is not. -/
theorem Filter.rawChange_eq (f : Filter) (level : Bool) (now filterMs : Nat) : f.rawChange level now filterMs
    = { f with
        raw := level
        pending := if level = f.raw then f.pending else if level = f.accepted then none else some ⟨now, filterMs⟩ } := by
  unfold Filter.rawChange
  split
  · next h => rw [h]
  · split <;> rfl

theorem exec_filterTimeElapsed_idle (h : ((s.slot k).lines.get l).pending = none) :
    exec (.filterTimeElapsed k l) s = .next s := by
  change Host.Outcome.next (s.filterElapsed k l) = _
  unfold State.filterElapsed
  rw [h]

theorem State.deliverEdge_unconfigured (h : (s.slot k).configured = false) : s.deliverEdge k l level = s :=
  if_pos (by rw [h]; rfl)

/-! ## States with the same moment and lines -/

/-- The moment and the lines of every slot are as they were. -/
structure State.Lined (s t : State) : Prop where
  now : t.now = s.now
  lines : ∀ j, (t.slot j).lines = (s.slot j).lines

theorem State.Lined.refl (s : State) : s.Lined s := ⟨rfl, fun _ => rfl⟩

theorem State.Lined.trans (h : s.Lined t) (h' : t.Lined u) : s.Lined u :=
  ⟨h'.now.trans h.now, fun j => (h'.lines j).trans (h.lines j)⟩

theorem State.Lined.ite {c : Prop} [Decidable c] (ht : c → s.Lined t) (hu : ¬ c → s.Lined u) :
    s.Lined (if c then t else u) := by
  split
  · next h => exact ht h
  · next h => exact hu h

theorem State.Spared.lined (h : s.Spared t) : s.Lined t := ⟨h.now, fun j => (h.slot j).lines⟩
theorem State.Ended.lined (h : s.Ended t k) : s.Lined t := ⟨h.now, fun j => (h.slot j).lines⟩
theorem State.Quieted.lined (h : s.Quieted t) : s.Lined t := ⟨h.now, fun j => (h.slot j).lines⟩
theorem State.Relogged.lined (h : s.Relogged t) : s.Lined t := h.spared.lined

/-- A step that leaves the slots and the moment. -/
theorem State.lined_of_slots (hn : t.now = s.now) (hs : t.slots = s.slots) : s.Lined t :=
  ⟨hn, fun j => by rw [State.slot_congr hs]⟩

theorem State.lined_modSlot (k : Slot) {f : SlotUnit → SlotUnit} (h : (f (s.slot k)).lines = (s.slot k).lines) :
    s.Lined (s.modSlot k f) := by
  refine ⟨rfl, fun j => ?_⟩
  rw [State.slot_modSlot]
  split
  · next e => subst e; exact h
  · rfl

theorem State.lined_changeBar (s : State) (k : Slot) (b : Bar) (v : Bool) : s.Lined (s.changeBar k b v) := by
  refine ⟨(s.barred_changeBar k b v).now, fun j => ?_⟩
  rw [State.slot_changeBar]
  split
  · exact SlotUnit.withBar_lines ..
  · rfl

theorem State.lined_setBar (s : State) (k : Slot) (b : Bar) : s.Lined (s.setBar k b) :=
  (s.lined_changeBar k b true).trans (s.ended_setBar k b).lined

theorem State.lined_alert (s : State) (a : Alert) : s.Lined (s.alert a) := (s.relogged_alert a).lined

theorem State.lined_post (s : State) (p : Port) (n : NoticeKind) (pl : List Byte) : s.Lined (s.post p n pl) :=
  State.lined_of_slots (State.post_now ..) (State.post_slots ..)

theorem State.lined_postCustody (s : State) (k : Slot) (st : CustodyState) (r : Option CustodyReason) :
    s.Lined (s.postCustody k st r) := (s.quieted_postCustody k st r).lined

theorem State.lined_enterCustody (s : State) (st : CustodyState) (d : Option Nat) : s.Lined (s.enterCustody st d) :=
  (s.quieted_enterCustody st d).lined

/-! ## Turns of the drum (R22, R23) -/

theorem State.lined_modTrack (s : State) (k : Slot) (f : Tracking → Tracking) : s.Lined (s.modTrack k f) :=
  State.lined_modSlot k rfl

theorem State.lined_drumLeft (s : State) (k : Slot) : s.Lined (s.drumLeft k) := by
  unfold State.drumLeft
  split
  · rw [State.intakeTurnBegins_eq]
    exact (s.lined_modTrack k _).trans (State.lined_modSlot k rfl)
  · exact .refl s
  · exact .refl s

theorem State.lined_drumReachedOpen (s : State) (k : Slot) : s.Lined (s.drumReachedOpen k) := by
  unfold State.drumReachedOpen
  split
  · exact s.lined_modTrack k _
  · exact .refl s
  · exact .refl s

theorem State.lined_evaluateThresholds (s : State) (b : Bool) (k : Slot) : s.Lined (s.evaluateThresholds b k) := by
  have full : s.Lined (s.evaluateFull b k) := by
    unfold State.evaluateFull State.setFull
    exact .ite (fun _ => .ite (fun _ => s.lined_changeBar ..) fun _ => s.lined_setBar ..)
      fun _ => .ite (fun _ => s.lined_changeBar ..) fun _ => .refl s
  have demand (x : State) (c : Bool) : x.Lined (x.evaluateDemand c k) :=
    State.lined_of_slots (congrArg State.now (x.evaluateDemand_frame c k) :) (x.evaluateDemand_slots c k)
  exact full.trans (demand ..)

theorem State.lined_recomputeHours (s : State) (k : Slot) : s.Lined (s.recomputeHours k) := by
  have filled : s.Lined (s.modFill k fun x => { x with hf := (s.slot k).hours }) := State.lined_modSlot k rfl
  exact filled.trans (State.lined_of_slots (congrArg State.now (s.recomputeHours_frame k) :) (s.recomputeHours_slots k))

theorem State.lined_setEstimate (s : State) (k : Slot) (e : Nat) : s.Lined (s.setEstimate k e) :=
  have recomputed (x : State) : x.Lined (x.recompute k) := State.lined_modSlot k rfl
  State.Lined.trans (t := s.modFill k fun x => { x with e := e }) (State.lined_modSlot k rfl) (recomputed _)

theorem State.lined_deposit (s : State) (k : Slot) : s.Lined (s.deposit k) := by
  have filled : s.Lined (s.modFill k fun x => { x with a := satAdd 65535 x.a (s.slot k).record.increment }) :=
    State.lined_modSlot k rfl
  exact ((filled.trans (State.lined_setEstimate ..)).trans (State.lined_evaluateThresholds ..)).trans
    (State.lined_recomputeHours ..)

/-! Charges change the Arbiter and the Card Resolver alone (R75, R88). -/

/-- Nothing but the Arbiter and the Card Resolver has changed. -/
def State.Charges (s t : State) : Prop := t = { s with arbiter := t.arbiter, resolver := t.resolver }

theorem State.Charges.refl (s : State) : s.Charges s := rfl

theorem State.Charges.trans (h : s.Charges t) (h' : t.Charges u) : s.Charges u := by
  unfold State.Charges at h h' ⊢
  rw [h', h]

theorem State.Charges.now (h : s.Charges t) : t.now = s.now := (congrArg State.now h :)
theorem State.Charges.slots (h : s.Charges t) : t.slots = s.slots := (congrArg State.slots h :)

theorem State.charges_modResolver (s : State) (f : Resolver → Resolver) : s.Charges (s.modResolver f) := rfl

theorem State.charges_tryGrant (s : State) : s.Charges s.tryGrant := by
  unfold State.tryGrant
  split
  · exact .refl s
  · split
    · unfold State.grant
      split
      · exact .refl s
      · rfl
    · exact .refl s

theorem State.charges_placeRequest (s : State) (r : Requester) (q : StoreRequest) : s.Charges (s.placeRequest r q) :=
  State.Charges.trans (t := { s with arbiter := s.arbiter.setSide { s.arbiter.side r with waiting := some q } r }) rfl
    (State.charges_tryGrant _)

theorem State.charges_takeCharge (s : State) : s.Charges s.takeCharge := by
  unfold State.takeCharge
  split
  · split
    · exact (s.charges_modResolver _).trans (State.charges_placeRequest ..)
    · exact (s.charges_modResolver _).trans (State.charges_placeRequest ..)
  · exact .refl s

theorem State.charges_modCached (s : State) (n : CardNo) (f : CacheEntry → CacheEntry) : s.Charges (s.modCached n f) := by
  unfold State.modCached
  split
  · rfl
  · exact .refl s

theorem State.charges_charge (s : State) (n : CardNo) : s.Charges (s.charge n) := by
  have cached : s.Charges (s.chargeCache n) := s.charges_modCached n _
  unfold State.charge
  dsimp only
  split
  · exact (cached.trans (State.charges_modResolver _ _)).trans (State.charges_takeCharge _)
  · exact cached

theorem State.charges_chargeTurn (s : State) (c : Session) (b : Bool) : s.Charges (s.chargeTurn c b) := by
  unfold State.chargeTurn
  split
  · exact s.charges_charge _
  · exact .refl s

theorem State.lined_intakeTurnEnds (s : State) (k : Slot) (counted : Bool) : s.Lined (s.intakeTurnEnds k counted) := by
  have charged (c : Session) : s.Lined (s.chargeTurn c counted) :=
    State.lined_of_slots (s.charges_chargeTurn c counted).now (s.charges_chargeTurn c counted).slots
  unfold State.intakeTurnEnds
  split
  · next c _ =>
    have idled (x : State) : x.Lined (x.startIdle k) := by
      unfold State.startIdle State.modIntake
      exact State.lined_modSlot k rfl
    exact (((charged c).trans (State.ended_setIntake _ k _).lined).trans (idled _)).trans (State.ended_homeTests _ k).lined
  · next c r _ => exact (charged c).trans (State.ended_closeSession _ k _ r).lined
  · exact .refl s
  · exact .refl s
  · exact .refl s

theorem State.lined_endTurn (s : State) (k : Slot) (counted : Bool) (away : Nat) : s.Lined (s.endTurn k counted away) := by
  have home := s.lined_modTrack k fun x => { x with drum := .atHome, jamDeadline := none }
  have recovered (x : State) : x.Lined (x.drumRecovered k counted away) :=
    (x.lined_changeBar k .drum false).trans (x.drumRecovered_cases k counted away).lined
  refine ((State.Lined.trans ?_ (State.spared_chooseBurst _).lined).trans (State.lined_intakeTurnEnds ..)).trans (recovered _)
  exact .ite (fun _ => (home.trans (State.lined_deposit ..)).trans (State.spared_returnBurst ..).lined) fun _ => home

theorem State.lined_drumCameHome (s : State) (k : Slot) : s.Lined (s.drumCameHome k) := by
  unfold State.drumCameHome
  dsimp only
  split
  · exact .refl s
  · exact s.lined_endTurn ..
  · exact s.lined_endTurn ..

/-! ## The platform, water and the tilt line (R26 to R30) -/

theorem State.lined_endHatchTest (s : State) (k : Slot) : s.Lined (s.endHatchTest k) := by
  unfold State.endHatchTest
  split
  · rw [State.endTest_eq]
    exact State.lined_modSlot k rfl
  · exact .refl s
  · exact .refl s

theorem State.lined_raise (s : State) (k : Slot) : s.Lined (s.raise k) := by
  unfold State.raise State.postLiftState
  exact (s.lined_enterCustody ..).trans (.ite (fun _ => .refl _) fun _ => State.lined_postCustody ..)

theorem State.lined_containerOut (s : State) (k : Slot) : s.Lined (s.containerOut k) :=
  (s.lined_setBar k .out).trans (State.lined_alert ..)

theorem State.lined_platformLeft (s : State) (k : Slot) : s.Lined (s.platformLeft k) := by
  unfold State.platformLeft
  refine (State.Lined.trans ?_ (State.lined_endHatchTest ..)).trans (State.spared_rangeUnseated ..).lined
  split
  · exact s.lined_raise k
  · exact .refl s
  all_goals exact s.lined_containerOut k

theorem State.lined_clearDemand (s : State) (k : Slot) (r : ClearReason) : s.Lined (s.clearDemand k r) :=
  State.lined_of_slots (s.barred_clearDemand k r).now (s.clearDemand_slots k r)

theorem State.lined_releaseCustody (s : State) (k : Slot) : s.Lined (s.releaseCustody k) :=
  (s.lined_enterCustody ..).trans (State.spared_requestLift ..).lined

theorem State.lined_returned (s : State) (k : Slot) : s.Lined (s.returned k) := by
  have entered : s.Lined (((s.setHatch k false).enterCustody .returned none).dropTip k) :=
    ((s.quieted_setHatch k false).trans (State.quieted_enterCustody ..)).lined.trans (State.quieted_dropTip ..).lined
  have filled (x : State) (b : Bool) : x.Lined (x.liftFill k b) :=
    .ite (fun _ => ((x.lined_setEstimate k 0).trans (State.lined_evaluateThresholds ..)).trans
      (State.lined_recomputeHours ..)) fun _ => .refl x
  have cleared (x : State) (b : Bool) : x.Lined (x.liftDemand k b) :=
    .ite (fun _ => x.lined_clearDemand k .lift) fun _ => .refl x
  have settled := (entered.trans (filled _ s.lift.custody.qualifying)).trans (cleared _ s.lift.custody.qualifying)
  unfold State.returned
  exact .ite (fun _ => settled.trans (State.lined_releaseCustody ..)) fun _ => settled.trans (State.lined_postCustody ..)

theorem State.lined_platformSeated (s : State) (k : Slot) : s.Lined (s.platformSeated k) := by
  have seated : s.Lined (s.seated k) :=
    .ite (fun _ => (s.lined_changeBar k .out false).trans (State.lined_alert ..)) fun _ => .refl s
  unfold State.platformSeated
  exact (seated.trans (.ite (fun _ => State.lined_returned ..) fun _ => .refl _)).trans (State.spared_chooseBurst _).lined

theorem State.lined_waterRose (s : State) (k : Slot) : s.Lined (s.waterRose k) := by
  have held := s.lined_modTrack k fun x => { x with floodHold := none }
  unfold State.waterRose
  refine State.Lined.trans (.ite (fun _ => held) fun _ => ?_) (State.spared_removeEntry ..).lined
  exact ((held.trans (State.lined_modTrack ..)).trans (State.lined_setBar ..)).trans (State.lined_alert ..)

theorem State.lined_waterFell (s : State) (k : Slot) : s.Lined (s.waterFell k) :=
  .ite (fun _ => s.lined_modTrack k _) fun _ => .refl s

theorem State.lined_tiltOn (s : State) (k : Slot) : s.Lined (s.tiltOn k) :=
  .ite (fun _ => s.lined_modTrack k _) fun _ => .refl s

theorem State.lined_tiltOff (s : State) (k : Slot) : s.Lined (s.tiltOff k) := by
  unfold State.tiltOff
  split
  · exact .ite (fun _ => (s.quieted_dropTip k).lined.trans (State.quieted_modCustody ..).lined) fun _ => .refl s
  · exact .refl s

/-- What an accepted edge causes leaves the lines and the moment (R3, R20). -/
theorem State.lined_deliverEdge (s : State) (k : Slot) (l : Line) (level : Bool) : s.Lined (s.deliverEdge k l level) := by
  unfold State.deliverEdge
  refine .ite (fun _ => .refl s) fun _ => ?_
  split
  · exact s.lined_drumLeft k
  · exact s.lined_drumCameHome k
  · exact s.lined_drumReachedOpen k
  · exact .refl s
  · exact s.lined_platformLeft k
  · exact s.lined_platformSeated k
  · exact s.lined_waterRose k
  · exact s.lined_waterFell k
  · exact s.lined_tiltOn k
  · exact s.lined_tiltOff k

end

/-- Settles O31: the accepted edge is delivered on a state with its lines set, and nothing it causes touches them. -/
theorem rawLevelsPendUntilTheyHaveHeld : Obligations.RawLevelsPendUntilTheyHaveHeld := by
  unfold Obligations.RawLevelsPendUntilTheyHaveHeld
  refine fun s k l level ms => ⟨fun h => ?_, fun h => exec_rawLevelChange_off h, fun h => exec_filterTimeElapsed_idle h,
    fun x hx => ⟨fun hc => ?_, ?_⟩⟩
  · rw [exec_rawLevelChange_powered h]
    exact congrArg Host.Outcome.next (State.modSlot_congr (by rw [Filter.rawChange_eq]))
  · rw [exec_filterTimeElapsed hx, State.deliverEdge_unconfigured (by rw [State.slot_accepts]; exact hc)]
    rfl
  · have delivered := State.lined_deliverEdge (s.accepts k l x) k l (!((s.slot k).lines.get l).accepted)
    refine ⟨_, exec_filterTimeElapsed hx, delivered.now.trans (s.accepts_now k l x), (delivered.lines k).trans ?_,
      fun j hj => (delivered.lines j).trans ?_⟩
    · rw [State.slot_accepts]; rfl
    · rw [State.slot_accepts_other _ _ _ hj]

end Sys2Proof.Machine
end

section
/-! SUPPORT. Water and FLOOD (O35; R28, R29): the removal of the request of a flooded slot, and the clear hold. -/

namespace Sys2Proof.Machine

section
variable {s t u a : State} {j k : Slot} {n : Nat}

/-! ## What the end of a lift leaves of the Ranging Unit (R150) -/

theorem State.quieted_modLift (s : State) (f : Lift → Lift) : s.Quieted (s.modLift f) := { slot := fun _ => .refl _ }

theorem State.quieted_liftLogged (s : State) (k : Slot) (post : Option Nat) : s.Quieted (s.liftLogged k post) :=
  (s.quieted_modCustody _).trans (State.relogged_logAppend _ _).quieted

theorem State.quieted_liftClosed (s : State) (k : Slot) (post : Option Nat) : s.Quieted (s.liftClosed k post) := by
  have posted (x : State) : x.Quieted (x.postLiftDone k s.lift.custody post) :=
    (x.barred_postLiftDone k _ post).quieted fun j => by
      rw [State.slot_congr (State.postLiftDone_slots ..)]
      exact .refl _
  unfold State.liftClosed
  split
  · exact ((s.quieted_liftLogged k post).trans (State.quieted_clearCustody _ k)).trans (posted _)
  · exact (((s.quieted_liftLogged k post).trans (State.quieted_modLift _ _)).trans
      (State.quieted_clearCustody _ k)).trans (posted _)

theorem State.quieted_completeVisit (s : State) : s.Quieted s.completeVisit := by
  cases h : s.lift.visit with
  | none => rw [State.completeVisit_of_none h]; exact .refl s
  | some v =>
    rw [State.completeVisit_eq h]
    exact ((s.quieted_modLift _).trans (s.relogged_visitLogged v).quieted).trans (State.quieted_modLift _ _)

theorem State.quieted_closeLift (s : State) (k : Slot) (post : Option Nat) : s.Quieted (s.closeLift k post) := by
  rw [State.closeLift_eq]
  split
  · exact (s.quieted_liftClosed k post).trans (State.quieted_completeVisit _)
  · exact s.quieted_liftClosed k post

theorem State.quieted_liftReport (s : State) (k : Slot) (post : Option Nat) : s.Quieted (s.liftReport k post) := by
  unfold State.liftReport
  split
  · exact s.quieted_closeLift k post
  · exact .refl s

theorem State.quieted_reportDiscard (s : State) (k : Slot) (c : RangeCause) : s.Quieted (s.reportDiscard k c) := by
  unfold State.reportDiscard
  split
  · exact s.quieted_liftReport k none
  · exact .refl s

/-! ## The removal of a queued entry (R28, R34) -/

theorem State.grown_liftReport (s : State) (k : Slot) (post : Option Nat) : s.Grown (s.liftReport k post) :=
  Kept.liftReport _ _ (State.Grown.refl s).holds

theorem State.grown_reportDiscard (s : State) (k : Slot) (c : RangeCause) : s.Grown (s.reportDiscard k c) :=
  Kept.reportDiscard _ _ (State.Grown.refl s).holds

/-- The entry of slot k has left the queue and its waiters have been told (R28, R34). -/
def State.entryTold (k : Slot) (o : RangeOutcome) (s : State) : State :=
  (s.modRanging fun x => { x with queue := removeRange k x.queue }).answerWaiters k o

theorem State.removeEntry_of_none {o : RangeOutcome} (h : s.rangeEntry k = none) : s.removeEntry k o = s := by
  unfold State.removeEntry
  rw [h]

theorem State.removeEntry_of_some {o : RangeOutcome} {e : RangeEntry} (h : s.rangeEntry k = some e) :
    s.removeEntry k o = (s.entryTold k o).reportDiscard k e.cause := by
  unfold State.removeEntry
  rw [h]
  rfl

theorem State.entryTold_rangeEntry (s : State) (k : Slot) (o : RangeOutcome) : (s.entryTold k o).rangeEntry k = none := by
  unfold State.rangeEntry State.entryTold
  rw [State.answerWaiters_ranging]
  exact firstOf_removeRange_same k _

theorem State.rangeEntry_congr (h : t.ranging = s.ranging) (k : Slot) : t.rangeEntry k = s.rangeEntry k := by
  unfold State.rangeEntry
  rw [h]

theorem State.removeEntry_rangeEntry (s : State) (k : Slot) (o : RangeOutcome) :
    (s.removeEntry k o).rangeEntry k = none := by
  cases h : s.rangeEntry k with
  | none => rw [State.removeEntry_of_none h]; exact h
  | some e =>
    rw [State.removeEntry_of_some h, State.rangeEntry_congr (State.quieted_reportDiscard ..).ranging]
    exact s.entryTold_rangeEntry k o

/-- A waiter at OFFICE has its RANGE_RESULT posted as the waiters are answered (R34). -/
theorem State.answerWaiters_posted {o : RangeOutcome} (hr : s.run = .running) (hw : (s.slot k).range.waitOffice = true) :
    s.posted (s.answerWaiters k o) .office 0xC4 (encSlot k ++ o.fields) :=
  (State.WaitersKept.refl s k).answered.posted hr hw

theorem State.liftBefore_entryTold (s : State) (k : Slot) (o : RangeOutcome) : s.LiftBefore (s.entryTold k o) k :=
  (s.liftBefore_modRanging _ k).trans (State.liftBefore_answerWaiters _ k k o)

/-- The waiters of the removed entry have been told at OFFICE. -/
theorem State.removeEntry_posted {o : RangeOutcome} {e : RangeEntry} (h : s.rangeEntry k = some e) (hr : s.run = .running)
    (hw : (s.slot k).range.waitOffice = true) :
    s.posted (s.removeEntry k o) .office 0xC4 (encSlot k ++ o.fields) := by
  rw [State.removeEntry_of_some h]
  exact (State.answerWaiters_posted (s := s.modRanging fun x => { x with queue := removeRange k x.queue }) hr hw).around
    List.prefix_rfl ((State.grown_reportDiscard ..).outbox .office)

/-- A lift in CLOSING ends as the LIFT-class entry that it waits for is removed. -/
theorem State.removeEntry_ended {o : RangeOutcome} (h : s.rangeEntry k = some ⟨k, .lift⟩) (hk : s.custodyOn k = .closing)
    (hc : (s.slot k).configured = true) (hr : s.run = .running) : s.liftEnded (s.removeEntry k o) k none := by
  have told := s.liftBefore_entryTold k o
  have closing : (s.entryTold k o).custodyOn k = .closing := by unfold State.custodyOn at hk ⊢; rw [told.lift]; exact hk
  have configured : ((s.entryTold k o).slot k).configured = true :=
    (((s.spared_modRanging _).trans (State.spared_answerWaiters ..)).slot k).configured.trans hc
  rw [State.removeEntry_of_some h]
  exact (State.liftReport_ended closing configured (told.grown.noticed.run.trans hr)).around told (.refl _ k)

/-! ## Bars that an edge sets -/

theorem SlotUnit.Ended.floodHold {u v : SlotUnit} (h : u.Ended v) : v.track.floodHold = u.track.floodHold :=
  (congrArg (fun x : SlotUnit => x.track.floodHold) h.frame :)
theorem SlotUnit.Ended.floodSince {u v : SlotUnit} (h : u.Ended v) : v.track.floodSince = u.track.floodSince :=
  (congrArg (fun x : SlotUnit => x.track.floodSince) h.frame :)
theorem SlotUnit.Ended.due {u v : SlotUnit} (h : u.Ended v) : v.range.due = u.range.due :=
  (congrArg (fun x : SlotUnit => x.range.due) h.frame :)
theorem SlotUnit.Ended.waitOffice {u v : SlotUnit} (h : u.Ended v) : v.range.waitOffice = u.range.waitOffice :=
  (congrArg (fun x : SlotUnit => x.range.waitOffice) h.frame :)

theorem State.grown_setBar (s : State) (k : Slot) (b : Bar) : s.Grown (s.setBar k b) :=
  Kept.setBar _ _ (State.Grown.refl s).holds

theorem State.grown_alert (s : State) (x : Alert) : s.Grown (s.alert x) := Kept.alert _ (State.Grown.refl s).holds

/-- A bar set with its alert, as far as a lift that waits on the slot is concerned. -/
theorem State.liftBefore_setBar (b : Bar) (x : Alert) (h : s.custodyOn k ≠ .waiting) :
    s.LiftBefore ((s.setBar k b).alert x) k := by
  have barred := s.barred_changeBar k b true
  have ended := s.ended_setBar k b
  have custody : (s.changeBar k b true).custodyOn k ≠ .waiting := by rw [barred.custodyOn]; exact h
  refine ⟨(s.grown_setBar k b).trans (State.grown_alert ..),
    (State.relogged_alert ..).lift.trans ((ended.lift custody).trans barred.lift), ?_⟩
  rw [((State.relogged_alert (s.setBar k b) x).slot k).record, (ended.slot k).record, State.slot_changeBar_same,
    SlotUnit.withBar_record]

/-! ## WATER accepted on (R28) -/

/-- FLOOD has been set, if it was not, at this moment (R28). -/
def State.flooded (k : Slot) (s : State) : State :=
  if (s.slot k).bars.flood then s
  else ((s.modTrack k fun x => { x with floodSince := s.now }).setBar k .flood).alert (.floodOn k)

theorem State.waterRose_eq (s : State) (k : Slot) : s.waterRose k
    = ((s.modTrack k fun x => { x with floodHold := none }).flooded k).removeEntry k .cancelled := rfl

/-- What the setting of FLOOD leaves (R16, R28). -/
structure State.Flooded (s t : State) (k : Slot) : Prop where
  grown : s.Grown t
  ranging : t.ranging = s.ranging
  flood : (t.slot k).bars.flood = true
  floodHold : (t.slot k).track.floodHold = (s.slot k).track.floodHold
  floodSince : (s.slot k).bars.flood = false → (t.slot k).track.floodSince = s.now
  due : (t.slot k).range.due = (s.slot k).range.due
  waitOffice : (t.slot k).range.waitOffice = (s.slot k).range.waitOffice
  configured : (t.slot k).configured = (s.slot k).configured
  lift : s.custodyOn k ≠ .waiting → s.LiftBefore t k

theorem State.flooded_flooded (hc : (s.slot k).configured = true) : s.Flooded (s.flooded k) k := by
  unfold State.flooded
  split
  · next hf => exact ⟨.refl s, rfl, hf, rfl, fun h => absurd hf (by rw [h]; nofun), rfl, rfl, rfl, fun _ => .refl s k⟩
  · let since := s.modTrack k fun x => { x with floodSince := s.now }
    have atK : since.slot k = { s.slot k with track := { (s.slot k).track with floodSince := s.now } } :=
      State.slot_modSlot_same ..
    have barred := since.barred_changeBar k .flood true
    have changed : (since.changeBar k .flood true).slot k = (since.slot k).withBar .flood true := State.slot_changeBar_same ..
    have ended := since.ended_setBar k .flood
    have alerted := (since.setBar k .flood).relogged_alert (.floodOn k)
    have slotE := ended.slot k
    have slotA := alerted.slot k
    have noted : s.Grown since := (State.Grown.refl s).congr rfl rfl rfl
    have flood : ((since.setBar k .flood).slot k).bars.flood = true :=
      State.setBar_has .flood (by decide) (by decide) (by rw [atK]; exact hc)
    refine ⟨noted.trans ((since.grown_setBar k .flood).trans (State.grown_alert ..)), ?_, ?_, ?_, fun _ => ?_, ?_, ?_, ?_,
      fun hw => ?_⟩
    · exact alerted.ranging.trans (ended.ranging.trans barred.ranging)
    · exact (slotA.has (b := .flood) (by decide)).trans flood
    · rw [slotA.track, slotE.floodHold, changed, SlotUnit.withBar_track, atK]
    · rw [slotA.track, slotE.floodSince, changed, SlotUnit.withBar_track, atK]
    · rw [slotA.range, slotE.due, changed, SlotUnit.withBar_range, atK]
    · rw [slotA.range, slotE.waitOffice, changed, SlotUnit.withBar_range, atK]
    · rw [slotA.configured, slotE.configured, changed, SlotUnit.withBar_configured, atK]
    · exact State.LiftBefore.trans ⟨noted, rfl, by rw [atK]⟩ (State.liftBefore_setBar .flood (.floodOn k) hw)

/-- What water on a slot leaves behind (R28, R34, R150). -/
theorem State.waterRose_floods (hc : (s.slot k).configured = true) :
    let t := s.waterRose k
    (t.slot k).bars.flood = true ∧ t.rangeEntry k = none ∧ (t.slot k).track.floodHold = none
      ∧ ((s.slot k).bars.flood = false → (t.slot k).track.floodSince = s.now)
      ∧ (t.slot k).range.due = (s.slot k).range.due
      ∧ (s.run = .running → s.custodyOn k = .closing → s.rangeEntry k = some ⟨k, .lift⟩ → s.liftEnded t k none)
      ∧ (∀ e, s.run = .running → s.rangeEntry k = some e → (s.slot k).range.waitOffice = true →
        s.posted t .office 0xC4 (encSlot k ++ [3, 0, 0, 0, 0, 0, 0, 0])) := by
  let held := s.modTrack k fun x => { x with floodHold := none }
  have atK : held.slot k = { s.slot k with track := { (s.slot k).track with floodHold := none } } := State.slot_modSlot_same ..
  have flooded : held.Flooded (held.flooded k) k := State.flooded_flooded (by rw [atK]; exact hc)
  have removed := ((held.flooded k).spared_removeEntry k .cancelled).slot k
  have noted : s.Grown held := (State.Grown.refl s).congr rfl rfl rfl
  have entry : (held.flooded k).rangeEntry k = s.rangeEntry k := State.rangeEntry_congr flooded.ranging k
  have configured : ((held.flooded k).slot k).configured = true := by rw [flooded.configured, atK]; exact hc
  intro t
  have now : held.now = s.now := rfl
  refine ⟨?_, (held.flooded k).removeEntry_rangeEntry k .cancelled, ?_, fun hf => ?_, ?_, fun hr hk he => ?_,
    fun e hr he hw => ?_⟩
  · exact (removed.has .flood (by decide) (by decide)).trans flooded.flood
  · exact removed.floodHold.trans (flooded.floodHold.trans (by rw [atK]))
  · exact removed.floodSince.trans ((flooded.floodSince (by rw [atK]; exact hf)).trans now)
  · exact removed.due.trans (flooded.due.trans (by rw [atK]))
  · have before : s.LiftBefore (held.flooded k) k :=
      State.LiftBefore.trans ⟨noted, rfl, by rw [atK]⟩ (flooded.lift (by change s.custodyOn k ≠ _; rw [hk]; decide))
    have closing : (held.flooded k).custodyOn k = .closing := by unfold State.custodyOn at hk ⊢; rw [before.lift]; exact hk
    exact (State.removeEntry_ended (entry.trans he) closing configured (before.grown.noticed.run.trans hr)).around before
      (.refl _ k)
  · have grown := noted.trans flooded.grown
    exact (State.removeEntry_posted (o := .cancelled) (entry.trans he) (grown.noticed.run.trans hr)
      (flooded.waitOffice.trans (by rw [atK]; exact hw))).around (grown.outbox .office) List.prefix_rfl

/-! ## The clear hold ends (R29) -/

/-- What the log reserve counts (R172). -/
theorem State.reserveHolds_congr
    (sessions : ∀ j, (t.slot j).intake.state.chargedSession = (s.slot j).intake.state.chargedSession)
    (lift : t.lift = s.lift) (log : t.log = s.log) : t.reserveHolds = s.reserveHolds := by
  unfold State.reserveHolds State.inPreparation State.logFree
  rw [State.chargedSessions_congr sessions, lift, log]

/-- FLOOD is cleared at the end of the hold, ahead of its alert (R29). -/
def State.cleared (k : Slot) (s : State) : State :=
  (s.modTrack k fun x => { x with floodHold := none }).changeBar k .flood false

theorem exec_floodOff {d : Nat} (h : (s.slot k).track.floodHold = some d) : exec (.floodOff k) s = .next
    (((((s.elapseTo d).cleared k).alert
      (.floodOff k (min (((s.elapseTo d).now - (s.slot k).track.floodSince) / 60000) 65535))).setDue k).requestRange k
        .periodic) := by
  change Host.Outcome.next (s.floodOff k) = _
  unfold State.floodOff
  rw [h]
  rfl

theorem State.slot_cleared (s : State) (k : Slot) : (s.cleared k).slot k
    = SlotUnit.withBar .flood false { s.slot k with track := { (s.slot k).track with floodHold := none } } := by
  unfold State.cleared State.modTrack
  rw [State.slot_changeBar_same, State.slot_modSlot_same]

theorem State.barred_cleared (s : State) (k : Slot) : s.Barred (s.cleared k) :=
  State.Barred.trans (t := s.modTrack k fun x => { x with floodHold := none }) {} (State.barred_changeBar ..)

theorem State.cleared_log (s : State) (k : Slot) : (s.cleared k).log = s.log := by
  unfold State.cleared
  rw [State.changeBar_log]
  rfl

theorem State.cleared_reserveHolds (s : State) (k : Slot) : (s.cleared k).reserveHolds = s.reserveHolds := by
  refine State.reserveHolds_congr (fun j => ?_) (s.barred_cleared k).lift (s.cleared_log k)
  by_cases hj : j = k
  · subst hj
    rw [State.slot_cleared, SlotUnit.chargedSession_withBar]
  · unfold State.cleared State.modTrack
    rw [State.slot_changeBar_other _ _ _ hj, State.slot_modSlot_other _ _ hj]

/-- An alert under the reserve is the next record (R171, R172). -/
theorem State.alert_records {x : Alert} (h : s.reserveHolds = true) :
    (s.alert x).log.records = s.log.records ++ [⟨s.log.seq, .alert s.stamp x⟩] := by
  unfold State.alert State.logOffer
  rw [if_pos h, State.logAppend_records]

/-- What the end of the hold leaves behind (R29, R33). -/
theorem State.hold_ends (x : Alert) (hc : (s.slot k).configured = true) :
    let t := (((s.cleared k).alert x).setDue k).requestRange k .periodic
    t.now = s.now ∧ (t.slot k).bars.flood = false ∧ (t.slot k).track.floodHold = none
      ∧ (t.slot k).range.due = some (s.now + 60000 * s.config.rangingInterval) ∧ t.rangingAsked k .periodic
      ∧ (s.reserveHolds = true → s.log.records ++ [⟨s.log.seq, .alert t.stamp x⟩] <+: t.log.records) := by
  have barred := s.barred_cleared k
  have alerted := (s.cleared k).relogged_alert x
  have slotA := alerted.slot k
  rw [State.slot_cleared] at slotA
  have dueK := ((s.cleared k).alert x).slot_setDue k
  have asked := (((s.cleared k).alert x).setDue k).reranged_requestRange k (c := .periodic) (by decide)
  have slotT := asked.slot k
  rw [dueK] at slotT
  have flood : (((s.cleared k).alert x).slot k).bars.flood = false := by
    have kept := slotA.has (b := .flood) (by decide)
    rw [SlotUnit.withBar_bars _ _ _ (by exact hc), BarSet.has_put_same] at kept
    exact kept
  have configured : (((s.cleared k).alert x).slot k).configured = true :=
    slotA.configured.trans ((SlotUnit.withBar_configured ..).trans hc)
  intro t
  refine ⟨asked.now.trans (alerted.now.trans barred.now), (slotT.has (b := .flood) (by decide)).trans flood, ?_, ?_, ?_,
    fun hr => ?_⟩
  · rw [slotT.track]
    exact (congrArg Tracking.floodHold slotA.track).trans (by rw [SlotUnit.withBar_track])
  · rw [slotT.range, alerted.now, barred.now, alerted.config, barred.config]
  · exact (State.firstAsked_requestRange (by decide) (by rw [dueK]; exact configured) (by rw [dueK]; exact flood)).rangingAsked
  · have grown : ((s.cleared k).alert x).Grown t :=
      Kept.requestRange _ _ (Kept.setDue _ (State.Grown.refl _).holds)
    have stamp : t.stamp = (s.cleared k).stamp := asked.stamp.trans alerted.stamp
    have records := State.alert_records (x := x) ((s.cleared_reserveHolds k).trans hr)
    rw [← stamp, s.cleared_log k] at records
    rw [← records]
    exact grown.records

/-! ## The edges of the water line (R20) -/

theorem State.deliverEdge_water_on (h : (s.slot k).configured = true) :
    s.deliverEdge k .water true = s.waterRose k := by simp [State.deliverEdge, h]

theorem State.deliverEdge_water_off (h : (s.slot k).configured = true) :
    s.deliverEdge k .water false = s.waterFell k := by simp [State.deliverEdge, h]

/-- The acceptance of a level is before whatever a lift waits for. -/
theorem State.liftBefore_accepts (s : State) (k : Slot) (l : Line) (x : Pending) : s.LiftBefore (s.accepts k l x) k :=
  ⟨(State.Grown.refl s).congr rfl rfl rfl, rfl, by rw [State.slot_accepts]⟩

theorem State.accepts_frame (s : State) (k : Slot) (l : Line) (x : Pending) : s.accepts k l x
    = { s with now := (s.accepts k l x).now, clock := (s.accepts k l x).clock, slots := (s.accepts k l x).slots } := rfl

/-- A change of a slot goes no further than an acceptance. -/
theorem State.frame_modSlot (k : Slot) (f : SlotUnit → SlotUnit)
    (h : a = { s with now := n, clock := a.clock, slots := a.slots }) : a.modSlot k f
      = { s with now := n, clock := (a.modSlot k f).clock, slots := (a.modSlot k f).slots } :=
  congrArg (fun y : State => { y with slots := (a.modSlot k f).slots }) h

/-- An accepted edge, delivered on a configured slot. -/
theorem exec_edge {l : Line} {x : Pending} {b : Bool} (h : ((s.slot k).lines.get l).pending = some x)
    (hb : ((s.slot k).lines.get l).accepted = !b) :
    exec (.filterTimeElapsed k l) s = .next ((s.accepts k l x).deliverEdge k l b) := by
  rw [exec_filterTimeElapsed h, hb, Bool.not_not]

theorem water_on {x : Pending} (hc : (s.slot k).configured = true) (hx : ((s.slot k).lines.get .water).pending = some x)
    (hn : n = max s.now (x.since + x.filterMs)) (hl : ((s.slot k).lines.get .water).accepted = false) :
    ∃ t, exec (.filterTimeElapsed k .water) s = .next t
      ∧ (t.slot k).bars.flood = true ∧ t.rangeEntry k = none ∧ (t.slot k).track.floodHold = none
      ∧ ((s.slot k).bars.flood = false → (t.slot k).track.floodSince = n)
      ∧ (t.slot k).range.due = (s.slot k).range.due
      ∧ (s.run = .running → s.custodyOn k = .closing → s.rangeEntry k = some ⟨k, .lift⟩ → s.liftEnded t k none)
      ∧ (∀ e, s.run = .running → s.rangeEntry k = some e → (s.slot k).range.waitOffice = true →
        s.posted t .office 0xC4 (encSlot k ++ [3, 0, 0, 0, 0, 0, 0, 0])) := by
  have atK := s.slot_accepts k .water x
  have before := s.liftBefore_accepts k .water x
  have now := (s.accepts_now k .water x).trans hn.symm
  obtain ⟨flood, entry, hold, since, due, ended, posted⟩ :=
    State.waterRose_floods (s := s.accepts k .water x) (k := k) (by rw [atK]; exact hc)
  rw [atK] at since due posted
  rw [now] at since
  refine ⟨_, exec_edge hx (b := true) hl, ?_⟩
  rw [State.deliverEdge_water_on (by rw [atK]; exact hc)]
  exact ⟨flood, entry, hold, since, due, fun hr hk he => (ended hr hk he).around before (.refl _ k),
    fun e hr he hw => (posted e hr he hw).around (before.grown.outbox .office) List.prefix_rfl⟩

theorem water_off {x : Pending} (hc : (s.slot k).configured = true) (hx : ((s.slot k).lines.get .water).pending = some x)
    (hn : n = max s.now (x.since + x.filterMs)) (hl : ((s.slot k).lines.get .water).accepted = true) :
    ∃ t, exec (.filterTimeElapsed k .water) s = .next t
      ∧ t.slot k = { s.slot k with
          lines := (t.slot k).lines
          track := { (s.slot k).track with
            floodHold := if (s.slot k).bars.flood then some (n + 600000) else (s.slot k).track.floodHold } }
      ∧ (∀ j, j ≠ k → t.slot j = s.slot j) ∧ t = { s with now := n, clock := t.clock, slots := t.slots } := by
  have atK := s.slot_accepts k .water x
  have now := (s.accepts_now k .water x).trans hn.symm
  have frame := s.accepts_frame k .water x
  rw [now] at frame
  refine ⟨_, exec_edge hx (b := false) hl, ?_⟩
  rw [State.deliverEdge_water_off (by rw [atK]; exact hc)]
  unfold State.waterFell State.modTrack
  rw [atK]
  split
  · next hf =>
    refine ⟨?_, fun j hj => ?_, State.frame_modSlot k _ frame⟩
    · rw [State.slot_modSlot_same, atK, now]
      rfl
    · rw [State.slot_modSlot_other _ _ hj, State.slot_accepts_other _ _ _ hj]
  · exact ⟨by rw [atK], fun j hj => State.slot_accepts_other _ _ _ hj, frame⟩

end

/-- Settles O35: the removal follows the setting of FLOOD, and the report of a lift follows the answers to the waiters. -/
theorem floodSuspendsRanging : Obligations.FloodSuspendsRanging := by
  unfold Obligations.FloodSuspendsRanging
  refine fun s k n hc => ⟨fun x hx hn => ⟨water_on hc hx hn, water_off hc hx hn⟩, fun d hd hn => ?_⟩
  have now := (s.elapseTo_now d).trans hn.symm
  have ended := State.hold_ends (s := s.elapseTo d) (k := k)
    (.floodOff k (min (((s.elapseTo d).now - (s.slot k).track.floodSince) / 60000) 65535)) hc
  rw [now] at ended
  refine ⟨_, exec_floodOff hd, ?_⟩
  rw [now]
  exact ended

end Sys2Proof.Machine
end

section
/-! SUPPORT. The platform and the tilt line (O34; R26, R27, R30, R38, R146 to R148): what an unseated slot loses, and what a
container that comes back settles. -/

namespace Sys2Proof.Machine

section
variable {s t u a : State} {j k : Slot} {n : Nat}

/-! ## The choice of a burst beside a slot that may not be measured (R35) -/

theorem State.mayMeasure_unseated (h : (s.slot k).accepted .platform = false) {e : RangeEntry} (he : e.slot = k) :
    s.mayMeasure e = false := by
  unfold State.mayMeasure
  dsimp only
  rw [he, h, Bool.and_false, Bool.false_and]

theorem State.chooseBurst_burstOn_unseated (h : s.burstOn k = none) (hp : (s.slot k).accepted .platform = false) :
    s.chooseBurst.burstOn k = none := by
  obtain e | ⟨x, -, hx, e⟩ := s.chooseBurst_cases
  · rwa [e]
  · obtain ⟨-, b, burst, slot, -⟩ := s.startBurst_ranging x
    have eligible : s.mayMeasure x = true := List.find?_some hx
    have other : b.slot ≠ k := fun hb => by
      rw [State.mayMeasure_unseated hp (slot.symm.trans hb)] at eligible
      cases eligible
    rw [e]
    simp [State.burstOn, burst, other]

theorem State.chooseBurst_rangeEntry_unseated (hp : (s.slot k).accepted .platform = false) :
    s.chooseBurst.rangeEntry k = s.rangeEntry k := by
  obtain e | ⟨x, -, hx, e⟩ := s.chooseBurst_cases
  · rw [e]
  · have eligible : s.mayMeasure x = true := List.find?_some hx
    have other : x.slot ≠ k := fun hs => by
      rw [State.mayMeasure_unseated hp hs] at eligible
      cases eligible
    rw [e]
    unfold State.rangeEntry
    rw [(s.startBurst_ranging x).1]
    exact firstOf_removeRange_other other _

/-! ## A burst that is discarded and an entry that is removed (R38) -/

/-- The burst on slot k has ended without result and its waiters have been told (R34, R38). -/
def State.burstTold (k : Slot) (o : RangeOutcome) (s : State) : State :=
  (s.modRanging fun x => { x with burst := none }).answerWaiters k o

theorem State.discardBurst_of_none {o : RangeOutcome} (h : s.burstOn k = none) : s.discardBurst k o = s := by
  unfold State.discardBurst
  rw [h]

theorem State.discardBurst_of_some {o : RangeOutcome} {b : Burst} (h : s.burstOn k = some b) :
    s.discardBurst k o = (s.burstTold k o).reportDiscard k b.cause := by
  unfold State.discardBurst
  rw [h]
  rfl

theorem State.burstTold_ranging (s : State) (k : Slot) (o : RangeOutcome) :
    (s.burstTold k o).ranging = { s.ranging with burst := none } := State.answerWaiters_ranging ..

theorem State.spared_burstTold (s : State) (k : Slot) (o : RangeOutcome) : s.Spared (s.burstTold k o) :=
  (s.spared_modRanging _).trans (State.spared_answerWaiters ..)

theorem State.liftBefore_burstTold (s : State) (k : Slot) (o : RangeOutcome) : s.LiftBefore (s.burstTold k o) k :=
  (s.liftBefore_modRanging _ k).trans (State.liftBefore_answerWaiters _ k k o)

theorem State.discardBurst_burstOn (s : State) (k : Slot) (o : RangeOutcome) : (s.discardBurst k o).burstOn k = none := by
  cases h : s.burstOn k with
  | none => rw [State.discardBurst_of_none h]; exact h
  | some b =>
    rw [State.discardBurst_of_some h]
    unfold State.burstOn
    rw [(State.quieted_reportDiscard ..).ranging, State.burstTold_ranging]
    rfl

theorem State.grown_discardBurst (s : State) (k : Slot) (o : RangeOutcome) : s.Grown (s.discardBurst k o) :=
  Kept.discardBurst _ _ (State.Grown.refl s).holds

theorem State.discardBurst_posted {o : RangeOutcome} {b : Burst} (h : s.burstOn k = some b) (hr : s.run = .running)
    (hw : (s.slot k).range.waitOffice = true) :
    s.posted (s.discardBurst k o) .office 0xC4 (encSlot k ++ o.fields) := by
  rw [State.discardBurst_of_some h]
  exact (State.answerWaiters_posted (s := s.modRanging fun x => { x with burst := none }) hr hw).around List.prefix_rfl
    ((State.grown_reportDiscard ..).outbox .office)

/-- The LIFT-class entry of slot k has left the queue (R38). -/
def State.entryOut (k : Slot) (s : State) : State := s.modRanging fun x => { x with queue := removeRange k x.queue }

theorem State.removeLift_of_some (h : s.rangeEntry k = some ⟨k, .lift⟩) :
    s.removeLift k = ((s.entryOut k).liftReport k none).answerWaiters k .discarded := if_pos h

theorem State.removeLift_of_ne (h : s.rangeEntry k ≠ some ⟨k, .lift⟩) : s.removeLift k = s := if_neg h

theorem State.removeLift_burst (s : State) (k : Slot) : (s.removeLift k).ranging.burst = s.ranging.burst := by
  by_cases h : s.rangeEntry k = some ⟨k, .lift⟩
  · rw [State.removeLift_of_some h, State.answerWaiters_ranging, (State.quieted_liftReport ..).ranging]
    rfl
  · rw [State.removeLift_of_ne h]

theorem State.grown_removeLift (s : State) (k : Slot) : s.Grown (s.removeLift k) :=
  Kept.removeLift _ (State.Grown.refl s).holds

/-! ## A lift that does not close hears of no discard (R38, R150) -/

theorem State.custodyOn_congr (h : t.lift = s.lift) (k : Slot) : t.custodyOn k = s.custodyOn k := by
  unfold State.custodyOn
  rw [h]

theorem State.liftAfter_removeLift (h : s.custodyOn k ≠ .closing) : s.LiftAfter (s.removeLift k) k := by
  by_cases he : s.rangeEntry k = some ⟨k, .lift⟩
  · rw [State.removeLift_of_some he, State.liftReport_of_not_closing (s := s.entryOut k) h]
    exact (s.liftAfter_modRanging _ k).trans (State.liftAfter_answerWaiters ..)
  · rw [State.removeLift_of_ne he]
    exact .refl s k

theorem State.liftAfter_discardBurst (h : s.custodyOn k ≠ .closing) (o : RangeOutcome) :
    s.LiftAfter (s.discardBurst k o) k := by
  cases hb : s.burstOn k with
  | none => rw [State.discardBurst_of_none hb]; exact .refl s k
  | some b =>
    have same : (s.burstTold k o).lift = s.lift := (s.liftBefore_burstTold k o).lift
    rw [State.discardBurst_of_some hb,
      State.reportDiscard_of_not_closing (by rw [State.custodyOn_congr same]; exact h)]
    exact (s.liftAfter_modRanging _ k).trans (State.liftAfter_answerWaiters ..)

theorem State.liftAfter_rangeUnseated (h : s.custodyOn k ≠ .closing) : s.LiftAfter (s.rangeUnseated k) k := by
  have discarded := State.liftAfter_discardBurst h .discarded
  have chosen := discarded.trans (State.liftAfter_chooseBurst _ k)
  exact chosen.trans (State.liftAfter_removeLift (by rw [State.custodyOn_congr chosen.lift]; exact h))

/-! ## PLATFORM_SEATED accepted off at the Ranging Unit (R38) -/

theorem State.Spared.accepted (h : s.Spared t) (k : Slot) (l : Line) : (t.slot k).accepted l = (s.slot k).accepted l := by
  unfold SlotUnit.accepted
  rw [(h.slot k).lines]

theorem State.rangeUnseated_burstOn (hp : (s.slot k).accepted .platform = false) : (s.rangeUnseated k).burstOn k = none := by
  have chosen := State.chooseBurst_burstOn_unseated (s.discardBurst_burstOn k .discarded)
    (by rw [(s.spared_discardBurst k .discarded).accepted]; exact hp)
  unfold State.rangeUnseated State.burstOn
  rw [State.removeLift_burst]
  exact chosen

theorem State.rangeUnseated_posted {b : Burst} (h : s.burstOn k = some b) (hr : s.run = .running)
    (hw : (s.slot k).range.waitOffice = true) :
    s.posted (s.rangeUnseated k) .office 0xC4 (encSlot k ++ RangeOutcome.discarded.fields) := by
  have after : (s.discardBurst k .discarded).Grown (s.rangeUnseated k) :=
    State.Grown.trans (Kept.chooseBurst (State.Grown.refl _).holds) (State.grown_removeLift ..)
  exact (State.discardBurst_posted h hr hw).around List.prefix_rfl (after.outbox .office)

theorem State.custodyOn_closed (h : s.lift.custody = {}) (k : Slot) : s.custodyOn k = .none := by
  unfold State.custodyOn
  rw [h]
  exact ite_self _

/-- The entry of a lift in CLOSING ends it as it is removed. -/
theorem State.removeLift_ended (he : s.rangeEntry k = some ⟨k, .lift⟩) (hk : s.custodyOn k = .closing)
    (hc : (s.slot k).configured = true) (hr : s.run = .running) : s.liftEnded (s.removeLift k) k none := by
  rw [State.removeLift_of_some he]
  exact (State.liftReport_ended (s := s.entryOut k) hk hc hr).around (s.liftBefore_modRanging _ k)
    (State.liftAfter_answerWaiters ..)

theorem State.discardBurst_lift_ended {b : Burst} (h : s.burstOn k = some b) (hb : b.cause = .lift)
    (hk : s.custodyOn k = .closing) (hc : (s.slot k).configured = true) (hr : s.run = .running) :
    s.liftEnded (s.discardBurst k .discarded) k none := by
  have before := s.liftBefore_burstTold k .discarded
  have closing : (s.burstTold k .discarded).custodyOn k = .closing := by rw [State.custodyOn_congr before.lift]; exact hk
  have configured := ((s.spared_burstTold k .discarded).slot k).configured.trans hc
  rw [State.discardBurst_of_some h, hb]
  exact (State.liftReport_ended closing configured (before.grown.noticed.run.trans hr)).around before (.refl _ k)

/-- A burst that is not one of a lift ends without a report. -/
theorem State.discardBurst_other (h : ∀ b, s.burstOn k = some b → b.cause ≠ .lift) :
    s.LiftBefore (s.discardBurst k .discarded) k ∧ (s.discardBurst k .discarded).rangeEntry k = s.rangeEntry k := by
  cases hb : s.burstOn k with
  | none => rw [State.discardBurst_of_none hb]; exact ⟨.refl s k, rfl⟩
  | some b =>
    have silent : (s.burstTold k .discarded).reportDiscard k b.cause = s.burstTold k .discarded := if_neg (h b hb)
    rw [State.discardBurst_of_some hb, silent]
    refine ⟨s.liftBefore_burstTold k .discarded, ?_⟩
    unfold State.rangeEntry
    rw [State.burstTold_ranging]

/-- A lift in CLOSING that waits for a burst or an entry of slot k ends as the slot is unseated (R38, R150). -/
theorem State.rangeUnseated_ended (hk : s.custodyOn k = .closing) (hc : (s.slot k).configured = true)
    (hr : s.run = .running) (hp : (s.slot k).accepted .platform = false)
    (hw : s.rangeEntry k = some ⟨k, .lift⟩ ∨ ∃ b, s.burstOn k = some b ∧ b.cause = .lift) :
    s.liftEnded (s.rangeUnseated k) k none := by
  have discarded := s.spared_discardBurst k .discarded
  have chosen := discarded.trans (State.spared_chooseBurst _)
  by_cases hb : ∃ b, s.burstOn k = some b ∧ b.cause = .lift
  · obtain ⟨b, hb, lift⟩ := hb
    have ended := State.discardBurst_lift_ended hb lift hk hc hr
    have ⟨_, custody, _⟩ := ended
    have choice := State.liftAfter_chooseBurst (s.discardBurst k .discarded) k
    have removed := State.liftAfter_removeLift (s := (s.discardBurst k .discarded).chooseBurst) (k := k)
      (by rw [State.custodyOn_congr choice.lift, State.custodyOn_closed custody]; decide)
    exact ended.around (.refl s k) (choice.trans removed)
  · obtain ⟨before, entry⟩ := State.discardBurst_other fun b h lift => hb ⟨b, h, lift⟩
    have chose := before.trans (State.liftBefore_chooseBurst _ k)
    have entry' : (s.discardBurst k .discarded).chooseBurst.rangeEntry k = some ⟨k, .lift⟩ := by
      rw [State.chooseBurst_rangeEntry_unseated (by rw [discarded.accepted]; exact hp), entry]
      exact hw.resolve_right hb
    have closing := (State.custodyOn_congr chose.lift k).trans hk
    exact (State.removeLift_ended entry' closing ((chosen.slot k).configured.trans hc)
      (chose.grown.noticed.run.trans hr)).around chose (.refl _ k)

/-! ## PLATFORM_SEATED accepted off (R26, R146) -/

theorem State.deliverEdge_platform_off (h : (s.slot k).configured = true) :
    s.deliverEdge k .platform false = s.platformLeft k := by simp [State.deliverEdge, h]

theorem State.deliverEdge_platform_on (h : (s.slot k).configured = true) :
    s.deliverEdge k .platform true = s.platformSeated k := by simp [State.deliverEdge, h]

theorem State.endHatchTest_none (h : (s.slot k).locks.test = none) : s.endHatchTest k = s := by
  unfold State.endHatchTest
  rw [h]

theorem State.endHatchTest_cases (s : State) (k : Slot) :
    s.endHatchTest k = s ∨ s.endHatchTest k = s.modSlot k SlotUnit.testEnded := by
  unfold State.endHatchTest
  split
  · exact .inr (s.endTest_eq k)
  · exact .inl rfl
  · exact .inl rfl

/-- What the end of a hatch test leaves (R184). -/
structure State.TestEnded (s t : State) (k : Slot) : Prop where
  before : s.LiftBefore t k
  ranging : t.ranging = s.ranging
  slot : t.slot k = { s.slot k with locks := (t.slot k).locks }

theorem State.testEnded_endHatchTest (s : State) (k : Slot) : s.TestEnded (s.endHatchTest k) k := by
  obtain e | e := s.endHatchTest_cases k
  · rw [e]; exact ⟨.refl s k, rfl, rfl⟩
  · rw [e]
    refine ⟨⟨(State.Grown.refl s).congr rfl rfl rfl, rfl, ?_⟩, rfl, ?_⟩
    · rw [State.slot_modSlot_same]; rfl
    · rw [State.slot_modSlot_same]; rfl

theorem State.spared_enterCustody (s : State) (st : CustodyState) (d : Option Nat) : s.Spared (s.enterCustody st d) :=
  (s.spared_modLift _).trans (State.relogged_evaluateLog _).spared

theorem State.postCustody_slots (s : State) (k : Slot) (st : CustodyState) (r : Option CustodyReason) :
    (s.postCustody k st r).slots = s.slots := by
  unfold State.postCustody
  split
  · exact State.post_slots ..
  · rfl

theorem State.barred_postCustody (s : State) (k : Slot) (st : CustodyState) (r : Option CustodyReason) :
    s.Barred (s.postCustody k st r) := by
  unfold State.postCustody
  split
  · exact s.barred_post (by decide) _ _
  · exact (State.Relogged.refl s).toBarred

theorem State.spared_postCustody (s : State) (k : Slot) (st : CustodyState) (r : Option CustodyReason) :
    s.Spared (s.postCustody k st r) := (s.barred_postCustody k st r).ranged.spared (s.postCustody_slots k st r)

theorem State.enterCustody_lift (s : State) (st : CustodyState) (d : Option Nat) : (s.enterCustody st d).lift
    = { s.lift with custody := { s.lift.custody with state := st, deadline := d } } := (State.relogged_evaluateLog _).lift

theorem State.raise_cases (s : State) (k : Slot) :
    s.raise k = s.enterCustody .raised (some (s.now + Config.liftOvertimeMs))
      ∨ s.raise k = (s.enterCustody .raised (some (s.now + Config.liftOvertimeMs))).postCustody k .raised none := by
  unfold State.raise State.postLiftState
  split
  · exact .inl rfl
  · exact .inr rfl

theorem State.spared_raise (s : State) (k : Slot) : s.Spared (s.raise k) := by
  obtain e | e := s.raise_cases k
  · rw [e]; exact s.spared_enterCustody ..
  · rw [e]; exact (s.spared_enterCustody ..).trans (State.spared_postCustody ..)

theorem State.raise_lift (s : State) (k : Slot) : (s.raise k).lift
    = { s.lift with custody := { s.lift.custody with state := .raised, deadline := some (s.now + 900000) } } := by
  obtain e | e := s.raise_cases k
  · rw [e]; exact s.enterCustody_lift ..
  · rw [e, (State.barred_postCustody ..).lift]; exact s.enterCustody_lift ..

/-- A granted custody is raised by the platform (R26, R146). -/
theorem State.platformLeft_raises (hk : s.custodyOn k = .granted) (hp : (s.slot k).accepted .platform = false) :
    let t := s.platformLeft k
    t.burstOn k = none
      ∧ t.lift.custody = { s.lift.custody with state := .raised, deadline := some (s.now + 900000) }
      ∧ (t.slot k).bars.out = (s.slot k).bars.out
      ∧ ((s.slot k).locks.test = none → (t.slot k).locks = (s.slot k).locks) := by
  have left : s.platformLeft k = ((s.raise k).endHatchTest k).rangeUnseated k := by
    unfold State.platformLeft
    rw [hk]
  have raised := (s.spared_raise k).slot k
  have tested := (s.raise k).testEnded_endHatchTest k
  have unseated := (((s.raise k).endHatchTest k).spared_rangeUnseated k).slot k
  have lift : ((s.raise k).endHatchTest k).lift = _ := tested.before.lift.trans (s.raise_lift k)
  have state : ((s.raise k).endHatchTest k).custodyOn k = .raised := by
    have slot := State.custody_slot_of (s := s) (k := k) (by rw [hk]; decide)
    unfold State.custodyOn
    rw [lift]
    exact if_pos slot
  have after := State.liftAfter_rangeUnseated (s := (s.raise k).endHatchTest k) (k := k) (by rw [state]; decide)
  have platform : (((s.raise k).endHatchTest k).slot k).accepted .platform = false := by
    unfold SlotUnit.accepted at hp ⊢
    rw [tested.slot, raised.lines]
    exact hp
  intro t
  rw [show t = _ from left]
  refine ⟨State.rangeUnseated_burstOn platform, ?_, ?_, fun ht => ?_⟩
  · rw [after.lift, lift]
  · exact (unseated.has .out (by decide) (by decide)).trans
      ((congrArg (fun u : SlotUnit => u.bars.out) tested.slot).trans (raised.has .out (by decide) (by decide)))
  · rw [unseated.locks, State.endHatchTest_none (by rw [raised.locks]; exact ht), raised.locks]

/-- What the setting of OUT leaves (R5, R26). -/
structure State.SetOut (s t : State) (k : Slot) : Prop where
  grown : s.Grown t
  ranging : t.ranging = s.ranging
  out : (t.slot k).bars.out = true
  lines : (t.slot k).lines = (s.slot k).lines
  configured : (t.slot k).configured = (s.slot k).configured
  waitOffice : (t.slot k).range.waitOffice = (s.slot k).range.waitOffice
  lift : s.custodyOn k ≠ .waiting → s.LiftBefore t k

theorem State.containerOut_eq (s : State) (k : Slot) :
    s.containerOut k = (s.setBar k .out).alert (.outUnexpected k (s.custodyOn k)) := rfl

theorem State.setOut_containerOut (hc : (s.slot k).configured = true) : s.SetOut (s.containerOut k) k := by
  have changed := s.barred_changeBar k .out true
  have ended := s.ended_setBar k .out
  have slotE := ended.slot k
  have alerted := (s.setBar k .out).relogged_alert (.outUnexpected k (s.custodyOn k))
  have slotA := alerted.slot k
  rw [State.slot_changeBar_same] at slotE
  rw [State.containerOut_eq]
  refine ⟨(s.grown_setBar k .out).trans (State.grown_alert ..), ?_, ?_, ?_, ?_, ?_, State.liftBefore_setBar .out _⟩
  · exact alerted.ranging.trans (ended.ranging.trans changed.ranging)
  · exact (slotA.has (b := .out) (by decide)).trans (State.setBar_has .out (by decide) (by decide) hc)
  · rw [slotA.lines, slotE.lines, SlotUnit.withBar_lines]
  · rw [slotA.configured, slotE.configured, SlotUnit.withBar_configured]
  · rw [slotA.range, slotE.waitOffice, SlotUnit.withBar_range]

/-- A container that leaves its seat without custody is OUT (R5, R26, R38). -/
theorem State.platformLeft_out (hc : (s.slot k).configured = true) (hg : s.custodyOn k ≠ .granted)
    (hk : s.custodyOn k ≠ .raised) (hp : (s.slot k).accepted .platform = false) :
    let t := s.platformLeft k
    t.burstOn k = none ∧ (t.slot k).bars.out = true
      ∧ (s.run = .running → s.custodyOn k = .closing →
        s.rangeEntry k = some ⟨k, .lift⟩ ∨ (∃ b, s.burstOn k = some b ∧ b.cause = .lift) → s.liftEnded t k none)
      ∧ (∀ b, s.run = .running → s.burstOn k = some b → (s.slot k).range.waitOffice = true →
        s.posted t .office 0xC4 (encSlot k ++ [2, 0, 0, 0, 0, 0, 0, 0])) := by
  have left : s.platformLeft k = ((s.containerOut k).endHatchTest k).rangeUnseated k := by
    unfold State.platformLeft
    cases h : s.custodyOn k with
    | granted => exact absurd h hg
    | raised => exact absurd h hk
    | none => rfl
    | waiting => rfl
    | returned => rfl
    | closing => rfl
  have out := State.setOut_containerOut (s := s) (k := k) hc
  have tested := (s.containerOut k).testEnded_endHatchTest k
  have unseated := (((s.containerOut k).endHatchTest k).spared_rangeUnseated k).slot k
  have ranging : ((s.containerOut k).endHatchTest k).ranging = s.ranging := tested.ranging.trans out.ranging
  have platform : (((s.containerOut k).endHatchTest k).slot k).accepted .platform = false := by
    unfold SlotUnit.accepted at hp ⊢
    rw [tested.slot, out.lines]
    exact hp
  have burst : ((s.containerOut k).endHatchTest k).burstOn k = s.burstOn k := by unfold State.burstOn; rw [ranging]
  have noticed := out.grown.trans tested.before.grown
  intro t
  rw [show t = _ from left]
  refine ⟨State.rangeUnseated_burstOn platform, ?_, fun hr hk hw => ?_, fun b hr hb hw => ?_⟩
  · exact (unseated.has .out (by decide) (by decide)).trans
      ((congrArg (fun u : SlotUnit => u.bars.out) tested.slot).trans out.out)
  · have before := (out.lift (by rw [hk]; decide)).trans tested.before
    refine (State.rangeUnseated_ended ((State.custodyOn_congr before.lift k).trans hk) ?_
      (noticed.noticed.run.trans hr) platform ?_).around before (.refl _ k)
    · rw [tested.slot]; exact out.configured.trans hc
    · rw [State.rangeEntry_congr ranging, burst]; exact hw
  · refine (State.rangeUnseated_posted (burst.trans hb) (noticed.noticed.run.trans hr) ?_).around
      (noticed.outbox .office) List.prefix_rfl
    rw [tested.slot]
    exact out.waitOffice.trans hw

end

end Sys2Proof.Machine
end

section
/-! SUPPORT. The container that comes back in RAISED (O34): the hatch, the lift outcome and the release of an orphaned custody
(R27, R30, R56, R132, R148, R149, R153). -/

namespace Sys2Proof.Machine

section
variable {s t u a : State} {j k : Slot} {n : Nat}

/-! ## What the lift outcome leaves of the slot and of the lift (R56, R132) -/

/-- Nothing of slot k that the return of its container decides, and nothing of the lift, has changed. -/
structure State.Steady (s t : State) (k : Slot) : Prop where
  lift : t.lift = s.lift
  configured : (t.slot k).configured = (s.slot k).configured
  lines : (t.slot k).lines = (s.slot k).lines
  hatch : (t.slot k).locks.hatchReleased = (s.slot k).locks.hatchReleased
  tipStart : (t.slot k).track.tipStart = (s.slot k).track.tipStart
  out : (t.slot k).bars.out = (s.slot k).bars.out
  flood : (t.slot k).bars.flood = (s.slot k).bars.flood

theorem State.Steady.refl (s : State) (k : Slot) : s.Steady s k := ⟨rfl, rfl, rfl, rfl, rfl, rfl, rfl⟩

theorem State.Steady.trans (h : s.Steady t k) (h' : t.Steady u k) : s.Steady u k :=
  ⟨h'.lift.trans h.lift, h'.configured.trans h.configured, h'.lines.trans h.lines, h'.hatch.trans h.hatch,
    h'.tipStart.trans h.tipStart, h'.out.trans h.out, h'.flood.trans h.flood⟩

theorem State.Steady.custodyOn (h : s.Steady t k) : t.custodyOn k = s.custodyOn k := State.custodyOn_congr h.lift k

/-- A step that leaves the lift and the slots. -/
theorem State.steady_of_slots (hl : t.lift = s.lift) (hs : t.slots = s.slots) : s.Steady t k := by
  have same := State.slot_congr hs k
  refine ⟨hl, ?_, ?_, ?_, ?_, ?_, ?_⟩
  all_goals rw [same]

theorem State.steady_modFill (s : State) (k : Slot) (f : FillRecord → FillRecord) : s.Steady (s.modFill k f) k := by
  have atK : (s.modFill k f).slot k = { s.slot k with fill := f (s.slot k).fill } := State.slot_modSlot_same ..
  refine ⟨rfl, ?_, ?_, ?_, ?_, ?_, ?_⟩
  all_goals rw [atK]

theorem State.steady_recompute (s : State) (k : Slot) : s.Steady (s.recompute k) k := by
  refine ⟨rfl, ?_, ?_, ?_, ?_, ?_, ?_⟩
  all_goals rw [State.slot_recompute]

theorem State.steady_changeFull (s : State) (k : Slot) (v : Bool) : s.Steady (s.changeBar k .full v) k := by
  refine ⟨(s.barred_changeBar k .full v).lift, ?_, ?_, ?_, ?_, ?_, ?_⟩
  all_goals rw [State.slot_changeBar_same]
  · exact SlotUnit.withBar_configured ..
  · exact SlotUnit.withBar_lines ..
  · rw [SlotUnit.withBar_locks]
  · rw [SlotUnit.withBar_track]
  · exact SlotUnit.withBar_has_other (c := .out) _ _ _ (by decide)
  · exact SlotUnit.withBar_has_other (c := .flood) _ _ _ (by decide)

/-- Beside a custody that does not wait, the end of a session leaves the hatch (R115). -/
theorem State.hatch_endSession (r : EndReason) (h : s.custodyOn k ≠ .waiting) :
    ((s.endSession k r).slot k).locks.hatchReleased = (s.slot k).locks.hatchReleased := by
  cases hi : (s.slot k).intake.state with
  | opened c =>
    have shut : ((s.modSlot k SlotUnit.shut).slot k).locks.hatchReleased = (s.slot k).locks.hatchReleased := by
      rw [State.slot_modSlot_same]
      rfl
    rw [State.endSession_of_opened r hi]
    split
    · have recorded := (State.relogged_recordedSession (s.modSlot k SlotUnit.shut) k c r).slot k
      have quiet : ((s.modSlot k SlotUnit.shut).recordedSession k c r).custodyOn k ≠ .waiting := by
        rw [State.custodyOn_congr (State.relogged_recordedSession ..).lift]
        exact h
      rw [State.slot_modSlot_same] at recorded
      rw [State.closeSession_eq, State.slotQuiet_of_not_waiting quiet, recorded.locks]
      exact shut
    · rw [State.setIntake, State.modIntake, State.slot_modSlot_same]
      exact shut
  | idle => rw [State.endSession_of_not_opened r (by rw [hi]; rfl)]
  | barred => rw [State.endSession_of_not_opened r (by rw [hi]; rfl)]
  | verifying n => rw [State.endSession_of_not_opened r (by rw [hi]; rfl)]
  | closing c e => rw [State.endSession_of_not_opened r (by rw [hi]; rfl)]

theorem State.hatch_homeTests (h : s.custodyOn k ≠ .waiting) :
    ((s.homeTests k).slot k).locks.hatchReleased = (s.slot k).locks.hatchReleased := by
  unfold State.homeTests
  split
  · split
    · exact State.hatch_endSession _ h
    · rfl
  all_goals rfl

/-- Beside a custody that does not wait, FULL and what it does to an open session leave the rest (R16). -/
theorem State.steady_fullOnSession (h : s.custodyOn k ≠ .waiting) : s.Steady (s.barOnSession k .full) k := by
  have ended := s.ended_barOnSession k .full
  have slotE := ended.slot k
  refine ⟨ended.lift h, slotE.configured, slotE.lines, ?_, ended.tipStart h k,
    slotE.has .out (by decide) (by decide), slotE.has .flood (by decide) (by decide)⟩
  change ((ite _ (s.homeTests k) s).slot k).locks.hatchReleased = _
  split
  · exact State.hatch_homeTests h
  · rfl

theorem State.steady_setFull (h : s.custodyOn k ≠ .waiting) : s.Steady (s.setBar k .full) k := by
  have changed := s.steady_changeFull k true
  unfold State.setBar
  split
  · exact changed.trans (State.steady_fullOnSession (by rw [changed.custodyOn]; exact h))
  · exact .refl s k

theorem State.steady_evaluateThresholds (h : s.custodyOn k ≠ .waiting) : s.Steady (s.evaluateThresholds false k) k := by
  have full : s.Steady (s.evaluateFull false k) k := by
    unfold State.evaluateFull State.setFull
    dsimp only
    split
    · exact State.steady_setFull h
    · split
      · exact s.steady_changeFull k false
      · exact .refl s k
  have demand (x : State) (b : Bool) : x.Steady (x.evaluateDemand b k) k :=
    State.steady_of_slots (congrArg State.lift (x.evaluateDemand_frame b k) :) (x.evaluateDemand_slots b k)
  exact full.trans (demand ..)

theorem State.steady_recomputeHours (s : State) (k : Slot) : s.Steady (s.recomputeHours k) k :=
  (s.steady_modFill k fun x => { x with hf := (s.slot k).hours }).trans
    (State.steady_of_slots (s.lift_recomputeHours k) (s.recomputeHours_slots k))

theorem State.liftFill_untipped (s : State) (k : Slot) : s.liftFill k false = s := if_neg nofun
theorem State.liftFill_tipped (s : State) (k : Slot) :
    s.liftFill k true = ((s.setEstimate k 0).evaluateThresholds false k).recomputeHours k := if_pos rfl

theorem State.steady_liftFill (h : s.custodyOn k ≠ .waiting) (b : Bool) : s.Steady (s.liftFill k b) k := by
  cases b with
  | false => rw [State.liftFill_untipped]; exact .refl s k
  | true =>
    have emptied : s.Steady (s.setEstimate k 0) k :=
      (s.steady_modFill k fun x => { x with e := 0 }).trans (State.steady_recompute _ k)
    rw [State.liftFill_tipped]
    exact (emptied.trans (State.steady_evaluateThresholds (by rw [emptied.custodyOn]; exact h))).trans
      (State.steady_recomputeHours ..)

theorem State.liftDemand_tipped (s : State) (k : Slot) : s.liftDemand k true = s.clearDemand k .lift := if_pos rfl
theorem State.liftDemand_untipped (s : State) (k : Slot) : s.liftDemand k false = s := if_neg nofun

theorem State.steady_liftDemand (s : State) (b : Bool) : s.Steady (s.liftDemand k b) k := by
  cases b with
  | false => rw [State.liftDemand_untipped]; exact .refl s k
  | true => rw [State.liftDemand_tipped]; exact State.steady_of_slots (s.barred_clearDemand k .lift).lift (s.clearDemand_slots k .lift)

/-! ## The fill after a qualifying tip (R40, R56) -/

theorem State.fill_evaluateFull (s : State) (b : Bool) (j k : Slot) :
    ((s.evaluateFull b k).slot j).fill = (s.slot j).fill := by
  have changed (v : Bool) : ((s.changeBar k .full v).slot j).fill = (s.slot j).fill := by
    rw [State.slot_changeBar]
    split
    · exact SlotUnit.withBar_fill ..
    · rfl
  unfold State.evaluateFull State.setFull
  dsimp only
  split
  · split
    · exact changed true
    · exact ((s.ended_setBar k .full).slot j).fill.trans (changed true)
  · split
    · exact changed false
    · rfl

theorem State.fill_evaluateThresholds (s : State) (b : Bool) (j k : Slot) :
    ((s.evaluateThresholds b k).slot j).fill = (s.slot j).fill := by
  refine Eq.trans ?_ (s.fill_evaluateFull b j k)
  unfold State.evaluateThresholds
  dsimp only
  rw [State.slot_congr (State.evaluateDemand_slots ..)]

theorem State.fill_liftFill_tipped (s : State) (k : Slot) : ((s.liftFill k true).slot k).fill.e = 0
    ∧ ((s.liftFill k true).slot k).fill.a = (s.slot k).fill.a
    ∧ ((s.liftFill k true).slot k).fill.measured = (s.slot k).fill.measured := by
  have emptied : ((s.setEstimate k 0).slot k).fill = { (s.slot k).fill with
      e := 0, f := (s.slot k).record.fillOf 0, h := (s.slot k).record.headroom 0 } := by
    unfold State.setEstimate State.modFill
    rw [State.slot_recompute, State.slot_modSlot_same]
  rw [State.liftFill_tipped, State.slot_recomputeHours, State.fill_evaluateThresholds, emptied]
  exact ⟨rfl, rfl, rfl⟩

theorem State.demandOf_cleared (s : State) (k : Slot) (r : ClearReason) : (s.clearDemand k r).demandOf k = none := by
  unfold State.demandOf
  rw [(s.barred_clearDemand k r).demand]
  simp [demandRemove, List.find?_filter]

theorem State.demandOf_congr (h : t.demand = s.demand) (k : Slot) : t.demandOf k = s.demandOf k := by
  unfold State.demandOf
  rw [h]

/-! ## The release of an orphaned custody (R149, R153) -/

/-- A LIFT-class request of a dry slot whose platform is seated stands (R32, R149). -/
theorem State.requestLift_asked (hc : (s.slot k).configured = true) (hf : (s.slot k).bars.flood = false)
    (hp : (s.slot k).accepted .platform = true) :
    (s.requestLift k).lift = s.lift ∧ (s.requestLift k).firstAsked k .lift := by
  have queued : s.queueRange false k .lift = s.modRanging fun x => { x with queue := queueAfter false k .lift x.queue } := by
    unfold State.queueRange
    rw [hc, hf]
    rfl
  have placed : s.requestLift k = (s.modRanging fun x => { x with queue := queueAfter false k .lift x.queue }).chooseBurst := by
    unfold State.requestLift
    dsimp only
    rw [queued, if_pos (by exact hp)]
  have asked : (s.modRanging fun x => { x with queue := queueAfter false k .lift x.queue }).firstAsked k .lift :=
    .inl (firstOf_queueAfter_same false k .lift s.ranging.queue)
  rw [placed]
  exact ⟨(State.reranged_chooseBurst _).lift, asked.chooseBurst⟩

theorem State.releaseCustody_closes (hc : (s.slot k).configured = true) (hf : (s.slot k).bars.flood = false)
    (hp : (s.slot k).accepted .platform = true) : (s.releaseCustody k).firstAsked k .lift
      ∧ (s.releaseCustody k).lift
        = { s.lift with custody := { s.lift.custody with state := .closing, deadline := none } } := by
  have entered := s.spared_enterCustody .closing none
  obtain ⟨lift, asked⟩ := State.requestLift_asked (s := s.enterCustody .closing none) (k := k)
    ((entered.slot k).configured.trans hc) (((entered.slot k).has .flood (by decide) (by decide)).trans hf)
    ((entered.accepted k .platform).trans hp)
  exact ⟨asked, lift.trans (s.enterCustody_lift .closing none)⟩

theorem State.spared_releaseCustody (s : State) (k : Slot) : s.Spared (s.releaseCustody k) :=
  (s.spared_enterCustody .closing none).trans (State.spared_requestLift _ k)

/-! ## The container is back (R27, R148) -/

/-- The hatch is engaged, custody RETURNED and tip capture idle (R30, R148). -/
def State.handedBack (k : Slot) (s : State) : State := ((s.setHatch k false).enterCustody .returned none).dropTip k

/-- The lift outcome has reached the Fill Estimator and the Demand Queue (R56, R132). -/
def State.outcome (k : Slot) (s : State) : State :=
  ((s.handedBack k).liftFill k s.lift.custody.qualifying).liftDemand k s.lift.custody.qualifying

theorem State.returned_eq (s : State) (k : Slot) : s.returned k
    = if s.lift.custody.orphaned then (s.outcome k).releaseCustody k else (s.outcome k).postCustody k .returned none := rfl

theorem State.handedBack_lift (s : State) (k : Slot) : (s.handedBack k).lift
    = { s.lift with custody := { s.lift.custody with state := .returned, deadline := none } } :=
  (s.setHatch k false).enterCustody_lift .returned none

/-- The slot of a container that is back, ahead of the lift outcome. -/
structure SlotUnit.HandedBack (u v : SlotUnit) : Prop where
  hatch : v.locks.hatchReleased = false
  tipStart : v.track.tipStart = none
  configured : v.configured = u.configured
  lines : v.lines = u.lines
  fill : v.fill = u.fill
  has : ∀ b, b ≠ .log → b ≠ .lift → v.bars.has b = u.bars.has b

theorem State.slot_handedBack (s : State) (k : Slot) : (s.slot k).HandedBack ((s.handedBack k).slot k) := by
  have entered := ((s.setHatch k false).spared_enterCustody .returned none).slot k
  have atK : (s.setHatch k false).slot k = { s.slot k with locks := { (s.slot k).locks with hatchReleased := false } } :=
    State.slot_modSlot_same ..
  have dropped : (s.handedBack k).slot k = { ((s.setHatch k false).enterCustody .returned none).slot k with
      track := { (((s.setHatch k false).enterCustody .returned none).slot k).track with tipStart := none } } :=
    State.slot_modSlot_same ..
  rw [dropped]
  refine ⟨?_, rfl, ?_, ?_, ?_, fun b hl hi => ?_⟩
  · exact (congrArg Locks.hatchReleased entered.locks).trans (by rw [atK])
  · exact entered.configured.trans (by rw [atK])
  · exact entered.lines.trans (by rw [atK])
  · exact entered.fill.trans (by rw [atK])
  · exact (entered.has b hl hi).trans (by rw [atK])

theorem State.handedBack_demand (s : State) (k : Slot) : (s.handedBack k).demand = s.demand :=
  ((s.setHatch k false).spared_enterCustody .returned none).demand

theorem State.steady_outcome (hk : s.custodyOn k = .raised) : (s.handedBack k).Steady (s.outcome k) k := by
  have slot := State.custody_slot_of (s := s) (k := k) (by rw [hk]; decide)
  have returned : (s.handedBack k).custodyOn k = .returned := by
    unfold State.custodyOn
    rw [s.handedBack_lift k]
    exact if_pos slot
  exact (State.steady_liftFill (by rw [returned]; decide) _).trans (State.steady_liftDemand ..)

/-- The fill and the demand by the tip (R56, R132). -/
theorem State.outcome_fill (s : State) (k : Slot) :
    (s.lift.custody.qualifying = true → ((s.outcome k).slot k).fill.e = 0
      ∧ ((s.outcome k).slot k).fill.a = (s.slot k).fill.a
      ∧ ((s.outcome k).slot k).fill.measured = (s.slot k).fill.measured ∧ (s.outcome k).demandOf k = none)
    ∧ (s.lift.custody.qualifying = false → ((s.outcome k).slot k).fill = (s.slot k).fill ∧ (s.outcome k).demand = s.demand) := by
  have back := s.slot_handedBack k
  unfold State.outcome
  refine ⟨fun h => ?_, fun h => ?_⟩
  · obtain ⟨e, a, measured⟩ := (s.handedBack k).fill_liftFill_tipped k
    rw [h, State.liftDemand_tipped, State.slot_congr (State.clearDemand_slots ((s.handedBack k).liftFill k true) k .lift) k]
    rw [back.fill] at a measured
    exact ⟨e, a, measured, State.demandOf_cleared ..⟩
  · rw [h, State.liftFill_untipped, State.liftDemand_untipped]
    exact ⟨back.fill, s.handedBack_demand k⟩

/-- The slot and the demand keep what the outcome has made of them (R148, R153). -/
theorem State.spared_returned (s : State) (k : Slot) : (s.outcome k).Spared (s.returned k) := by
  rw [State.returned_eq]
  split
  · exact (s.outcome k).spared_releaseCustody k
  · exact (s.outcome k).spared_postCustody ..

theorem State.returned_lift (hk : s.custodyOn k = .raised) (h : s.lift.custody.orphaned = false) : (s.returned k).lift
    = { s.lift with custody := { s.lift.custody with state := .returned, deadline := none } } := by
  rw [State.returned_eq, h, if_neg nofun, (State.barred_postCustody ..).lift, (State.steady_outcome hk).lift]
  exact s.handedBack_lift k

theorem State.returned_closes (hk : s.custodyOn k = .raised) (h : s.lift.custody.orphaned = true)
    (hc : (s.slot k).configured = true) (hf : (s.slot k).bars.flood = false) (hp : (s.slot k).accepted .platform = true) :
    (s.returned k).firstAsked k .lift ∧ (s.returned k).lift
      = { s.lift with custody := { s.lift.custody with state := .closing, deadline := none } } := by
  have back := s.slot_handedBack k
  have steady := State.steady_outcome hk
  have platform : ((s.outcome k).slot k).accepted .platform = true := by
    unfold SlotUnit.accepted at hp ⊢
    rw [steady.lines, back.lines]
    exact hp
  obtain ⟨asked, lift⟩ := State.releaseCustody_closes (s := s.outcome k) (k := k)
    (steady.configured.trans (back.configured.trans hc))
    (steady.flood.trans ((back.has .flood (by decide) (by decide)).trans hf)) platform
  rw [State.returned_eq, h, if_pos rfl]
  refine ⟨asked, lift.trans ?_⟩
  rw [steady.lift, s.handedBack_lift k]

/-! ## OUT at a seated platform (R27) -/

/-- What the clearing of OUT leaves. -/
structure State.Seated (s t : State) (k : Slot) : Prop extends s.Barred t where
  frame : t.slot k = { s.slot k with bars := (t.slot k).bars, intake := (t.slot k).intake }
  has : ∀ b, b ≠ .log → b ≠ .out → (t.slot k).bars.has b = (s.slot k).bars.has b
  out : (t.slot k).bars.out = false

theorem State.seated_seated (hc : (s.slot k).configured = true) : s.Seated (s.seated k) k := by
  unfold State.seated
  split
  · have alerted := (s.changeBar k .out false).relogged_alert (.seated k)
    have slotA := alerted.slot k
    rw [State.slot_changeBar_same] at slotA
    refine { (s.barred_changeBar k .out false).trans alerted.toBarred with frame := ?_, has := fun b hl ho => ?_, out := ?_ }
    · rw [slotA.but, SlotUnit.withBar_frame]
    · exact (slotA.has hl).trans (SlotUnit.withBar_has_other _ _ _ ho)
    · have out := slotA.has (b := .out) (by decide)
      rw [SlotUnit.withBar_bars _ _ _ hc, BarSet.has_put_same] at out
      exact out
  · next h => exact { (State.Relogged.refl s).toBarred with frame := rfl, has := fun _ _ _ => rfl, out := by simpa using h }

/-- The container comes back in RAISED (R27, R30, R56, R132, R148, R149, R153). -/
theorem State.platformSeated_returns (hc : (s.slot k).configured = true) (hk : s.custodyOn k = .raised)
    (hp : (s.slot k).accepted .platform = true) :
    let t := s.platformSeated k
    (t.slot k).locks.hatchReleased = false ∧ (t.slot k).bars.out = false ∧ (t.slot k).track.tipStart = none
      ∧ (s.lift.custody.qualifying = true → (t.slot k).fill.e = 0 ∧ (t.slot k).fill.a = (s.slot k).fill.a
          ∧ (t.slot k).fill.measured = (s.slot k).fill.measured ∧ t.demandOf k = none)
      ∧ (s.lift.custody.qualifying = false → (t.slot k).fill = (s.slot k).fill ∧ t.demand = s.demand)
      ∧ (s.lift.custody.orphaned = false →
        t.lift = { s.lift with custody := { s.lift.custody with state := .returned, deadline := none } })
      ∧ (s.lift.custody.orphaned = true → (s.slot k).bars.flood = false →
        t.lift = { s.lift with custody := { s.lift.custody with state := .closing, deadline := none } }
          ∧ t.rangingAsked k .lift) := by
  have seated := State.seated_seated (s := s) (k := k) hc
  have raised : (s.seated k).custodyOn k = .raised := (seated.custodyOn k).trans hk
  have whole : s.platformSeated k = ((s.seated k).returned k).chooseBurst := by
    unfold State.platformSeated
    dsimp only
    rw [if_pos raised]
  have back := (s.seated k).slot_handedBack k
  have steady := State.steady_outcome raised
  have chosen := ((s.seated k).spared_returned k).trans (State.spared_chooseBurst _)
  have slotT := chosen.slot k
  have choice := State.reranged_chooseBurst ((s.seated k).returned k)
  have configured : ((s.seated k).slot k).configured = true := by rw [seated.frame]; exact hc
  have fill : ((s.seated k).slot k).fill = (s.slot k).fill := by rw [seated.frame]
  have platform : ((s.seated k).slot k).accepted .platform = true := by
    unfold SlotUnit.accepted at hp ⊢
    rw [seated.frame]
    exact hp
  obtain ⟨tipped, untipped⟩ := (s.seated k).outcome_fill k
  rw [seated.lift] at tipped untipped
  rw [fill] at tipped untipped
  intro t
  rw [show t = _ from whole]
  refine ⟨?_, ?_, ?_, fun hq => ?_, fun hq => ?_, fun ho => ?_, fun ho hf => ?_⟩
  · rw [slotT.locks]
    exact steady.hatch.trans back.hatch
  · exact (slotT.has .out (by decide) (by decide)).trans
      (steady.out.trans ((back.has .out (by decide) (by decide)).trans seated.out))
  · rcases slotT.tipStart with same | none
    · exact same.trans (steady.tipStart.trans back.tipStart)
    · exact none
  · obtain ⟨e, a, measured, demand⟩ := tipped hq
    rw [slotT.fill]
    exact ⟨e, a, measured, (State.demandOf_congr chosen.demand k).trans demand⟩
  · obtain ⟨filled, demand⟩ := untipped hq
    exact ⟨slotT.fill.trans filled, chosen.demand.trans (demand.trans seated.demand)⟩
  · rw [choice.lift, State.returned_lift raised (by rw [seated.lift]; exact ho), seated.lift]
  · obtain ⟨asked, lift⟩ := State.returned_closes raised (by rw [seated.lift]; exact ho) configured
      ((seated.has .flood (by decide) (by decide)).trans hf) platform
    rw [seated.lift] at lift
    exact ⟨choice.lift.trans lift, asked.chooseBurst.rangingAsked⟩

/-! ## The tilt line (R30, R147) -/

theorem State.deliverEdge_tilt_on (h : (s.slot k).configured = true) :
    s.deliverEdge k .tilt true = s.tiltOn k := by simp [State.deliverEdge, h]

theorem State.deliverEdge_tilt_off (h : (s.slot k).configured = true) :
    s.deliverEdge k .tilt false = s.tiltOff k := by simp [State.deliverEdge, h]

theorem State.tiltOn_starts (hk : s.custodyOn k = .raised) (ht : (s.slot k).track.tipStart = none) :
    ((s.tiltOn k).slot k).track.tipStart = some s.now ∧ (s.tiltOn k).lift = s.lift := by
  unfold State.tiltOn
  rw [if_pos ⟨hk, ht⟩]
  exact ⟨congrArg (fun u : SlotUnit => u.track.tipStart) (State.slot_modSlot_same ..), rfl⟩

theorem State.tiltOff_captures {t0 : Nat} (hk : s.custodyOn k = .raised) (ht : (s.slot k).track.tipStart = some t0) :
    ((s.tiltOff k).slot k).track.tipStart = none
      ∧ (s.tiltOff k).lift = { s.lift with custody := { s.lift.custody with
          tips := min (s.lift.custody.tips + 1) 255
          tipTime := min (s.lift.custody.tipTime + min ((s.now - t0) / 100) 6000) 6000
          qualifying := s.lift.custody.qualifying || decide (20 ≤ min ((s.now - t0) / 100) 6000) } } := by
  have captured : s.tiltOff k = (s.dropTip k).capturedTip (min ((s.now - t0) / 100) 6000) := by
    unfold State.tiltOff
    rw [ht]
    exact if_pos hk
  have dropped : ((s.dropTip k).slot k).track.tipStart = none := by
    unfold State.dropTip
    rw [State.slot_modSlot_same]
  rw [captured]
  exact ⟨dropped, rfl⟩

end

/-- Settles O34: every edge is accepted first; what it causes is then read off the Lift Controller's and the Ranging Unit's
share of it. -/
theorem liftsFollowThePlatform : Obligations.LiftsFollowThePlatform := by
  unfold Obligations.LiftsFollowThePlatform
  refine fun s k n hc => ⟨fun x hx hn => ?platform, fun x hx hn hk => ?tilt⟩
  case platform =>
    have atK := s.slot_accepts k .platform x
    have before := s.liftBefore_accepts k .platform x
    have now := (s.accepts_now k .platform x).trans hn.symm
    have configured : ((s.accepts k .platform x).slot k).configured = true := by rw [atK]; exact hc
    have edge : ((s.accepts k .platform x).slot k).accepted .platform = !((s.slot k).lines.get .platform).accepted := by
      rw [atK]; rfl
    have custody : (s.accepts k .platform x).custodyOn k = s.custodyOn k := rfl
    refine ⟨fun hl hk => ?raised, fun hl hg hk => ?out, fun hl hk => ?back⟩
    case raised =>
      obtain ⟨burst, lift, out, locks⟩ := State.platformLeft_raises (custody.trans hk) (by rw [edge, hl]; rfl)
      rw [now] at lift
      rw [atK] at out locks
      refine ⟨_, exec_edge hx (b := false) hl, ?_⟩
      rw [State.deliverEdge_platform_off configured]
      exact ⟨burst, lift, out, locks⟩
    case out =>
      obtain ⟨burst, out, ended, posted⟩ := State.platformLeft_out configured (by rw [custody]; exact hg)
        (by rw [custody]; exact hk) (by rw [edge, hl]; rfl)
      rw [atK] at posted
      refine ⟨_, exec_edge hx (b := false) hl, ?_⟩
      rw [State.deliverEdge_platform_off configured]
      exact ⟨burst, out, fun hr hk hw => (ended hr hk hw).around before (.refl _ k),
        fun b hr hb hw => (posted b hr hb hw).around (before.grown.outbox .office) List.prefix_rfl⟩
    case back =>
      have returns := State.platformSeated_returns configured (custody.trans hk) (by rw [edge, hl]; rfl)
      rw [atK] at returns
      refine ⟨_, exec_edge hx (b := true) hl, ?_⟩
      rw [State.deliverEdge_platform_on configured]
      exact returns
  case tilt =>
    have atK := s.slot_accepts k .tilt x
    have now := (s.accepts_now k .tilt x).trans hn.symm
    have configured : ((s.accepts k .tilt x).slot k).configured = true := by rw [atK]; exact hc
    refine ⟨fun hl ht => ?_, fun t0 hl ht => ?_⟩
    · have starts := State.tiltOn_starts (s := s.accepts k .tilt x) (k := k) hk (by rw [atK]; exact ht)
      rw [now] at starts
      refine ⟨_, exec_edge hx (b := true) hl, ?_⟩
      rw [State.deliverEdge_tilt_on configured]
      exact starts
    · have captures := State.tiltOff_captures (s := s.accepts k .tilt x) (k := k) hk (by rw [atK]; exact ht)
      rw [now] at captures
      refine ⟨_, exec_edge hx (b := false) hl, ?_⟩
      rw [State.deliverEdge_tilt_off configured]
      exact captures

end Sys2Proof.Machine
end

section
/-! SUPPORT. The end of a burst (O37): the estimate, the demand and the thresholds that follow a reading, the waiters and the
lift that wait for it (R34, R36, R43 to R47, R51, R53, R150). -/

namespace Sys2Proof.Machine

section
variable {s t u a : State} {j k : Slot} {b : Burst} {r : Option Nat}

/-! ## What the estimator leaves (R40, R46, R47, R51) -/

/-- What an outcome at the Fill Estimator leaves of the state: it may raise demand, set FULL and end a session. -/
structure State.Estimated (s t : State) (k : Slot) : Prop where
  calm : s.Calm t
  grown : s.Grown t
  ranging : t.ranging = s.ranging
  service : t.ports.service = s.ports.service
  lift : s.custodyOn k ≠ .waiting → t.lift = s.lift
  range : (t.slot k).range = { (s.slot k).range with delay := (t.slot k).range.delay }
  record : (t.slot k).record = (s.slot k).record
  configured : (t.slot k).configured = (s.slot k).configured
  others : ∀ j, j ≠ k → (t.slot j).fill = (s.slot j).fill

theorem State.Estimated.refl (s : State) (k : Slot) : s.Estimated s k :=
  ⟨(State.Relogged.refl s).toCalm, .refl s, rfl, rfl, fun _ => rfl, rfl, rfl, rfl, fun _ _ => rfl⟩

theorem State.Estimated.trans (h : s.Estimated t k) (h' : t.Estimated u k) : s.Estimated u k where
  calm := h.calm.trans h'.calm
  grown := h.grown.trans h'.grown
  ranging := h'.ranging.trans h.ranging
  service := h'.service.trans h.service
  lift hw := (h'.lift (by rw [State.custodyOn_congr (h.lift hw)]; exact hw)).trans (h.lift hw)
  range := by rw [h'.range, h.range]
  record := h'.record.trans h.record
  configured := h'.configured.trans h.configured
  others j hj := (h'.others j hj).trans (h.others j hj)

theorem State.Ended.estimated (h : s.Ended t k) (g : s.Grown t) : s.Estimated t k where
  calm := h.toCalm
  grown := g
  ranging := h.ranging
  service := h.service
  lift := h.lift
  range := (congrArg SlotUnit.range (h.slot k).frame :)
  record := (h.slot k).record
  configured := (h.slot k).configured
  others j _ := (h.slot j).fill

theorem State.Barred.estimated (h : s.Barred t) (g : s.Grown t) (range : (t.slot k).range = (s.slot k).range)
    (record : (t.slot k).record = (s.slot k).record) (configured : (t.slot k).configured = (s.slot k).configured)
    (others : ∀ j, j ≠ k → (t.slot j).fill = (s.slot j).fill) : s.Estimated t k where
  calm := h.toCalm
  grown := g
  ranging := h.ranging
  service := h.service
  lift _ := h.lift
  range := by rw [range]
  record := record
  configured := configured
  others := others

theorem State.estimated_changeBar (s : State) (k : Slot) (c : Bar) (v : Bool) : s.Estimated (s.changeBar k c v) k := by
  refine (s.barred_changeBar k c v).estimated (Kept.changeBar _ _ _ (State.Grown.refl s).holds) ?_ ?_ ?_ fun j hj => ?_
  · rw [State.slot_changeBar_same, SlotUnit.withBar_range]
  · rw [State.slot_changeBar_same, SlotUnit.withBar_record]
  · rw [State.slot_changeBar_same, SlotUnit.withBar_configured]
  · rw [State.slot_changeBar_other _ _ _ hj]

theorem State.estimated_modFill (s : State) (k : Slot) (f : FillRecord → FillRecord) : s.Estimated (s.modFill k f) k := by
  have atK : (s.modFill k f).slot k = { s.slot k with fill := f (s.slot k).fill } := State.slot_modSlot_same ..
  refine ⟨(State.ranged_modSlot s k _).toCalm, (State.Grown.refl s).congr rfl rfl rfl, rfl, rfl, fun _ => rfl, ?_, ?_, ?_,
    fun j hj => ?_⟩
  · rw [atK]
  · rw [atK]
  · rw [atK]
  · unfold State.modFill
    rw [State.slot_modSlot_other _ _ hj]

theorem State.slot_recompute_other (s : State) (h : j ≠ k) : (s.recompute k).slot j = s.slot j :=
  State.slot_modSlot_other _ _ h

theorem State.estimated_recompute (s : State) (k : Slot) : s.Estimated (s.recompute k) k := by
  refine ⟨(State.ranged_modSlot s k _).toCalm, (State.Grown.refl s).congr rfl rfl rfl, rfl, rfl, fun _ => rfl, ?_, ?_, ?_,
    fun j hj => by rw [State.slot_recompute_other _ hj]⟩
  all_goals rw [State.slot_recompute]

/-! FULL follows the fill, with what it does to an open session outside the ending of a turn (R16, R51). -/

theorem State.ended_evaluateFull (s : State) (k : Slot) :
    (s.changeBar k .full ((s.slot k).fullAt (s.slot k).fill.f)).Ended (s.evaluateFull false k) k := by
  unfold State.evaluateFull SlotUnit.fullAt
  dsimp only
  split
  · next h =>
    rw [decide_eq_true h, Bool.true_or]
    exact s.ended_setBar k .full
  · next h =>
    rw [decide_eq_false h, Bool.false_or]
    split
    · next h' =>
      rw [decide_eq_false (by omega), Bool.and_false]
      exact .refl _ k
    · next h' =>
      have same : s.changeBar k .full (s.slot k).bars.full = s := State.changeBar_of_no_change (.inr rfl)
      rw [decide_eq_true (by omega), Bool.and_true, same]
      exact .refl s k

theorem State.grown_evaluateFull (s : State) (v : Bool) (k : Slot) : s.Grown (s.evaluateFull v k) :=
  Kept.evaluateFull _ _ (State.Grown.refl s).holds

theorem State.estimated_evaluateFull (s : State) (k : Slot) : s.Estimated (s.evaluateFull false k) k := by
  have changed := s.estimated_changeBar k .full ((s.slot k).fullAt (s.slot k).fill.f)
  have ended := s.ended_evaluateFull k
  refine {
    calm := changed.calm.trans ended.toCalm, grown := s.grown_evaluateFull false k
    ranging := ended.ranging.trans changed.ranging, service := ended.service.trans changed.service
    lift := fun hw => (ended.lift ?_).trans (changed.lift hw)
    range := ?_, record := (ended.slot k).record.trans changed.record
    configured := (ended.slot k).configured.trans changed.configured
    others := fun j hj => (ended.slot j).fill.trans (changed.others j hj) }
  · rw [State.custodyOn_congr (changed.lift hw)]
    exact hw
  · have range := (congrArg SlotUnit.range (ended.slot k).frame :)
    rw [changed.range] at range
    exact range

theorem State.service_evaluateDemand (s : State) (v : Bool) (k : Slot) :
    (s.evaluateDemand v k).ports.service = s.ports.service := by
  have announced (x : State) (n : RaiseKind) : (x.announceDemand k n).ports.service = x.ports.service := by
    cases h : x.demandOf k with
    | none =>
      unfold State.announceDemand
      rw [h]
    | some e =>
      rw [State.announceDemand_eq h]
      exact x.post_port_other (p := .office) (q := .service) _ _ (by decide)
  obtain ⟨-, e⟩ | ⟨-, e⟩ | e := s.evaluateDemand_cases v k
  · rw [e, announced]; rfl
  · rw [e, announced]; rfl
  · rw [e]

theorem State.estimated_evaluateDemand (s : State) (v : Bool) (k : Slot) : s.Estimated (s.evaluateDemand v k) k := by
  have frame := s.evaluateDemand_frame v k
  have slot (j : Slot) : (s.evaluateDemand v k).slot j = s.slot j := State.slot_congr (s.evaluateDemand_slots v k) j
  refine ⟨?_, Kept.evaluateDemand _ _ (State.Grown.refl s).holds, (congrArg State.ranging frame :),
    s.service_evaluateDemand v k, fun _ => (congrArg State.lift frame :), ?_, ?_, ?_, fun j _ => ?_⟩
  · rw [frame]
    exact {}
  all_goals rw [slot]

theorem State.estimated_recomputeHours (s : State) (k : Slot) : s.Estimated (s.recomputeHours k) k := by
  have filled := s.estimated_modFill k fun x => { x with hf := (s.slot k).hours }
  have frame := s.recomputeHours_frame k
  have slot (j : Slot) : (s.recomputeHours k).slot j = (s.modFill k fun x => { x with hf := (s.slot k).hours }).slot j :=
    State.slot_congr (s.recomputeHours_slots k) j
  refine ⟨?_, Kept.recomputeHours _ (State.Grown.refl s).holds, (congrArg State.ranging frame :),
    (congrArg (fun x : State => x.ports.service) frame :), fun _ => (congrArg State.lift frame :), ?_, ?_, ?_, fun j hj => ?_⟩
  · rw [frame]
    exact {}
  · rw [slot]; exact filled.range
  · rw [slot]; exact filled.record
  · rw [slot]; exact filled.configured
  · rw [slot]; exact filled.others j hj

/-! ## A burst with a reading (R45, R46, R51, R53) -/

/-- The blended value of slot k (R45). -/
def State.blended (s : State) (k : Slot) (c : RangeCause) (d : Reading) : Nat :=
  blendEstimate (s.slot k).record.vCap (s.slot k).fill.e ((s.slot k).record.measuredVolume d.distance)
    (blendWeight (s.slot k) c d.spread)

/-- The estimate has been blended and UNMEASURED cleared (R46). -/
def State.remade (k : Slot) (c : RangeCause) (d : Reading) (s : State) : State :=
  ((s.modFill k fun x => { x with e := s.blended k c d, measured := true, silent := 0 }).changeBar k .unmeasured
    false).recompute k

/-- FULL has been evaluated behind the estimate (R51). -/
def State.remadeFull (k : Slot) (c : RangeCause) (d : Reading) (s : State) : State := (s.remade k c d).evaluateFull false k

/-- Demand has been evaluated behind FULL (R53). -/
def State.remadeDemand (k : Slot) (c : RangeCause) (d : Reading) (s : State) : State :=
  (s.remadeFull k c d).evaluateDemand (!((s.remade k c d).slot k).bars.full && ((s.remadeFull k c d).slot k).bars.full) k

theorem State.blendReading_eq (s : State) (k : Slot) (c : RangeCause) (d : Reading) :
    s.blendReading k c d = (s.remadeDemand k c d).recomputeHours k := rfl

theorem State.estimated_remade (s : State) (k : Slot) (c : RangeCause) (d : Reading) : s.Estimated (s.remade k c d) k :=
  ((s.estimated_modFill k _).trans (State.estimated_changeBar ..)).trans (State.estimated_recompute ..)

theorem State.estimated_remadeFull (s : State) (k : Slot) (c : RangeCause) (d : Reading) :
    s.Estimated (s.remadeFull k c d) k := (s.estimated_remade k c d).trans (State.estimated_evaluateFull ..)

theorem State.estimated_remadeDemand (s : State) (k : Slot) (c : RangeCause) (d : Reading) :
    s.Estimated (s.remadeDemand k c d) k := (s.estimated_remadeFull k c d).trans (State.estimated_evaluateDemand ..)

theorem State.estimated_blendReading (s : State) (k : Slot) (c : RangeCause) (d : Reading) :
    s.Estimated (s.blendReading k c d) k := by
  rw [State.blendReading_eq]
  exact (s.estimated_remadeDemand k c d).trans (State.estimated_recomputeHours ..)

/-- The slot as its estimate is remade, ahead of FULL. -/
theorem State.slot_remade (s : State) (k : Slot) (c : RangeCause) (d : Reading) :
    ((s.remade k c d).slot k).fill = { (s.slot k).fill with
        e := s.blended k c d, measured := true, silent := 0, f := (s.slot k).record.fillOf (s.blended k c d)
        h := (s.slot k).record.headroom (s.blended k c d) }
      ∧ ((s.remade k c d).slot k).record = (s.slot k).record
      ∧ ((s.remade k c d).slot k).bars = ((s.slot k).withBar .unmeasured false).bars := by
  have atK : (s.modFill k fun x => { x with e := s.blended k c d, measured := true, silent := 0 }).slot k
      = { s.slot k with fill := { (s.slot k).fill with e := s.blended k c d, measured := true, silent := 0 } } :=
    State.slot_modSlot_same ..
  unfold State.remade
  rw [State.slot_recompute, State.slot_changeBar_same, atK, SlotUnit.withBar_record, SlotUnit.withBar_fill]
  refine ⟨rfl, rfl, ?_⟩
  unfold SlotUnit.withBar
  split <;> rfl

theorem State.remade_bars (hc : (s.slot k).configured = true) (c : RangeCause) (d : Reading) :
    ((s.remade k c d).slot k).bars = (s.slot k).bars.put false .unmeasured :=
  have ⟨_, _, bars⟩ := s.slot_remade k c d
  bars.trans (SlotUnit.withBar_bars _ _ _ hc)

/-- The slot once FULL has been evaluated. -/
theorem State.slot_remadeFull (hc : (s.slot k).configured = true) (c : RangeCause) (d : Reading) :
    ((s.remadeFull k c d).slot k).fill = ((s.remade k c d).slot k).fill
      ∧ ((s.remadeFull k c d).slot k).bars.full = (s.slot k).fullAt ((s.remade k c d).slot k).fill.f
      ∧ ((s.remadeFull k c d).slot k).bars.unmeasured = false := by
  have ended := ((s.remade k c d).ended_evaluateFull k).slot k
  have configured := (s.estimated_remade k c d).configured.trans hc
  have ⟨_, record, _⟩ := s.slot_remade k c d
  have bars := State.remade_bars hc c d
  have fullAt : ((s.remade k c d).slot k).fullAt ((s.remade k c d).slot k).fill.f
      = (s.slot k).fullAt ((s.remade k c d).slot k).fill.f := by
    unfold SlotUnit.fullAt
    rw [record, bars]
    rfl
  rw [State.slot_changeBar_same, fullAt] at ended
  refine ⟨ended.fill.trans (SlotUnit.withBar_fill ..), ?_, ?_⟩
  · have full := ended.has .full (by decide) (by decide)
    rw [SlotUnit.withBar_bars _ _ _ configured, BarSet.has_put_same] at full
    exact full
  · have unmeasured := ended.has .unmeasured (by decide) (by decide)
    rw [SlotUnit.withBar_has_other _ _ _ (by decide), bars, BarSet.has_put_same] at unmeasured
    exact unmeasured

/-- What a reading leaves at the slot (R45, R46, R51, R55). -/
structure SlotUnit.Remade (u v : SlotUnit) (e : Nat) : Prop where
  fill : v.fill = { u.fill with
    e := e, measured := true, silent := 0, f := u.record.fillOf e, h := u.record.headroom e
    hf := hoursToFull (u.record.headroom e) u.fill.fr }
  full : v.bars.full = u.fullAt (u.record.fillOf e)
  unmeasured : v.bars.unmeasured = false

theorem State.slot_remadeDemand (s : State) (k : Slot) (c : RangeCause) (d : Reading) :
    (s.remadeDemand k c d).slot k = (s.remadeFull k c d).slot k := State.slot_congr (State.evaluateDemand_slots ..) k

theorem State.slot_blendReading (hc : (s.slot k).configured = true) (c : RangeCause) (d : Reading) :
    (s.slot k).Remade ((s.blendReading k c d).slot k) (s.blended k c d) := by
  have ⟨remade, _, _⟩ := s.slot_remade k c d
  obtain ⟨fill, full, unmeasured⟩ := State.slot_remadeFull hc c d
  rw [remade] at fill full
  dsimp only at full
  rw [State.blendReading_eq, State.slot_recomputeHours, State.slot_remadeDemand]
  refine ⟨?_, ?_, ?_⟩
  · unfold SlotUnit.hours
    dsimp only
    rw [fill]
  · dsimp only
    exact full
  · dsimp only
    exact unmeasured

/-- The demand queue follows the reading (R53, R55, R130, R134). -/
theorem State.evaluated_blendReading {c : RangeCause} {d : Reading} (hc : (u.slot k).configured = true)
    (hd : u.demand = s.demand) (hr : u.run = s.run) (hs : u.slot k = s.slot k)
    (before : (s.port .office).outbox <+: (u.port .office).outbox)
    (after : ((u.blendReading k c d).port .office).outbox <+: (t.port .office).outbox)
    (queue : t.demand = (u.blendReading k c d).demand) (stamp : t.stamp = u.stamp)
    (fill : (t.slot k).fill = ((u.blendReading k c d).slot k).fill)
    (full : (t.slot k).bars.full = ((u.blendReading k c d).slot k).bars.full)
    (record : (t.slot k).record = (u.slot k).record) :
    s.Evaluated (u.remadeFull k c d) (u.remadeDemand k c d) t k := by
  have estimated := u.estimated_remadeFull k c d
  have ⟨remade, _, _⟩ := u.slot_remade k c d
  have ⟨filled, _, _⟩ := State.slot_remadeFull hc c d
  have bars : ((u.remade k c d).slot k).bars.full = (s.slot k).bars.full := by
    rw [State.remade_bars hc, ← hs]
    rfl
  have demand : (u.remadeFull k c d).demand = u.demand :=
    ((u.remade k c d).ended_evaluateFull k).demand.trans
      (((u.remade k c d).barred_changeBar k .full _).demand.trans (State.barred_changeBar _ k .unmeasured false).demand)
  have hours := (u.remadeDemand k c d).slot_recomputeHours k
  rw [u.slot_remadeDemand] at hours
  exact {
    demand := demand.trans hd
    run := estimated.calm.run.trans hr
    before := before.trans (estimated.grown.outbox .office)
    hf := by rw [filled, remade, ← hs]
    evaluated := by
      unfold State.remadeDemand
      rw [bars]
    after := after
    queue := queue
    stamp := stamp.trans estimated.calm.stamp.symm
    fill := by rw [fill, State.blendReading_eq, hours]
    full := by rw [full, State.blendReading_eq, hours]
    record := record.trans estimated.record.symm }

/-! ## A burst without one (R47) -/

theorem State.silentBurst_cases (s : State) (k : Slot) :
    s.silentBurst k = (s.modFill k fun x => { x with silent := min (x.silent + 1) 3 })
      ∨ s.silentBurst k = (s.modFill k fun x => { x with silent := min (x.silent + 1) 3 }).alert
        (.sensorSilent k (s.slot k).fill.e) := by
  unfold State.silentBurst
  dsimp only
  split
  · exact .inr rfl
  · exact .inl rfl

theorem State.relogged_silentBurst (s : State) (k : Slot) :
    (s.modFill k fun x => { x with silent := min (x.silent + 1) 3 }).Relogged (s.silentBurst k) := by
  obtain e | e := s.silentBurst_cases k
  · rw [e]; exact .refl _
  · rw [e]; exact State.relogged_alert ..

theorem State.estimated_silentBurst (s : State) (k : Slot) : s.Estimated (s.silentBurst k) k := by
  obtain e | e := s.silentBurst_cases k
  · rw [e]
    exact s.estimated_modFill k _
  · rw [e]
    exact (s.estimated_modFill k _).trans ((State.Relogged.ended (State.relogged_alert ..) k).estimated (State.grown_alert ..))

/-! ## The completion of a burst (R33, R34, R36) -/

theorem State.applyBurst_reading {d : Reading} (h : b.reading = some d) : s.applyBurst b = (s.blendReading b.slot b.cause d,
    .reading d ((s.blendReading b.slot b.cause d).slot b.slot).fill.e ((s.blendReading b.slot b.cause d).slot b.slot).fill.f) := by
  unfold State.applyBurst
  rw [h]

theorem State.applyBurst_silent (h : b.reading = none) : s.applyBurst b = (s.silentBurst b.slot, .noEcho) := by
  unfold State.applyBurst
  rw [h]

theorem State.estimated_applyBurst (s : State) (b : Burst) : s.Estimated (s.applyBurst b).1 b.slot := by
  cases h : b.reading with
  | none => rw [State.applyBurst_silent h]; dsimp only; exact s.estimated_silentBurst b.slot
  | some d => rw [State.applyBurst_reading h]; dsimp only; exact s.estimated_blendReading b.slot b.cause d

/-- The due time begins afresh behind the outcome of the burst (R33, R36). -/
def State.timed (b : Burst) (s : State) : State :=
  ((s.applyBurst b).1.setDue b.slot).modRange b.slot fun x => { x with lastBurst := s.now }

/-- The Lift Controller has been told of the burst (R150). -/
def State.reported (b : Burst) (s : State) : State :=
  if b.cause = .lift then (s.timed b).liftReport b.slot (s.applyBurst b).2.postFill else s.timed b

/-- The waiters have been told, and the next burst is to be chosen (R34, R35). -/
def State.burstAnswered (b : Burst) (s : State) : State :=
  ((s.reported b).answerWaiters b.slot (s.applyBurst b).2).modRanging fun x => { x with burst := none }

theorem State.completeBurst_eq (s : State) (b : Burst) : s.completeBurst b = (s.burstAnswered b).chooseBurst := rfl

theorem State.slot_timed_same (s : State) (b : Burst) : (s.timed b).slot b.slot = { (s.applyBurst b).1.slot b.slot with
    range := { (s.slot b.slot).range with
      lastBurst := s.now, due := some (s.now + 60000 * s.config.rangingInterval)
      delay := ((s.applyBurst b).1.slot b.slot).range.delay } } := by
  have applied := s.estimated_applyBurst b
  have atK : (s.timed b).slot b.slot = { ((s.applyBurst b).1.setDue b.slot).slot b.slot with
      range := { (((s.applyBurst b).1.setDue b.slot).slot b.slot).range with lastBurst := s.now } } :=
    State.slot_modSlot_same ..
  rw [atK, State.slot_setDue, applied.range, applied.calm.now, applied.calm.config]

theorem State.slot_timed_other (s : State) (h : j ≠ b.slot) : (s.timed b).slot j = (s.applyBurst b).1.slot j :=
  (State.slot_modSlot_other _ _ h).trans (State.slot_modSlot_other _ _ h)

theorem State.estimated_timed_frame (s : State) (b : Burst) : s.Grown (s.timed b) ∧ s.Calm (s.timed b) :=
  have applied := s.estimated_applyBurst b
  ⟨applied.grown.congr rfl rfl rfl, applied.calm.trans {}⟩

theorem State.spared_reported (s : State) (b : Burst) : (s.timed b).Spared (s.reported b) := by
  unfold State.reported
  split
  · exact State.spared_liftReport ..
  · exact .refl _

theorem State.spared_completeBurst (s : State) (b : Burst) : (s.timed b).Spared (s.completeBurst b) := by
  rw [State.completeBurst_eq]
  exact (((s.spared_reported b).trans (State.spared_answerWaiters ..)).trans (State.spared_modRanging ..)).trans
    (State.spared_chooseBurst _)

/-- The waiters stand until the burst has been reported. -/
theorem State.waitersKept_reported (s : State) (b : Burst) : s.WaitersKept (s.reported b) b.slot := by
  have applied := s.estimated_applyBurst b
  obtain ⟨grown, calm⟩ := s.estimated_timed_frame b
  have timed : s.WaitersKept (s.timed b) b.slot := by
    refine ⟨?_, ?_, calm.run, grown.outbox .office, applied.service⟩
    all_goals rw [s.slot_timed_same]
  unfold State.reported
  split
  · have quieted := (s.timed b).quieted_liftReport b.slot (s.applyBurst b).2.postFill
    exact timed.trans ⟨by rw [(quieted.slot _).range], by rw [(quieted.slot _).range], quieted.run,
      (State.grown_liftReport ..).outbox .office, quieted.service⟩
  · exact timed

/-- Each waiter is sent one RANGE_RESULT (R34). -/
theorem State.waitersTold_completeBurst (s : State) (b : Burst) :
    s.WaitersTold (s.completeBurst b) b.slot (s.applyBurst b).2 := by
  rw [State.completeBurst_eq]
  exact ((s.waitersKept_reported b).answered.trans (State.waitersKept_modRanging ..)).trans
    ((State.reranged_chooseBurst _).waitersKept (Kept.chooseBurst (State.Noticed.refl _).holds) _)

theorem State.range_completeBurst (s : State) (b : Burst) : ((s.completeBurst b).slot b.slot).range =
    { (s.slot b.slot).range with
      lastBurst := (s.completeBurst b).now, due := some ((s.completeBurst b).now + 60000 * s.config.rangingInterval)
      delay := ((s.completeBurst b).slot b.slot).range.delay, waitOffice := false, waitService := false } := by
  have spared := s.spared_completeBurst b
  have told := s.waitersTold_completeBurst b
  have now : (s.completeBurst b).now = s.now := spared.now.trans (s.estimated_timed_frame b).2.now
  have range := congrArg SlotUnit.range (spared.slot b.slot).frame
  rw [s.slot_timed_same] at range
  rw [now]
  rw [range]
  dsimp only
  rw [told.noOffice, told.noService]

theorem State.grown_completeBurst (s : State) (b : Burst) : (s.applyBurst b).1.Grown (s.completeBurst b) := by
  have timed : (s.applyBurst b).1.Grown (s.timed b) := (State.Grown.refl _).congr rfl rfl rfl
  have reported : (s.timed b).Grown (s.reported b) := by
    unfold State.reported
    split
    · exact State.grown_liftReport ..
    · exact .refl _
  exact (timed.trans reported).trans
    (((State.liftAfter_answerWaiters ..).trans (State.liftAfter_modRanging _ _ b.slot)).trans
      (State.liftAfter_chooseBurst ..)).grown

/-- The slot of the burst is as the estimator has left it, but for its range record and what the end of a lift changes. -/
theorem State.slot_completeBurst (s : State) (b : Burst) :
    ((s.completeBurst b).slot b.slot).fill = ((s.applyBurst b).1.slot b.slot).fill
      ∧ ((s.completeBurst b).slot b.slot).record = ((s.applyBurst b).1.slot b.slot).record
      ∧ ∀ c, c ≠ .log → c ≠ .lift →
        ((s.completeBurst b).slot b.slot).bars.has c = ((s.applyBurst b).1.slot b.slot).bars.has c := by
  have spared := (s.spared_completeBurst b).slot b.slot
  have fill := spared.fill
  have record := spared.record
  have has := spared.has
  rw [s.slot_timed_same] at fill record has
  exact ⟨fill, record, has⟩

theorem State.completeBurst_fill_other (s : State) (h : j ≠ b.slot) :
    ((s.completeBurst b).slot j).fill = (s.slot j).fill := by
  rw [((s.spared_completeBurst b).slot j).fill, State.slot_timed_other s h, (s.estimated_applyBurst b).others j h]

theorem State.completeBurst_demand (s : State) (b : Burst) : (s.completeBurst b).demand = (s.applyBurst b).1.demand :=
  (s.spared_completeBurst b).demand

/-- A burst with a reading remakes the slot's fill record (R45, R46, R51, R55). -/
theorem State.completeBurst_remade {d : Reading} (hc : (s.slot b.slot).configured = true) (h : b.reading = some d) :
    (s.slot b.slot).Remade ((s.completeBurst b).slot b.slot) (s.blended b.slot b.cause d) := by
  obtain ⟨fill, _, has⟩ := s.slot_completeBurst b
  have remade := State.slot_blendReading hc b.cause d
  rw [State.applyBurst_reading h] at fill has
  dsimp only at fill has
  exact ⟨fill.trans remade.fill, (has .full (by decide) (by decide)).trans remade.full,
    (has .unmeasured (by decide) (by decide)).trans remade.unmeasured⟩

/-- The demand queue follows the burst (R53, R130, R134). -/
theorem State.completeBurst_demandFollows {d : Reading} (hc : (s.slot b.slot).configured = true) (h : b.reading = some d) :
    s.demandFollows (s.completeBurst b) b.slot := by
  have applied := s.estimated_applyBurst b
  obtain ⟨fill, record, has⟩ := s.slot_completeBurst b
  have full := has .full (by decide) (by decide)
  have grown := s.grown_completeBurst b
  have queue := s.completeBurst_demand b
  have stamp : (s.completeBurst b).stamp = s.stamp :=
    ((s.estimated_timed_frame b).2.trans (s.spared_completeBurst b).toCalm).stamp
  rw [applied.record] at record
  rw [State.applyBurst_reading h] at fill full grown queue
  dsimp only at fill full grown queue
  exact (State.evaluated_blendReading hc rfl rfl rfl List.prefix_rfl (grown.outbox .office) queue stamp fill full
    record).demandFollows

/-- Without a reading the silent count alone goes on (R47). -/
theorem State.completeBurst_silent (h : b.reading = none) :
    ((s.completeBurst b).slot b.slot).fill
        = { (s.slot b.slot).fill with silent := min ((s.slot b.slot).fill.silent + 1) 3 }
      ∧ ((s.completeBurst b).slot b.slot).bars.unmeasured = (s.slot b.slot).bars.unmeasured
      ∧ (s.completeBurst b).demand = s.demand := by
  obtain ⟨fill, _, has⟩ := s.slot_completeBurst b
  have unmeasured := has .unmeasured (by decide) (by decide)
  have queue := s.completeBurst_demand b
  have silent := s.relogged_silentBurst b.slot
  have silentK := silent.slot b.slot
  have counted : (s.modFill b.slot fun x => { x with silent := min (x.silent + 1) 3 }).slot b.slot
      = { s.slot b.slot with fill := { (s.slot b.slot).fill with silent := min ((s.slot b.slot).fill.silent + 1) 3 } } :=
    State.slot_modSlot_same ..
  rw [counted] at silentK
  rw [State.applyBurst_silent h] at fill unmeasured queue
  dsimp only at fill unmeasured queue
  exact ⟨fill.trans silentK.fill, unmeasured.trans (silentK.has (b := .unmeasured) (by decide)), queue.trans silent.demand⟩

/-- A burst of cause LIFT ends the lift that waits for it (R36, R150). -/
theorem State.completeBurst_liftEnded (hc : (s.slot b.slot).configured = true) (hr : s.run = .running)
    (hl : b.cause = .lift) (hw : s.custodyOn b.slot = .closing) :
    s.liftEnded (s.completeBurst b) b.slot (s.applyBurst b).2.postFill := by
  have applied := s.estimated_applyBurst b
  have lift : (s.timed b).lift = s.lift := applied.lift (by rw [hw]; decide)
  obtain ⟨grown, calm⟩ := s.estimated_timed_frame b
  have timed := s.slot_timed_same b
  have before : s.LiftBefore (s.timed b) b.slot := ⟨grown, lift, by rw [timed]; exact applied.record⟩
  have after : (s.reported b).LiftAfter (s.completeBurst b) b.slot :=
    ((State.liftAfter_answerWaiters ..).trans (State.liftAfter_modRanging ..)).trans (State.liftAfter_chooseBurst ..)
  have ended : (s.timed b).liftEnded ((s.timed b).liftReport b.slot (s.applyBurst b).2.postFill) b.slot
      (s.applyBurst b).2.postFill :=
    State.liftReport_ended ((State.custodyOn_congr lift _).trans hw) (by rw [timed]; exact applied.configured.trans hc)
      (calm.run.trans hr)
  have reported : s.reported b = (s.timed b).liftReport b.slot (s.applyBurst b).2.postFill := if_pos hl
  rw [reported] at after
  exact ended.around before after

/-- A ping that ends as the third completes its burst (R36). -/
theorem thirdPing_completes {i : Instr} (hb : s.ranging.burst = some b) (ha : b.awaiting = true) (hl : b.pings.length = 2)
    (hi : i = .pingTimeout ∧ r = none ∨ ∃ us, i = .echoEdge b.slot us ∧ r = some us ∧ 900 ≤ us ∧ us ≤ 25000) :
    ∃ d B, exec i s = .next ((s.elapseTo d).completeBurst B) ∧ B.slot = b.slot ∧ B.cause = b.cause
      ∧ B.reading = { b with pings := b.pings ++ [r] }.reading := by
  obtain ⟨rfl, rfl⟩ | ⟨us, rfl, rfl, low, high⟩ := hi
  · exact ⟨_, _, (exec_pingTimeout hb ha).trans (congrArg _ (State.endPing_completes _ none hl)), rfl, rfl, rfl⟩
  · exact ⟨_, _, (exec_echoEdge hb ha low high).trans (congrArg _ (State.endPing_completes _ (some us) hl)), rfl, rfl, rfl⟩

/-- The payload of the RANGE_RESULT of a completed burst (R34, R187). -/
theorem State.resultPayload (s : State) (b : Burst) {p : List Byte}
    (hd : ∀ d, b.reading = some d → p = encSlot b.slot ++ u8 0 ++ u16 d.distance ++ flag d.spread
      ++ u16 ((s.completeBurst b).slot b.slot).fill.e ++ u16 ((s.completeBurst b).slot b.slot).fill.f)
    (hn : b.reading = none → p = encSlot b.slot ++ [1, 0, 0, 0, 0, 0, 0, 0]) :
    encSlot b.slot ++ (s.applyBurst b).2.fields = p := by
  cases h : b.reading with
  | none =>
    rw [State.applyBurst_silent h, hn h]
    rfl
  | some d =>
    obtain ⟨fill, -⟩ := s.slot_completeBurst b
    rw [State.applyBurst_reading h] at fill ⊢
    rw [hd d h, fill]
    simp only [RangeOutcome.fields, List.append_assoc]

/-- The post-lift fill of a completed burst (R150). -/
theorem State.postFill_applyBurst (s : State) (b : Burst) :
    (s.applyBurst b).2.postFill = b.reading.map fun _ => ((s.completeBurst b).slot b.slot).fill.f := by
  obtain ⟨fill, -⟩ := s.slot_completeBurst b
  cases h : b.reading with
  | none => rw [State.applyBurst_silent h]; rfl
  | some d => rw [fill, State.applyBurst_reading h]; dsimp only [RangeOutcome.postFill, Option.map]

end

/-- Settles O37: the pieces of a burst's completion, each for the state in which the third ping has ended; only the clock
stands between it and the state before. -/
theorem burstsCompleteIntoTheEstimate : Obligations.BurstsCompleteIntoTheEstimate := by
  unfold Obligations.BurstsCompleteIntoTheEstimate
  intro s i b r hb ha hl hc hi
  obtain ⟨d, B, run, slot, cause, reading⟩ := thirdPing_completes hb ha hl hi
  rw [← reading, ← slot, ← cause]
  rw [← slot] at hc
  have blended (x : Reading) : (s.elapseTo d).blended B.slot B.cause x = blendEstimate (s.slot B.slot).record.vCap
    (s.slot B.slot).fill.e ((s.slot B.slot).record.measuredVolume x.distance) (blendWeight (s.slot B.slot) B.cause x.spread) :=
    rfl
  have told := (s.elapseTo d).waitersTold_completeBurst B
  refine ⟨(s.elapseTo d).completeBurst B, run, (s.elapseTo d).range_completeBurst B, fun x hx => ?read, fun hn => ?silent,
    fun j hj => (s.elapseTo d).completeBurst_fill_other hj, fun p hr hp hq => ⟨fun hw => ?office, ?service⟩,
    fun hr hlift hw => ?lift⟩
  case read =>
    obtain ⟨fill, full, unmeasured⟩ := State.completeBurst_remade (s := s.elapseTo d) hc hx
    have demand := State.completeBurst_demandFollows (s := s.elapseTo d) hc hx
    rw [blended] at fill full
    rw [fill]
    exact ⟨rfl, rfl, rfl, rfl, rfl, rfl, rfl, rfl, full, demand, unmeasured⟩
  case silent => exact State.completeBurst_silent (s := s.elapseTo d) hn
  case office =>
    rw [← State.resultPayload _ B hp hq]
    exact told.posted hr hw
  case service =>
    rw [← State.resultPayload _ B hp hq, told.service]
    by_cases hs : (s.slot B.slot).range.waitService = true
    · rw [if_pos hs, if_pos (by exact hs)]
      exact State.notify_port_congr (s := s) (t := s.elapseTo d) (p := .service) rfl rfl 0xC4 _
    · rw [if_neg hs, if_neg (by exact hs)]
      rfl
  case lift =>
    rw [← State.postFill_applyBurst]
    exact State.completeBurst_liftEnded (s := s.elapseTo d) hc hr hlift hw

end Sys2Proof.Machine
end

section
/-! SUPPORT. A counted deposit (O33) at the Fill Estimator and the Ranging Unit: the estimate, FULL, demand, and the burst that
goes back to its queue (R23, R37, R48, R49, R51, R53). -/

namespace Sys2Proof.Machine

section
variable {s t u a : State} {j k : Slot} {c : Session} {r : EndReason}

/-! ## The increment of a turn (R48) -/

theorem SlotRecord.increment_bounds {r : SlotRecord} (h : r.inRange) : 5 ≤ r.increment ∧ r.increment ≤ 1200 := by
  obtain ⟨-, -, -, -, ⟨volumeLow, volumeHigh⟩, ⟨packingLow, packingHigh⟩, -⟩ := h
  have low : 10 * 50 ≤ r.drumVolume * r.packing := Nat.mul_le_mul volumeLow packingLow
  have high : r.drumVolume * r.packing ≤ 120 * 1000 := Nat.mul_le_mul volumeHigh packingHigh
  unfold SlotRecord.increment
  rw [Nat.mul_assoc]
  omega

theorem SlotRecord.increment_floor (r : SlotRecord) :
    r.increment = ⌊((10 * r.drumVolume : ℚ) * r.packing + 500) / 1000⌋₊ := by
  have cast : ((10 * r.drumVolume : ℚ) * r.packing + 500) / 1000
      = ((10 * r.drumVolume * r.packing + 500 : Nat) : ℚ) / ((1000 : Nat) : ℚ) := by push_cast; rfl
  rw [cast, Nat.floor_div_eq_div]
  rfl

/-! ## The estimate of a deposit (R49, R51, R53) -/

/-- Within the ending of a turn FULL follows the thresholds and waits for the drum home tests (R16, R23, R51). -/
theorem State.evaluateFull_turnEnding (s : State) (k : Slot) :
    s.evaluateFull true k = s.changeBar k .full ((s.slot k).fullAt (s.slot k).fill.f) := by
  unfold State.evaluateFull SlotUnit.fullAt
  dsimp only
  split
  · next h =>
    rw [decide_eq_true h, Bool.true_or]
    rfl
  · next h =>
    rw [decide_eq_false h, Bool.false_or]
    split
    · next h' => rw [decide_eq_false (by omega), Bool.and_false]
    · next h' =>
      rw [decide_eq_true (by omega), Bool.and_true]
      exact (State.changeBar_of_no_change (.inr rfl)).symm

/-- E after a deposit (R49). -/
def SlotUnit.raisedE (u : SlotUnit) : Nat := min (u.fill.e + u.record.increment) u.record.vCap

/-- The estimate and the accumulator have taken the increment. -/
def State.banked (k : Slot) (s : State) : State :=
  (s.modFill k fun x => { x with a := satAdd 65535 x.a (s.slot k).record.increment }).setEstimate k (s.slot k).raisedE

/-- FULL has been evaluated behind the estimate. -/
def State.bankedFull (k : Slot) (s : State) : State := (s.banked k).evaluateFull true k

/-- Demand has been evaluated behind FULL. -/
def State.bankedDemand (k : Slot) (s : State) : State :=
  (s.bankedFull k).evaluateDemand (!((s.banked k).slot k).bars.full && ((s.bankedFull k).slot k).bars.full) k

theorem State.deposit_eq (s : State) (k : Slot) : s.deposit k = (s.bankedDemand k).recomputeHours k := rfl

theorem State.slot_banked (s : State) (k : Slot) : (s.banked k).slot k = { s.slot k with fill := { (s.slot k).fill with
    e := (s.slot k).raisedE, a := min ((s.slot k).fill.a + (s.slot k).record.increment) 65535
    f := (s.slot k).record.fillOf (s.slot k).raisedE, h := (s.slot k).record.headroom (s.slot k).raisedE } } := by
  unfold State.banked State.setEstimate State.modFill
  rw [State.slot_recompute, State.slot_modSlot_same, State.slot_modSlot_same]
  rfl

theorem State.slot_banked_other (s : State) (h : j ≠ k) : (s.banked k).slot j = s.slot j :=
  (State.slot_recompute_other _ h).trans ((State.slot_modSlot_other _ _ h).trans (State.slot_modSlot_other _ _ h))

theorem State.slot_bankedFull (s : State) (k : Slot) : (s.bankedFull k).slot k
    = ((s.banked k).slot k).withBar .full ((s.slot k).fullAt ((s.slot k).record.fillOf (s.slot k).raisedE)) := by
  unfold State.bankedFull
  rw [State.evaluateFull_turnEnding, State.slot_changeBar_same, State.slot_banked]
  rfl

theorem State.slot_bankedFull_other (s : State) (h : j ≠ k) : (s.bankedFull k).slot j = s.slot j := by
  unfold State.bankedFull
  rw [State.evaluateFull_turnEnding, State.slot_changeBar_other _ _ _ h, State.slot_banked_other s h]

theorem State.slot_deposit (s : State) (k : Slot) : (s.deposit k).slot k = { (s.bankedFull k).slot k with
    fill := { ((s.bankedFull k).slot k).fill with hf := ((s.bankedFull k).slot k).hours } } := by
  have evaluated : (s.bankedDemand k).slot k = (s.bankedFull k).slot k := State.slot_congr (State.evaluateDemand_slots ..) k
  rw [State.deposit_eq, State.slot_recomputeHours, evaluated]

theorem State.slot_deposit_other (s : State) (h : j ≠ k) : (s.deposit k).slot j = s.slot j := by
  have evaluated : (s.bankedDemand k).slot j = (s.bankedFull k).slot j := State.slot_congr (State.evaluateDemand_slots ..) j
  rw [State.deposit_eq, State.slot_recomputeHours_other _ h, evaluated, State.slot_bankedFull_other s h]

/-- What a deposit leaves at its slot: the fill record and FULL follow the increment (R49, R51, R55). -/
structure SlotUnit.Deposited (u v : SlotUnit) : Prop where
  fill : v.fill = { u.fill with
    e := u.raisedE, a := min (u.fill.a + u.record.increment) 65535
    f := u.record.fillOf u.raisedE, h := u.record.headroom u.raisedE
    hf := hoursToFull (u.record.headroom u.raisedE) u.fill.fr }
  full : v.bars.full = u.fullAt (u.record.fillOf u.raisedE)
  has : ∀ b, b ≠ .full → b ≠ .log → b ≠ .lift → v.bars.has b = u.bars.has b
  record : v.record = u.record
  configured : v.configured = u.configured
  locks : v.locks = u.locks
  intake : u.intake.state.busy = true → v.intake = u.intake

theorem State.deposited (hc : (s.slot k).configured = true) : (s.slot k).Deposited ((s.deposit k).slot k) := by
  have frame := ((s.banked k).slot k).withBar_frame .full
    ((s.slot k).fullAt ((s.slot k).record.fillOf (s.slot k).raisedE))
  rw [← s.slot_bankedFull, s.slot_banked] at frame
  have fill : ((s.bankedFull k).slot k).fill = ((s.banked k).slot k).fill := by rw [s.slot_bankedFull, SlotUnit.withBar_fill]
  have bars := ((s.banked k).slot k).withBar_bars .full
    ((s.slot k).fullAt ((s.slot k).record.fillOf (s.slot k).raisedE)) (by rw [s.slot_banked]; exact hc)
  rw [← s.slot_bankedFull, s.slot_banked] at bars
  rw [s.slot_banked] at fill
  rw [s.slot_deposit]
  refine ⟨?_, ?_, fun b hf _ _ => ?_, (congrArg SlotUnit.record frame :), (congrArg SlotUnit.configured frame :),
    (congrArg SlotUnit.locks frame :), fun hb => ?_⟩
  · unfold SlotUnit.hours
    dsimp only
    rw [fill]
  · dsimp only
    rw [bars]
    exact BarSet.has_put_same (s.slot k).bars .full _
  · dsimp only
    rw [bars]
    exact BarSet.has_put_other _ _ hf
  · dsimp only
    rw [s.slot_bankedFull, SlotUnit.intake_withBar_of_busy _ _ (by rw [s.slot_banked]; exact hb), s.slot_banked]

theorem State.deposit_track (s : State) (k : Slot) : ((s.deposit k).slot k).track = (s.slot k).track := by
  rw [s.slot_deposit]
  dsimp only
  rw [s.slot_bankedFull, SlotUnit.withBar_track, s.slot_banked]

theorem State.deposit_calm (s : State) (k : Slot) : s.Calm (s.deposit k) ∧ (s.deposit k).ranging = s.ranging := by
  have banked : s.Estimated (s.banked k) k :=
    ((s.estimated_modFill k _).trans (State.estimated_modFill ..)).trans (State.estimated_recompute ..)
  have full := (s.banked k).barred_changeBar k .full (((s.banked k).slot k).fullAt ((s.banked k).slot k).fill.f)
  rw [← State.evaluateFull_turnEnding] at full
  have demand := (s.bankedFull k).estimated_evaluateDemand
    (!((s.banked k).slot k).bars.full && ((s.bankedFull k).slot k).bars.full) k
  have hours := (s.bankedDemand k).estimated_recomputeHours k
  exact ⟨((banked.calm.trans full.toCalm).trans demand.calm).trans hours.calm,
    hours.ranging.trans (demand.ranging.trans (full.ranging.trans banked.ranging))⟩

/-- The demand queue follows the deposit (R53, R55, R130, R134). -/
theorem State.evaluated_deposit (hd : u.demand = s.demand) (hr : u.run = s.run)
    (hf : (u.slot k).fill = (s.slot k).fill) (hb : (u.slot k).bars = (s.slot k).bars)
    (before : (s.port .office).outbox <+: (u.port .office).outbox)
    (after : ((u.deposit k).port .office).outbox <+: (t.port .office).outbox)
    (queue : t.demand = (u.deposit k).demand) (stamp : t.stamp = u.stamp)
    (fill : (t.slot k).fill = ((u.deposit k).slot k).fill)
    (full : (t.slot k).bars.full = ((u.deposit k).slot k).bars.full)
    (record : (t.slot k).record = (u.slot k).record) :
    s.Evaluated (u.bankedFull k) (u.bankedDemand k) t k := by
  have banked : u.Estimated (u.banked k) k :=
    ((u.estimated_modFill k _).trans (State.estimated_modFill ..)).trans (State.estimated_recompute ..)
  have barred := (u.banked k).barred_changeBar k .full (((u.banked k).slot k).fullAt ((u.banked k).slot k).fill.f)
  rw [← State.evaluateFull_turnEnding] at barred
  have grown : u.Grown (u.bankedFull k) := banked.grown.trans ((u.banked k).grown_evaluateFull true k)
  have filled : ((u.bankedFull k).slot k).fill = ((u.banked k).slot k).fill := by
    rw [u.slot_bankedFull, SlotUnit.withBar_fill]
  have recorded : ((u.bankedFull k).slot k).record = (u.slot k).record := by
    rw [u.slot_bankedFull, SlotUnit.withBar_record, u.slot_banked]
  have bars : ((u.banked k).slot k).bars = (s.slot k).bars := by rw [u.slot_banked]; exact hb
  rw [u.slot_deposit] at fill full
  exact {
    demand := barred.demand.trans hd
    run := (barred.run.trans banked.calm.run).trans hr
    before := before.trans (grown.outbox .office)
    hf := by rw [filled, u.slot_banked, ← hf]
    evaluated := by
      unfold State.bankedDemand
      rw [bars]
    after := after
    queue := queue
    stamp := stamp.trans (banked.calm.trans barred.toCalm).stamp.symm
    fill := fill
    full := full
    record := record.trans recorded.symm }

/-! ## The Ranging Unit behind a deposit (R35, R37) -/

/-- A request of any class stands at a configured slot without FLOOD (R32). -/
theorem State.firstAsked_queueRange_dry (atHead : Bool) (x : RangeCause) (hc : (s.slot k).configured = true)
    (hf : (s.slot k).bars.flood = false) : (s.queueRange atHead k x).firstAsked k x := by
  have placed : s.queueRange atHead k x = s.modRanging fun y => { y with queue := queueAfter atHead k x y.queue } := by
    unfold State.queueRange
    rw [hc, hf]
    rfl
  rw [placed]
  exact .inl (firstOf_queueAfter_same atHead k x s.ranging.queue)

/-- The burst in flight for the slot stands in the queue again (R37). -/
theorem State.returnBurst_asked {b : Burst} (hb : s.burstOn k = some b) (hc : (s.slot k).configured = true)
    (hf : (s.slot k).bars.flood = false) : (s.returnBurst k).firstAsked k b.cause := by
  unfold State.returnBurst
  rw [hb]
  exact State.firstAsked_queueRange_dry (s := s.modRanging fun x => { x with burst := none }) true b.cause hc hf

/-- The drum stands at home and the jam timer has stopped (R23, R24). -/
def State.comesHome (k : Slot) (s : State) : State := s.modTrack k fun x => { x with drum := .atHome, jamDeadline := none }

theorem State.slot_comesHome (s : State) (k : Slot) : (s.comesHome k).slot k
    = { s.slot k with track := { (s.slot k).track with drum := .atHome, jamDeadline := none } } := State.slot_modSlot_same ..

theorem State.slot_comesHome_other (s : State) (h : j ≠ k) : (s.comesHome k).slot j = s.slot j :=
  State.slot_modSlot_other _ _ h

/-- The deposit has reached the Fill Estimator and the Ranging Unit, ahead of the intake (R23). -/
def State.settles (k : Slot) (s : State) : State := (((s.comesHome k).deposit k).returnBurst k).chooseBurst

theorem State.spared_settles (s : State) (k : Slot) : ((s.comesHome k).deposit k).Spared (s.settles k) :=
  (State.spared_returnBurst ..).trans (State.spared_chooseBurst _)

theorem State.grown_settles (s : State) (k : Slot) : ((s.comesHome k).deposit k).Grown (s.settles k) :=
  Kept.chooseBurst (Kept.returnBurst _ (State.Grown.refl _).holds)

/-- What a deposit leaves of the state, ahead of the intake. -/
structure State.Settled (s t : State) (k : Slot) : Prop where
  calm : s.Calm t
  slot : (s.slot k).configured = true → (s.slot k).Deposited (t.slot k)
  drum : (t.slot k).track.drum = .atHome
  jamDeadline : (t.slot k).track.jamDeadline = none
  others : ∀ j, j ≠ k → (t.slot j).fill = (s.slot j).fill ∧ (t.slot j).locks = (s.slot j).locks
  asked : ∀ b, s.burstOn k = some b → (s.slot k).configured = true → (s.slot k).bars.flood = false → t.firstAsked k b.cause

theorem State.settles_settled (s : State) (k : Slot) : s.Settled (s.settles k) k := by
  obtain ⟨calm, ranging⟩ := (s.comesHome k).deposit_calm k
  have spared := s.spared_settles k
  have spareK := spared.slot k
  have came := s.slot_comesHome k
  refine ⟨(State.Calm.trans (s := s) (t := s.comesHome k) {} calm).trans spared.toCalm, fun hc => ?_, ?_, ?_,
    fun j hj => ?_, fun b hb hc hf => ?_⟩
  · have deposited := State.deposited (s := s.comesHome k) (k := k) (by rw [came]; exact hc)
    rw [came] at deposited
    exact {
      fill := spareK.fill.trans deposited.fill
      full := (spareK.has .full (by decide) (by decide)).trans deposited.full
      has := fun b hf hl hi => (spareK.has b hl hi).trans (deposited.has b hf hl hi)
      record := spareK.record.trans deposited.record
      configured := spareK.configured.trans deposited.configured
      locks := spareK.locks.trans deposited.locks
      intake := fun hb => (spareK.intake (by rw [deposited.intake hb]; exact hb)).trans (deposited.intake hb) }
  · rw [spareK.drum, State.deposit_track, came]
  · rw [spareK.jamDeadline, State.deposit_track, came]
  · rw [(spared.slot j).fill, (spared.slot j).locks, State.slot_deposit_other _ hj, State.slot_comesHome_other s hj]
    exact ⟨rfl, rfl⟩
  · have onSlot : ((s.comesHome k).deposit k).burstOn k = some b := by
      unfold State.burstOn at hb ⊢
      rw [ranging]
      exact hb
    have deposited := State.deposited (s := s.comesHome k) (k := k) (by rw [came]; exact hc)
    rw [came] at deposited
    exact (State.returnBurst_asked onSlot (deposited.configured.trans hc)
      ((deposited.has .flood (by decide) (by decide) (by decide)).trans hf)).chooseBurst

end

end Sys2Proof.Machine
end

section
/-! SUPPORT. Charges (O33): what a charged deposit leaves at the Card Resolver, and what the Arbiter is asked for (R75, R88 to
R90). -/

namespace Sys2Proof.Machine

section
variable {s t u : State} {n : CardNo} {c : Charge} {cs : List Charge}

/-! ## The Arbiter (R75) -/

theorem Arbiter.side_setSide_same (a : Arbiter) (x : ArbiterSide) (r : Requester) : (a.setSide x r).side r = x := by
  cases r <;> rfl

theorem Arbiter.side_setSide_other (a : Arbiter) (x : ArbiterSide) {q r : Requester} (h : q ≠ r) :
    (a.setSide x r).side q = a.side q := by
  cases r with
  | refill => cases q with
    | refill => exact absurd rfl h
    | charge => rfl
    | batch => rfl
  | charge => cases q with
    | charge => exact absurd rfl h
    | refill => rfl
    | batch => rfl
  | batch => cases q with
    | batch => exact absurd rfl h
    | refill => rfl
    | charge => rfl

theorem State.tryGrant_frame (s : State) : s.tryGrant = { s with arbiter := s.tryGrant.arbiter } := by
  unfold State.tryGrant
  split
  · rfl
  · split
    · unfold State.grant
      split <;> rfl
    · rfl

/-- A grant takes the waiting request of one requester alone, and its transaction is in flight (R75). -/
theorem State.tryGrant_cases (s : State) (r : Requester) : (s.tryGrant.arbiter.side r).waiting = (s.arbiter.side r).waiting
    ∨ ∃ q x, (s.arbiter.side r).waiting = some q ∧ s.tryGrant.arbiter.inFlight = some x ∧ x.requester = r ∧ x.op = q.op
      ∧ x.written = q.op.formed s.clock.period := by
  unfold State.tryGrant
  split
  · exact .inl rfl
  · split
    · next g _ =>
      unfold State.grant
      split
      · exact .inl rfl
      · next q hq =>
        by_cases h : r = g
        · subst h
          exact .inr ⟨q, _, hq, rfl, rfl, rfl, rfl⟩
        · exact .inl (congrArg ArbiterSide.waiting (Arbiter.side_setSide_other _ _ h))
    · exact .inl rfl

theorem State.placeRequest_frame (s : State) (r : Requester) (q : StoreRequest) :
    s.placeRequest r q = { s with arbiter := (s.placeRequest r q).arbiter } :=
  State.tryGrant_frame { s with arbiter := s.arbiter.setSide { s.arbiter.side r with waiting := some q } r }

theorem State.endWork_frame (s : State) (r : Requester) : s.endWork r = { s with arbiter := (s.endWork r).arbiter } :=
  State.tryGrant_frame { s with arbiter := s.arbiter.setSide { s.arbiter.side r with held := none } r }

@[simp] theorem State.tryGrant_resolver (s : State) : s.tryGrant.resolver = s.resolver := by rw [s.tryGrant_frame]
@[simp] theorem State.endWork_resolver (s : State) (r : Requester) : (s.endWork r).resolver = s.resolver := by
  rw [s.endWork_frame]
@[simp] theorem State.placeRequest_resolver (s : State) (r : Requester) (q : StoreRequest) :
    (s.placeRequest r q).resolver = s.resolver := by rw [s.placeRequest_frame]

/-- A request that is placed waits, or has been granted (R75). -/
theorem State.asksFor_placeRequest (s : State) (r : Requester) (op : StoreOp) :
    (s.placeRequest r ⟨op, false⟩).asksFor r op := by
  have side := s.arbiter.side_setSide_same { s.arbiter.side r with waiting := some ⟨op, false⟩ } r
  have clock : (s.placeRequest r ⟨op, false⟩).clock = s.clock := by rw [s.placeRequest_frame]
  obtain same | ⟨q, x, hq, flight, requester, hop, written⟩ := State.tryGrant_cases
    { s with arbiter := s.arbiter.setSide { s.arbiter.side r with waiting := some ⟨op, false⟩ } r } r
  · exact .inl (same.trans (congrArg ArbiterSide.waiting side))
  · obtain rfl : q = ⟨op, false⟩ := by
      have := hq.symm.trans (congrArg ArbiterSide.waiting side)
      exact Option.some.inj this
    exact .inr ⟨x, flight, requester, hop, by rw [clock]; exact written⟩

/-! ## The next head of the charge queue (R90) -/

theorem State.takeCharge_busy {j : ChargeJob} (h : s.resolver.job = some j) : s.takeCharge = s := by
  unfold State.takeCharge
  rw [h]

theorem State.takeCharge_empty (h : s.resolver.charges = []) : s.takeCharge = s := by
  unfold State.takeCharge
  rw [h]
  split
  · next e => exact absurd e (by simp)
  · rfl

/-- With no charge in progress the head is taken, and the cache stays. -/
theorem State.takeCharge_head (hj : s.resolver.job = none) (hc : s.resolver.charges = c :: cs) :
    s.takeCharge.resolver.job.map ChargeJob.charge = some c ∧ s.takeCharge.resolver.charges = cs
      ∧ s.takeCharge.resolver.sets = s.resolver.sets := by
  unfold State.takeCharge
  rw [hj, hc]
  dsimp only
  split
  all_goals
    rw [State.placeRequest_resolver]
    exact ⟨rfl, rfl, rfl⟩

theorem State.takeCharge_sets (s : State) : s.takeCharge.resolver.sets = s.resolver.sets := by
  cases hj : s.resolver.job with
  | some j => rw [State.takeCharge_busy hj]
  | none =>
    cases hc : s.resolver.charges with
    | nil => rw [State.takeCharge_empty hc]
    | cons c cs => exact (State.takeCharge_head hj hc).2.2

theorem State.cached_congr (h : t.resolver.sets = s.resolver.sets) (n : CardNo) : t.cached n = s.cached n := by
  unfold State.cached State.cacheSet
  rw [h]

/-! ## A charged deposit (R88, R89) -/

theorem CardRecord.plus_eq (r : CardRecord) (period count : Nat) : addUsage period count r = r.plus period count := by
  unfold addUsage CardRecord.plus satAdd
  split
  · rfl
  · rw [Nat.zero_add]

theorem State.modCached_queue (s : State) (n : CardNo) (f : CacheEntry → CacheEntry) :
    (s.modCached n f).resolver.charges = s.resolver.charges ∧ (s.modCached n f).resolver.job = s.resolver.job := by
  unfold State.modCached
  split <;> exact ⟨rfl, rfl⟩

/-- The waiting charge of a card counts one more, or a new one stands last (R89). -/
theorem State.depositEntered_eq {q : List Charge} (h : s.depositEntered n q) : q = enterCharge n s.resolver.charges := by
  obtain ⟨pre, c, post, hq, hc, hpre, rfl⟩ | ⟨hn, rfl⟩ := h
  · rw [hq]
    clear hq
    induction pre with
    | nil => simp [enterCharge, hc, satAdd]
    | cons d ds ih =>
      obtain ⟨hd, hds⟩ := List.forall_mem_cons.mp hpre
      rw [List.cons_append, List.cons_append, enterCharge, if_neg hd, ih hds]
  · generalize s.resolver.charges = l at hn
    induction l with
    | nil => rfl
    | cons d ds ih =>
      obtain ⟨hd, hds⟩ := List.forall_mem_cons.mp hn
      rw [List.cons_append, enterCharge, if_neg hd, ih hds]

theorem mem_enterCharge (n : CardNo) (q : List Charge) : ∃ c ∈ enterCharge n q, c.card = n := by
  have mem := (mem_cards_enterCharge n n q).mpr (.inl rfl)
  simpa using mem

/-- The charge has been written through to the cache, and the queue has taken it (R88, R89). -/
def State.chargeEntered (n : CardNo) (s : State) : State :=
  (s.chargeCache n).modResolver fun r => { r with charges := enterCharge n r.charges }

theorem State.chargeCache_store (s : State) (n : CardNo) : (s.chargeCache n).store = s.store := by
  have charges : s.Charges (s.chargeCache n) := s.charges_modCached n _
  exact (congrArg State.store charges :)

theorem State.charge_eq (s : State) (n : CardNo) :
    s.charge n = if s.store.state = .online then (s.chargeEntered n).takeCharge else s.chargeCache n := by
  rw [← s.chargeCache_store n]
  rfl

theorem State.chargeEntered_resolver (s : State) (n : CardNo) :
    (s.chargeEntered n).resolver.charges = enterCharge n s.resolver.charges
      ∧ (s.chargeEntered n).resolver.job = s.resolver.job := by
  obtain ⟨charges, job⟩ := s.modCached_queue n fun e => { e with record := addUsage s.clock.period 1 e.record }
  exact ⟨congrArg (enterCharge n) charges, job⟩

/-- The usage of the cached entry grows by one (R88, R123). -/
theorem State.cached_charge (s : State) (n : CardNo) : (s.charge n).cached n
    = (s.cached n).map fun x => { x with record := x.record.plus s.clock.period 1 } := by
  have cached := s.cached_modCached (n := n) (fun e => { e with record := addUsage s.clock.period 1 e.record }) fun _ => rfl
  have plus : (fun e : CacheEntry => { e with record := addUsage s.clock.period 1 e.record })
      = fun x => { x with record := x.record.plus s.clock.period 1 } := by
    funext e
    rw [CardRecord.plus_eq]
  rw [plus] at cached
  refine Eq.trans (State.cached_congr ?_ n) cached
  rw [← plus, s.charge_eq]
  split
  · exact State.takeCharge_sets _
  · rfl

/-- Without an ONLINE store the charge goes no further (R88). -/
theorem State.charge_offline (h : s.store.state ≠ .online) (n : CardNo) :
    (s.charge n).resolver.charges = s.resolver.charges ∧ (s.charge n).resolver.job = s.resolver.job := by
  rw [s.charge_eq, if_neg h]
  exact s.modCached_queue n _

/-- With an ONLINE store it joins the queue; a charge in progress goes on (R88, R89). -/
theorem State.charge_queued (h : s.store.state = .online) (n : CardNo) {j : ChargeJob} (hj : s.resolver.job = some j) :
    (s.charge n).resolver.job = s.resolver.job ∧ (s.charge n).resolver.charges = enterCharge n s.resolver.charges := by
  obtain ⟨charges, job⟩ := s.chargeEntered_resolver n
  rw [s.charge_eq, if_pos h, State.takeCharge_busy (job.trans hj)]
  exact ⟨job, charges⟩

/-- With none in progress the head of the queue is taken (R90). -/
theorem State.charge_taken (h : s.store.state = .online) (n : CardNo) (hj : s.resolver.job = none) :
    (s.charge n).resolver.job.map ChargeJob.charge = (enterCharge n s.resolver.charges).head?
      ∧ (s.charge n).resolver.charges = (enterCharge n s.resolver.charges).drop 1 := by
  obtain ⟨charges, job⟩ := s.chargeEntered_resolver n
  obtain ⟨c, hc, -⟩ := mem_enterCharge n s.resolver.charges
  cases hq : enterCharge n s.resolver.charges with
  | nil => rw [hq] at hc; cases hc
  | cons d ds =>
    obtain ⟨taken, rest, -⟩ := State.takeCharge_head (job.trans hj) (charges.trans hq)
    rw [s.charge_eq, if_pos h]
    exact ⟨taken, rest⟩

/-- The card has a charge that waits or is in progress (R88 to R90). -/
theorem State.charge_stands (h : s.store.state = .online) (n : CardNo) :
    (∃ c ∈ (s.charge n).resolver.charges, c.card = n) ∨ ∃ j, (s.charge n).resolver.job = some j ∧ j.charge.card = n := by
  obtain ⟨c, hc, hn⟩ := mem_enterCharge n s.resolver.charges
  cases hj : s.resolver.job with
  | some j =>
    rw [(State.charge_queued h n hj).2]
    exact .inl ⟨c, hc, hn⟩
  | none =>
    obtain ⟨taken, rest⟩ := State.charge_taken h n hj
    rw [rest]
    cases hq : enterCharge n s.resolver.charges with
    | nil => rw [hq] at hc; cases hc
    | cons d ds =>
      rw [hq] at hc taken
      obtain rfl | hc := List.mem_cons.mp hc
      · obtain ⟨j, hj, rfl⟩ := Option.map_eq_some_iff.mp taken
        exact .inr ⟨j, hj, hn⟩
      · exact .inl ⟨c, hc, hn⟩

end

end Sys2Proof.Machine
end

section
/-! SUPPORT. The intake behind a counted deposit (O33): the charge of the turn, the drum home tests, the session that goes on
or is closed (R88, R110 to R112, R115 to R117). -/

namespace Sys2Proof.Machine

section
variable {s t u v : State} {j k : Slot} {c : Session} {r : EndReason}

/-! ## Locks of the other slots (R19, R144) -/

/-- The locks of every slot but k are as they were. -/
structure State.LocksHeld (s t : State) (k : Slot) : Prop where
  locks : ∀ j, j ≠ k → (t.slot j).locks = (s.slot j).locks

theorem State.LocksHeld.refl (s : State) (k : Slot) : s.LocksHeld s k := ⟨fun _ _ => rfl⟩

theorem State.LocksHeld.trans (h : s.LocksHeld t k) (h' : t.LocksHeld u k) : s.LocksHeld u k :=
  ⟨fun j hj => (h'.locks j hj).trans (h.locks j hj)⟩

theorem State.locksHeld_modSlot (s : State) (k : Slot) (f : SlotUnit → SlotUnit) : s.LocksHeld (s.modSlot k f) k :=
  ⟨fun j hj => by rw [State.slot_modSlot_other _ _ hj]⟩

theorem State.Relogged.locksHeld (h : s.Relogged t) (k : Slot) : s.LocksHeld t k :=
  ⟨fun j _ => (h.slot j).locks⟩

theorem State.locksHeld_of_slots (h : t.slots = s.slots) (k : Slot) : s.LocksHeld t k :=
  ⟨fun j _ => by rw [State.slot_congr h j]⟩

theorem State.locksHeld_changeBar (s : State) (k : Slot) (b : Bar) (x : Bool) : s.LocksHeld (s.changeBar k b x) k :=
  ⟨fun j hj => by rw [State.slot_changeBar_other _ _ _ hj]⟩

theorem State.locksHeld_postCustody (s : State) (k : Slot) (st : CustodyState) (x : Option CustodyReason) :
    s.LocksHeld (s.postCustody k st x) k := State.locksHeld_of_slots (s.postCustody_slots k st x) k

theorem State.locksHeld_modCustody (s : State) (f : Custody → Custody) (k : Slot) : s.LocksHeld (s.modCustody f) k :=
  ⟨fun _ _ => rfl⟩

theorem State.locksHeld_enterCustody (s : State) (st : CustodyState) (d : Option Nat) (k : Slot) :
    s.LocksHeld (s.enterCustody st d) k :=
  (s.locksHeld_modCustody _ k).trans ((State.relogged_evaluateLog _).locksHeld k)

theorem State.locksHeld_clearCustody (s : State) (k : Slot) : s.LocksHeld (s.clearCustody k) k :=
  (((s.locksHeld_changeBar k .lift false).trans (State.locksHeld_modCustody ..)).trans (State.locksHeld_modSlot ..)).trans
    ((State.relogged_evaluateLog _).locksHeld k)

theorem State.locksHeld_endCustody (s : State) (k : Slot) (x : Option CustodyReason) : s.LocksHeld (s.endCustody k x) k := by
  have cleared : s.LocksHeld ((s.setHatch k false).clearCustody k) k :=
    (s.locksHeld_modSlot k _).trans (State.locksHeld_clearCustody _ k)
  unfold State.endCustody
  dsimp only
  split
  · split
    · exact cleared
    · exact cleared.trans (State.locksHeld_postCustody ..)
  · exact cleared

theorem State.locksHeld_slotQuiet (s : State) (k : Slot) : s.LocksHeld (s.slotQuiet k) k := by
  unfold State.slotQuiet
  split
  · split
    · exact s.locksHeld_endCustody k _
    · exact (((s.locksHeld_modCustody _ k).trans (State.locksHeld_modSlot _ k _)).trans
        (State.locksHeld_enterCustody ..)).trans (State.locksHeld_postCustody ..)
  · exact .refl s k

theorem State.locksHeld_closeSession (s : State) (k : Slot) (c : Session) (r : EndReason) :
    s.LocksHeld (s.closeSession k c r) k :=
  ((s.locksHeld_modSlot k _).trans ((s.relogged_recordedSession k c r).locksHeld k)).trans (State.locksHeld_slotQuiet _ k)

/-! ## A session that is closed (R115, R117) -/

/-- A closed session: the intake stands by its bars, the post-session delay runs after a deposit, the record is in the log. -/
structure State.Closed (t : State) (k : Slot) (fraction : Fraction) (c : Session) (r : EndReason) : Prop where
  rests : (t.slot k).rests
  delay : 1 ≤ c.deposits → (t.slot k).range.delay = some (t.now + 10000)
  recorded : c.charged = true → ∃ x ∈ t.log.records, x.body = .session k fraction c t.stamp r

theorem State.closeSession_closed (s : State) (k : Slot) (c : Session) (r : EndReason) :
    (s.closeSession k c r).Closed k (s.slot k).record.fraction c r := by
  have quieted := s.quieted_closeSession k c r
  have atK := quieted.slot k
  rw [State.slot_modSlot_same] at atK
  refine ⟨atK.rests (SlotUnit.rests_closed ..), fun hd => ?_, fun hc => ?_⟩
  · rw [atK.range, quieted.now]
    exact if_pos hd
  · rw [s.closeSession_records k r hc, quieted.stamp]
    exact ⟨_, List.mem_append_right _ (List.mem_singleton_self _), rfl⟩

/-- DRUM that ends at the drum home leaves a closed session closed (R25). -/
theorem State.Closed.drumRecovered {f : Fraction} (h : s.Closed k f c r) (counted : Bool) (away : Nat) :
    (s.drumRecovered k counted away).Closed k f c r := by
  have cleared := s.barred_changeBar k .drum false
  have recovered := s.drumRecovered_cases k counted away
  have atK := recovered.slot k
  rw [State.slot_changeBar_same] at atK
  have grown : s.Grown (s.drumRecovered k counted away) := Kept.drumRecovered _ _ _ (State.Grown.refl s).holds
  have stamp : (s.drumRecovered k counted away).stamp = s.stamp := (cleared.toCalm.trans recovered.toCalm).stamp
  refine ⟨atK.rests (h.rests.withBar .drum false), fun hd => ?_, fun hc => ?_⟩
  · rw [atK.range, SlotUnit.withBar_range, recovered.now, cleared.now]
    exact h.delay hd
  · obtain ⟨x, hx, body⟩ := h.recorded hc
    exact ⟨x, grown.records.subset hx, by rw [stamp]; exact body⟩

/-! ## The end of a counted turn at the intake (R110, R111, R116) -/

/-- The session after a counted turn of its own (R88, R110). -/
theorem Session.afterTurn_counted (h : c.turnBelongs = true) (queued : Bool) : c.afterTurn true queued
    = if c.charged = true ∧ c.admission ≠ .offlineAny then
        { c with deposits := min (c.deposits + 1) 65535, chargedCount := min (c.chargedCount + 1) 65535
                 notUpdated := c.notUpdated || !queued, turnBelongs := false }
      else { c with deposits := min (c.deposits + 1) 65535, turnBelongs := false } := by
  unfold Session.afterTurn satAdd
  simp [h]

theorem State.chargeTurn_charged (h : c.turnBelongs = true) (hc : c.charged = true) (ha : c.admission ≠ .offlineAny) :
    s.chargeTurn c true = s.charge c.card := by
  unfold State.chargeTurn
  simp [h, hc, ha]

/-- The first drum home test that holds (R111). -/
theorem homeTest_eq (v : SlotUnit) (full : Bool) (c : Session) (u : SlotUnit) (hf : v.bars.full = full)
    (has : ∀ b, b = .flood ∨ b = .service ∨ b = .out → v.bars.has b = u.bars.has b) :
    homeTest v.bars c = u.homeEnd full c := by
  have flood : v.bars.flood = u.bars.flood := has .flood (.inl rfl)
  have service : v.bars.service = u.bars.service := has .service (.inr (.inl rfl))
  have out : v.bars.out = u.bars.out := has .out (.inr (.inr rfl))
  unfold homeTest SlotUnit.homeEnd
  rw [hf, flood, service, out]
  simp only [Bool.or_eq_true, or_assoc]

/-- The turn of an open session has been counted and charged, and the idle timer runs, ahead of the drum home tests. -/
def State.turnCounted (k : Slot) (c : Session) (s : State) : State :=
  ((s.chargeTurn c true).setIntake k (.opened (c.afterTurn true s.chargeQueued))).startIdle k

theorem State.intakeTurnEnds_opened (h : (s.slot k).intake.state = .opened c) :
    s.intakeTurnEnds k true = (s.turnCounted k c).homeTests k := by
  unfold State.intakeTurnEnds
  rw [h]
  rfl

theorem State.intakeTurnEnds_closing (h : (s.slot k).intake.state = .closing c r) :
    s.intakeTurnEnds k true = (s.chargeTurn c true).closeSession k (c.afterTurn true s.chargeQueued) r := by
  unfold State.intakeTurnEnds
  rw [h]

theorem State.slot_turnCounted (s : State) (k : Slot) (c : Session) : (s.turnCounted k c).slot k = { s.slot k with
    intake := { state := .opened (c.afterTurn true s.chargeQueued)
                idleDeadline := some (s.now + 1000 * s.config.idleTimeout) } } := by
  have charges := s.charges_chargeTurn c true
  have config : (s.chargeTurn c true).config = s.config := (congrArg State.config charges :)
  have slot : (s.chargeTurn c true).slot k = s.slot k := State.slot_congr charges.slots k
  unfold State.turnCounted State.startIdle State.setIntake State.modIntake
  rw [State.slot_modSlot_same, State.slot_modSlot_same, slot]
  dsimp only
  rw [State.modSlot_now, State.modSlot_config, charges.now, config]

/-- The tests find nothing: the session goes on (R111, R112). -/
theorem State.homeTests_go_on (h : (s.slot k).intake.state = .opened c) (hn : homeTest (s.slot k).bars c = none) :
    s.homeTests k = s := by
  unfold State.homeTests
  rw [h]
  dsimp only
  rw [hn]

/-- The first test that holds ends the session at the drum home (R111, R115). -/
theorem State.homeTests_end (h : (s.slot k).intake.state = .opened c) (hn : homeTest (s.slot k).bars c = some r)
    (hd : (s.slot k).drumHome = true) : s.homeTests k = (s.modSlot k SlotUnit.shut).closeSession k c r := by
  have ends : s.homeTests k = s.endSession k r := by
    unfold State.homeTests
    rw [h]
    dsimp only
    rw [hn]
  rw [ends, State.endSession_of_opened r h, if_pos hd]

end

end Sys2Proof.Machine
end

section
/-! SUPPORT. The end of a counted turn behind the Fill Estimator (O33): what it leaves, and the session on the slot (R23, R25,
R110 to R112, R115, R116). -/

namespace Sys2Proof.Machine

section
variable {s t u v : State} {j k : Slot} {c : Session} {r : EndReason}

/-- The turn has been charged, where a session holds the slot (R88, R110). -/
def State.chargesTurn (k : Slot) (s : State) : State :=
  match (s.slot k).intake.state with
  | .opened c | .closing c _ => s.chargeTurn c true
  | .idle | .barred | .verifying _ => s

theorem State.chargesTurn_opened (h : (s.slot k).intake.state = .opened c) : s.chargesTurn k = s.chargeTurn c true := by
  unfold State.chargesTurn
  rw [h]

theorem State.chargesTurn_closing (h : (s.slot k).intake.state = .closing c r) : s.chargesTurn k = s.chargeTurn c true := by
  unfold State.chargesTurn
  rw [h]

theorem State.charges_chargesTurn (s : State) (k : Slot) : s.Charges (s.chargesTurn k) := by
  unfold State.chargesTurn
  split
  · exact s.charges_chargeTurn _ true
  · exact s.charges_chargeTurn _ true
  all_goals exact .refl s

theorem State.locksHeld_modIntake (s : State) (k : Slot) (f : Intake → Intake) : s.LocksHeld (s.modIntake k f) k :=
  s.locksHeld_modSlot k _

theorem State.turnCounted_frame (s : State) (k : Slot) (c : Session) :
    (s.chargeTurn c true).Ended (s.turnCounted k c) k ∧ (s.chargeTurn c true).LocksHeld (s.turnCounted k c) k := by
  unfold State.turnCounted State.startIdle State.setIntake
  exact ⟨(State.ended_modIntake ..).trans (State.ended_modIntake ..),
    (State.locksHeld_modIntake ..).trans (State.locksHeld_modIntake ..)⟩

theorem State.locksHeld_homeTests (s : State) (k : Slot) : s.LocksHeld (s.homeTests k) k := by
  unfold State.homeTests
  split
  · next c hc =>
    split
    · next r _ =>
      rw [State.endSession_of_opened r hc]
      split
      · exact (s.locksHeld_modSlot k _).trans (State.locksHeld_closeSession ..)
      · exact (s.locksHeld_modSlot k _).trans (State.locksHeld_modIntake ..)
    · exact .refl s k
  all_goals exact .refl s k

theorem State.intakeTurnEnds_frame (s : State) (k : Slot) :
    (s.chargesTurn k).Ended (s.intakeTurnEnds k true) k ∧ (s.chargesTurn k).LocksHeld (s.intakeTurnEnds k true) k := by
  cases h : (s.slot k).intake.state with
  | opened c =>
    rw [State.chargesTurn_opened h, State.intakeTurnEnds_opened h]
    obtain ⟨ended, held⟩ := s.turnCounted_frame k c
    exact ⟨ended.trans (State.ended_homeTests _ k), held.trans (State.locksHeld_homeTests _ k)⟩
  | closing c r =>
    rw [State.chargesTurn_closing h, State.intakeTurnEnds_closing h]
    exact ⟨State.ended_closeSession .., State.locksHeld_closeSession ..⟩
  | idle =>
    unfold State.chargesTurn State.intakeTurnEnds
    rw [h]
    exact ⟨.refl s k, .refl s k⟩
  | barred =>
    unfold State.chargesTurn State.intakeTurnEnds
    rw [h]
    exact ⟨.refl s k, .refl s k⟩
  | verifying n =>
    unfold State.chargesTurn State.intakeTurnEnds
    rw [h]
    exact ⟨.refl s k, .refl s k⟩

/-- The intake has received the end of a counted turn, and DRUM has been cleared (R23, R25). -/
def State.countsTurn (k : Slot) (away : Nat) (s : State) : State := (s.intakeTurnEnds k true).drumRecovered k true away

/-- What the end of a counted turn leaves, ahead of the session on the slot. -/
structure State.TurnCounted (s t : State) (k : Slot) : Prop where
  now : t.now = s.now
  stamp : t.stamp = s.stamp
  demand : t.demand = s.demand
  ranging : t.ranging = s.ranging
  resolver : t.resolver = (s.chargesTurn k).resolver
  grown : s.Grown t
  fill : ∀ j, (t.slot j).fill = (s.slot j).fill
  record : (t.slot k).record = (s.slot k).record
  drum : (t.slot k).track.drum = (s.slot k).track.drum
  jamDeadline : (t.slot k).track.jamDeadline = (s.slot k).track.jamDeadline
  has : ∀ b, b ≠ .log → b ≠ .lift → b ≠ .drum → (t.slot k).bars.has b = (s.slot k).bars.has b
  cleared : (s.slot k).configured = true → (t.slot k).bars.drum = false
  locks : ∀ j, j ≠ k → (t.slot j).locks = (s.slot j).locks

theorem State.countsTurn_counted (s : State) (k : Slot) (away : Nat) : s.TurnCounted (s.countsTurn k away) k := by
  have charges := s.charges_chargesTurn k
  obtain ⟨ended, held⟩ := s.intakeTurnEnds_frame k
  have cleared := (s.intakeTurnEnds k true).barred_changeBar k .drum false
  have recovered := (s.intakeTurnEnds k true).drumRecovered_cases k true away
  have clock : (s.chargesTurn k).clock = s.clock := (congrArg State.clock charges :)
  have slot (j : Slot) : (s.chargesTurn k).slot j = s.slot j := State.slot_congr charges.slots j
  have endedK := ended.slot k
  have recoveredK := recovered.slot k
  rw [slot] at endedK
  rw [State.slot_changeBar_same] at recoveredK
  have noted : (s.chargesTurn k).Calm (s.countsTurn k away) :=
    (ended.toCalm.trans cleared.toCalm).trans recovered.toCalm
  refine ⟨noted.now.trans charges.now, ?_, ?_, ?_, noted.resolver,
    Kept.drumRecovered _ _ _ (Kept.intakeTurnEnds _ _ (State.Grown.refl s).holds), fun j => ?_, ?_, ?_, ?_,
    fun b hl hi hd => ?_, fun hc => ?_, fun j hj => ?_⟩
  · rw [noted.stamp]
    unfold State.stamp
    rw [clock]
  · exact recovered.demand.trans (cleared.demand.trans (ended.demand.trans (congrArg State.demand charges :)))
  · exact recovered.ranging.trans (cleared.ranging.trans (ended.ranging.trans (congrArg State.ranging charges :)))
  · unfold State.countsTurn
    rw [(recovered.slot j).fill, State.slot_changeBar, ← slot j, ← (ended.slot j).fill]
    split
    · exact SlotUnit.withBar_fill ..
    · rfl
  · exact recoveredK.record.trans ((SlotUnit.withBar_record ..).trans endedK.record)
  · unfold State.countsTurn
    rw [recoveredK.track, SlotUnit.withBar_track, endedK.drum]
  · unfold State.countsTurn
    rw [recoveredK.track, SlotUnit.withBar_track, endedK.jamDeadline]
  · exact (recoveredK.has hl).trans ((SlotUnit.withBar_has_other _ _ _ hd).trans (endedK.has b hl hi))
  · have drum := recoveredK.has (b := .drum) (by decide)
    rw [SlotUnit.withBar_bars _ _ _ (endedK.configured.trans hc), BarSet.has_put_same] at drum
    exact drum
  · unfold State.countsTurn
    rw [(recovered.slot j).locks, State.slot_changeBar_other _ _ _ hj, held.locks j hj, slot]

/-! ## The session on the slot (R110 to R112, R115, R116) -/

section
variable {away : Nat}

/-- No drum home test holds: the session goes on, the idle timer begun afresh (R111, R112). -/
theorem State.countsTurn_goes_on (h : (s.slot k).intake.state = .opened c)
    (hn : homeTest (s.slot k).bars (c.afterTurn true s.chargeQueued) = none) : ((s.countsTurn k away).slot k).intake
      = { state := .opened (c.afterTurn true s.chargeQueued), idleDeadline := some (s.now + 1000 * s.config.idleTimeout) } := by
  have counted := s.slot_turnCounted k c
  have goes : s.intakeTurnEnds k true = s.turnCounted k c := by
    rw [State.intakeTurnEnds_opened h]
    exact State.homeTests_go_on (c := c.afterTurn true s.chargeQueued) (by rw [counted]) (by rw [counted]; exact hn)
  have atK := ((s.intakeTurnEnds k true).drumRecovered_cases k true away).slot k
  rw [State.slot_changeBar_same, goes] at atK
  have busy : ((s.turnCounted k c).slot k).intake.state.busy = true := by rw [counted]; rfl
  unfold State.countsTurn
  rw [goes, atK.intake_of_busy (by rw [SlotUnit.busy_withBar]; exact busy), SlotUnit.intake_withBar_of_busy _ _ busy, counted]

/-- The first drum home test that holds closes the session, DRUM_LOCK engaged (R111, R115). -/
theorem State.countsTurn_ends (h : (s.slot k).intake.state = .opened c) (hd : (s.slot k).drumHome = true)
    (hn : homeTest (s.slot k).bars (c.afterTurn true s.chargeQueued) = some r) :
    (s.countsTurn k away).Closed k (s.slot k).record.fraction (c.afterTurn true s.chargeQueued) r
      ∧ ((s.countsTurn k away).slot k).intake.idleDeadline = none
      ∧ ((s.countsTurn k away).slot k).locks.drumReleased = false := by
  have counted := s.slot_turnCounted k c
  have ends : s.intakeTurnEnds k true
      = ((s.turnCounted k c).modSlot k SlotUnit.shut).closeSession k (c.afterTurn true s.chargeQueued) r := by
    rw [State.intakeTurnEnds_opened h]
    exact State.homeTests_end (by rw [counted]) (by rw [counted]; exact hn) (by rw [counted]; exact hd)
  have quieted := ((s.turnCounted k c).modSlot k SlotUnit.shut).quieted_closeSession k (c.afterTurn true s.chargeQueued) r
  have quietK := quieted.slot k
  rw [State.slot_modSlot_same, State.slot_modSlot_same, counted, ← ends] at quietK
  have closed := ((s.turnCounted k c).modSlot k SlotUnit.shut).closeSession_closed k (c.afterTurn true s.chargeQueued) r
  rw [State.slot_modSlot_same, counted, ← ends] at closed
  have atK := ((s.intakeTurnEnds k true).drumRecovered_cases k true away).slot k
  rw [State.slot_changeBar_same] at atK
  refine ⟨closed.drumRecovered true away, ?_, ?_⟩
  · exact atK.idleDeadline.trans ((SlotUnit.withBar_idleDeadline ..).trans quietK.idleDeadline)
  · unfold State.countsTurn
    rw [atK.locks, SlotUnit.withBar_locks, quietK.drumReleased]
    rfl

/-- In CLOSING the session is closed with the reason recorded (R116). -/
theorem State.countsTurn_closes (h : (s.slot k).intake.state = .closing c r) :
    (s.countsTurn k away).Closed k (s.slot k).record.fraction (c.afterTurn true s.chargeQueued) r := by
  have closed := (s.chargeTurn c true).closeSession_closed k (c.afterTurn true s.chargeQueued) r
  rw [State.slot_congr (s.charges_chargeTurn c true).slots, ← State.intakeTurnEnds_closing h] at closed
  exact closed.drumRecovered true away

end

end

end Sys2Proof.Machine
end

section
/-! SUPPORT. The deposit of an accepted drum home (O33): the pieces of a counted turn for the state in which the edge has been
accepted (R23, R37, R49, R51, R53, R88 to R90, R110 to R112, R116). -/

namespace Sys2Proof.Machine

section
variable {s t u v : State} {j k : Slot} {x : Pending} {away : Nat} {c c' : Session} {r : EndReason}

/-- The deposit has reached the Fill Estimator and the Ranging Unit, behind the accepted edge. -/
def State.depositSettled (k : Slot) (x : Pending) (s : State) : State := (s.accepts k .drumHome x).settles k

/-- A counted turn has ended, behind the accepted edge. -/
def State.depositTurn (k : Slot) (x : Pending) (away : Nat) (s : State) : State := (s.depositSettled k x).countsTurn k away

theorem State.depositTurn_eq (s : State) (k : Slot) (x : Pending) (away : Nat) :
    s.depositTurn k x away = (s.depositSettled k x).countsTurn k away := rfl

theorem State.depositSettled_eq (s : State) (k : Slot) (x : Pending) :
    s.depositSettled k x = (s.accepts k .drumHome x).settles k := rfl

theorem State.endTurn_counted (s : State) (k : Slot) (away : Nat) :
    s.endTurn k true away = (s.settles k).countsTurn k away := by
  unfold State.endTurn State.countsTurn State.settles State.comesHome
  dsimp only
  rw [if_pos rfl]

theorem State.deliverEdge_deposit (hc : (s.slot k).configured = true) (hd : (s.slot k).track.drum = .reachedOpen) :
    ∃ away, s.deliverEdge k .drumHome true = (s.settles k).countsTurn k away := by
  refine ⟨s.now - (s.slot k).track.turnStart, ?_⟩
  rw [State.deliverEdge_drumHome_on hc, ← State.endTurn_counted]
  unfold State.drumCameHome
  dsimp only
  rw [hd]

theorem exec_drumHome_deposit (hc : (s.slot k).configured = true)
    (hx : ((s.slot k).lines.get .drumHome).pending = some x) (ha : ((s.slot k).lines.get .drumHome).accepted = false)
    (hd : (s.slot k).track.drum = .reachedOpen) :
    ∃ away, exec (.filterTimeElapsed k .drumHome) s = .next (s.depositTurn k x away) := by
  have atK := s.slot_accepts k .drumHome x
  obtain ⟨away, turn⟩ := State.deliverEdge_deposit (s := s.accepts k .drumHome x) (k := k) (by rw [atK]; exact hc)
    (by rw [atK]; exact hd)
  exact ⟨away, by rw [exec_edge hx (b := true) ha, turn, ← State.depositSettled_eq, ← State.depositTurn_eq]⟩

theorem State.depositSettled_settled (s : State) (k : Slot) (x : Pending) :
    (s.accepts k .drumHome x).Settled (s.depositSettled k x) k := State.settles_settled _ k

theorem State.depositTurn_counted (s : State) (k : Slot) (x : Pending) (away : Nat) :
    (s.depositSettled k x).TurnCounted (s.depositTurn k x away) k := State.countsTurn_counted _ k away

/-- What the accepted edge and the deposit leave alone. -/
theorem State.depositSettled_frame (s : State) (k : Slot) (x : Pending) : (s.depositSettled k x).config = s.config
    ∧ (s.depositSettled k x).resolver = s.resolver ∧ (s.depositSettled k x).store = s.store
    ∧ (s.depositSettled k x).clock.period = s.clock.period := by
  have calm := (s.depositSettled_settled k x).calm
  have clock : (s.accepts k .drumHome x).clock.period = s.clock.period := rfl
  exact ⟨calm.config, calm.resolver, calm.store, (congrArg Clock.period calm.clock).trans clock⟩

theorem State.depositSettled_slot (hc : (s.slot k).configured = true) :
    (s.slot k).Deposited ((s.depositSettled k x).slot k) := by
  have deposited := (s.depositSettled_settled k x).slot (by rw [s.slot_accepts]; exact hc)
  rw [s.slot_accepts] at deposited
  exact ⟨deposited.fill, deposited.full, deposited.has, deposited.record, deposited.configured, deposited.locks,
    deposited.intake⟩

/-- The slot once the turn has ended (R23, R25, R49, R51, R55). -/
theorem State.depositTurn_slot (hc : (s.slot k).configured = true) :
    let t := s.depositTurn k x away;
    (t.slot k).fill = { (s.slot k).fill with
        e := (s.slot k).raisedE, a := min ((s.slot k).fill.a + (s.slot k).record.increment) 65535
        f := (s.slot k).record.fillOf (s.slot k).raisedE, h := (s.slot k).record.headroom (s.slot k).raisedE
        hf := hoursToFull ((s.slot k).record.headroom (s.slot k).raisedE) (s.slot k).fill.fr }
      ∧ (t.slot k).track.drum = .atHome ∧ (t.slot k).track.jamDeadline = none ∧ (t.slot k).bars.drum = false
      ∧ (t.slot k).bars.full = (s.slot k).fullAt ((s.slot k).record.fillOf (s.slot k).raisedE) := by
  have settled := s.depositSettled_settled k x
  have deposited := State.depositSettled_slot (x := x) hc
  have counted := s.depositTurn_counted k x away
  exact ⟨(counted.fill k).trans deposited.fill, counted.drum.trans settled.drum,
    counted.jamDeadline.trans settled.jamDeadline, counted.cleared (deposited.configured.trans hc),
    (counted.has .full (by decide) (by decide) (by decide)).trans deposited.full⟩

theorem State.depositTurn_other (s : State) (x : Pending) (away : Nat) (h : j ≠ k) :
    ((s.depositTurn k x away).slot j).fill = (s.slot j).fill
      ∧ ((s.depositTurn k x away).slot j).locks = (s.slot j).locks := by
  have counted := s.depositTurn_counted k x away
  obtain ⟨fill, locks⟩ := (s.depositSettled_settled k x).others j h
  rw [s.slot_accepts_other _ _ h] at fill locks
  exact ⟨(counted.fill j).trans fill, (counted.locks j h).trans locks⟩

/-- The burst in flight for the slot stands in the queue, or has been chosen anew (R35, R37). -/
theorem State.depositTurn_asked {b : Burst} (hb : s.burstOn k = some b) (hc : (s.slot k).configured = true)
    (hf : (s.slot k).bars.flood = false) : (s.depositTurn k x away).rangingAsked k b.cause := by
  have counted := s.depositTurn_counted k x away
  have asked := (s.depositSettled_settled k x).asked b hb (by rw [s.slot_accepts]; exact hc) (by rw [s.slot_accepts]; exact hf)
  exact (asked.congr counted.ranging).rangingAsked

/-- The demand queue follows the deposit (R53, R55, R130, R134). -/
theorem State.depositTurn_demandFollows (hc : (s.slot k).configured = true) :
    s.demandFollows (s.depositTurn k x away) k := by
  have atK : ((s.accepts k .drumHome x).comesHome k).slot k
      = { s.slot k with
          lines := (s.slot k).lines.set ((s.slot k).lines.get .drumHome).accept .drumHome
          track := { (s.slot k).track with drum := .atHome, jamDeadline := none } } := by
    rw [State.slot_comesHome, s.slot_accepts]
  have spared := (s.accepts k .drumHome x).spared_settles k
  have spareK := spared.slot k
  have counted := s.depositTurn_counted k x away
  have deposited := State.deposited (s := (s.accepts k .drumHome x).comesHome k) (k := k) (by rw [atK]; exact hc)
  have calm := (((s.accepts k .drumHome x).comesHome k).deposit_calm k).1
  have grown := ((s.accepts k .drumHome x).grown_settles k).trans counted.grown
  exact (State.evaluated_deposit (s := s) (u := (s.accepts k .drumHome x).comesHome k) (k := k) rfl rfl (by rw [atK])
    (by rw [atK]) List.prefix_rfl (grown.outbox .office) (counted.demand.trans spared.demand)
    (counted.stamp.trans (calm.trans spared.toCalm).stamp) ((counted.fill k).trans spareK.fill)
    ((counted.has .full (by decide) (by decide) (by decide)).trans (spareK.has .full (by decide) (by decide)))
    (counted.record.trans (spareK.record.trans deposited.record))).demandFollows

/-! ## The session (R110 to R112, R115, R116) -/

/-- The session after the turn, as the state before it tells (R88, R110). -/
theorem State.depositSettled_afterTurn (s : State) (k : Slot) (x : Pending) (h : c.turnBelongs = true)
    (he : c' = if c.charged = true ∧ c.admission ≠ .offlineAny then
        { c with deposits := min (c.deposits + 1) 65535, chargedCount := min (c.chargedCount + 1) 65535
                 notUpdated := c.notUpdated || decide (s.store.state ≠ .online), turnBelongs := false }
      else { c with deposits := min (c.deposits + 1) 65535, turnBelongs := false }) :
    c.afterTurn true (s.depositSettled k x).chargeQueued = c' := by
  obtain ⟨-, -, store, -⟩ := s.depositSettled_frame k x
  have queued : (!(s.depositSettled k x).chargeQueued) = decide (s.store.state ≠ .online) := by
    unfold State.chargeQueued
    rw [store]
    cases s.store.state <;> rfl
  rw [Session.afterTurn_counted h, he, queued]

theorem State.depositSettled_homeTest (hc : (s.slot k).configured = true) (c : Session) :
    homeTest ((s.depositSettled k x).slot k).bars c
      = (s.slot k).homeEnd ((s.slot k).fullAt ((s.slot k).record.fillOf (s.slot k).raisedE)) c := by
  have deposited := State.depositSettled_slot (x := x) hc
  refine homeTest_eq _ _ c _ deposited.full fun b hb => ?_
  obtain rfl | rfl | rfl := hb
  all_goals exact deposited.has _ (by decide) (by decide) (by decide)

theorem State.Closed.sessionClosed (h : t.Closed k (s.slot k).record.fraction c r) : s.sessionClosed t k c r :=
  ⟨h.rests, h.delay, h.recorded⟩

/-- An open session goes on where no drum home test holds (R111, R112). -/
theorem State.depositTurn_goes_on (hc : (s.slot k).configured = true) (hi : (s.slot k).intake.state = .opened c)
    (he : c.afterTurn true (s.depositSettled k x).chargeQueued = c')
    (hn : (s.slot k).homeEnd ((s.slot k).fullAt ((s.slot k).record.fillOf (s.slot k).raisedE)) c' = none) :
    ((s.depositTurn k x away).slot k).intake
      = { state := .opened c', idleDeadline := some ((s.depositTurn k x away).now + 1000 * s.config.idleTimeout) } := by
  have deposited := State.depositSettled_slot (x := x) hc
  have counted := s.depositTurn_counted k x away
  have now : (s.depositTurn k x away).now = (s.depositSettled k x).now := counted.now
  have intake := deposited.intake (by rw [hi]; rfl)
  have goes := State.countsTurn_goes_on (s := s.depositSettled k x) (k := k) (c := c) (away := away) (by rw [intake]; exact hi)
    (by rw [he, State.depositSettled_homeTest hc]; exact hn)
  rw [he, (s.depositSettled_frame k x).1, ← now] at goes
  exact goes

/-- The first drum home test that holds closes it (R111, R115). -/
theorem State.depositTurn_ends (hc : (s.slot k).configured = true) (hi : (s.slot k).intake.state = .opened c)
    (he : c.afterTurn true (s.depositSettled k x).chargeQueued = c')
    (hn : (s.slot k).homeEnd ((s.slot k).fullAt ((s.slot k).record.fillOf (s.slot k).raisedE)) c' = some r) :
    s.sessionClosed (s.depositTurn k x away) k c' r ∧ ((s.depositTurn k x away).slot k).intake.idleDeadline = none
      ∧ ((s.depositTurn k x away).slot k).locks.drumReleased = false := by
  have settled := s.depositSettled_settled k x
  have deposited := State.depositSettled_slot (x := x) hc
  have intake := deposited.intake (by rw [hi]; rfl)
  have home : ((s.depositSettled k x).slot k).drumHome = true := by
    unfold SlotUnit.drumHome
    rw [settled.drum]
    rfl
  obtain ⟨closed, idle, drum⟩ := State.countsTurn_ends (s := s.depositSettled k x) (k := k) (c := c) (r := r) (away := away)
    (by rw [intake]; exact hi) home (by rw [he, State.depositSettled_homeTest hc]; exact hn)
  rw [he, deposited.record] at closed
  rw [← State.depositTurn_eq] at closed idle drum
  exact ⟨closed.sessionClosed, idle, drum⟩

/-- A session in CLOSING is closed with its reason (R116). -/
theorem State.depositTurn_closes (hc : (s.slot k).configured = true) (hi : (s.slot k).intake.state = .closing c r)
    (he : c.afterTurn true (s.depositSettled k x).chargeQueued = c') : s.sessionClosed (s.depositTurn k x away) k c' r := by
  have deposited := State.depositSettled_slot (x := x) hc
  have intake := deposited.intake (by rw [hi]; rfl)
  have closed := State.countsTurn_closes (s := s.depositSettled k x) (k := k) (c := c) (r := r) (away := away)
    (by rw [intake]; exact hi)
  rw [he, deposited.record, ← State.depositTurn_eq] at closed
  exact closed.sessionClosed

/-! ## The charge (R88 to R90) -/

/-- The Card Resolver is as the charge of the session's card leaves it. -/
theorem State.depositTurn_resolver (hc : (s.slot k).configured = true)
    (hi : (s.slot k).intake.state = .opened c ∨ ∃ r, (s.slot k).intake.state = .closing c r)
    (ht : c.turnBelongs = true) (hh : c.charged = true) (ha : c.admission ≠ .offlineAny) :
    (s.depositTurn k x away).resolver = ((s.depositSettled k x).charge c.card).resolver := by
  have deposited := State.depositSettled_slot (x := x) hc
  have counted := s.depositTurn_counted k x away
  have charged : (s.depositSettled k x).chargesTurn k = (s.depositSettled k x).charge c.card := by
    rw [← State.chargeTurn_charged ht hh ha]
    obtain hi | ⟨r, hi⟩ := hi
    · have intake := deposited.intake (by rw [hi]; rfl)
      exact State.chargesTurn_opened (by rw [intake]; exact hi)
    · have intake := deposited.intake (by rw [hi]; rfl)
      exact State.chargesTurn_closing (by rw [intake]; exact hi)
  rw [← charged]
  exact counted.resolver

/-- The cached usage grows by one (R88). -/
theorem State.depositTurn_cached (h : (s.depositTurn k x away).resolver = ((s.depositSettled k x).charge c.card).resolver) :
    (s.depositTurn k x away).cached c.card
      = (s.cached c.card).map fun y => { y with record := y.record.plus s.clock.period 1 } := by
  obtain ⟨-, resolver, -, period⟩ := s.depositSettled_frame k x
  rw [State.cached_congr (congrArg Resolver.sets h), State.cached_charge, period,
    State.cached_congr (congrArg Resolver.sets resolver)]

/-- Without an ONLINE store the queue stays (R88). -/
theorem State.depositTurn_offline (h : (s.depositTurn k x away).resolver = ((s.depositSettled k x).charge c.card).resolver)
    (ho : s.store.state ≠ .online) : (s.depositTurn k x away).resolver.charges = s.resolver.charges
      ∧ (s.depositTurn k x away).resolver.job = s.resolver.job := by
  obtain ⟨-, resolver, store, -⟩ := s.depositSettled_frame k x
  have same := State.charge_offline (s := s.depositSettled k x) (by rw [store]; exact ho) c.card
  rw [resolver] at same
  rw [h]
  exact same

/-- With an ONLINE store the charge stands: it waits, or is in progress (R88 to R90). -/
theorem State.depositTurn_online (h : (s.depositTurn k x away).resolver = ((s.depositSettled k x).charge c.card).resolver)
    (ho : s.store.state = .online) :
    ((∃ ch ∈ (s.depositTurn k x away).resolver.charges, ch.card = c.card)
        ∨ ∃ j, (s.depositTurn k x away).resolver.job = some j ∧ j.charge.card = c.card)
      ∧ ∀ q, s.depositEntered c.card q →
        (s.resolver.job ≠ none → (s.depositTurn k x away).resolver.job = s.resolver.job
          ∧ (s.depositTurn k x away).resolver.charges = q)
        ∧ (s.resolver.job = none → (s.depositTurn k x away).resolver.job.map ChargeJob.charge = q.head?
          ∧ (s.depositTurn k x away).resolver.charges = q.drop 1) := by
  obtain ⟨-, resolver, store, -⟩ := s.depositSettled_frame k x
  have online : (s.depositSettled k x).store.state = .online := by rw [store]; exact ho
  rw [h]
  refine ⟨State.charge_stands online c.card, fun q hq => ⟨fun hj => ?_, fun hj => ?_⟩⟩
  · obtain ⟨i, hi⟩ := Option.ne_none_iff_exists'.mp hj
    have queued := State.charge_queued online c.card (j := i) (by rw [resolver]; exact hi)
    rw [resolver] at queued
    rw [State.depositEntered_eq hq]
    exact queued
  · have taken := State.charge_taken online c.card (by rw [resolver]; exact hj)
    rw [resolver] at taken
    rw [State.depositEntered_eq hq]
    exact taken

end

end Sys2Proof.Machine
end

section
/-! SUPPORT. The charge in progress (O33): what each completed transaction of its leaves at the Card Resolver and asks the
Arbiter for, and the charge that is dropped (R90 to R93). -/

namespace Sys2Proof.Machine

section
variable {s t u : State} {x : Transaction} {j : ChargeJob} {o : Handed}

/-! ## The handing over of a completed transaction (R64, R65) -/

/-- The state in which the outcome of a transaction that completes is handed to its requester. -/
def State.handing (x : Transaction) (o : Handed) (s : State) : State :=
  ((State.putItem x { s with arbiter := { s.arbiter with inFlight := none } }).damageAlert x o).tryGrant

theorem exec_transactionComplete_charge (hx : s.arbiter.inFlight = some x) (hr : x.requester = .charge)
    (ho : o = x.op.handed (s.store.mem.readBytes x.op.address x.op.size)) :
    exec (.transactionComplete .held) s = .next ((s.handing x o).chargeHanded x o) := by
  have handed : s.transactionComplete .held = (s.handing x o).handOver x o := by
    unfold State.transactionComplete
    rw [hx, ho]
    rfl
  have charge : (s.handing x o).handOver x o = (s.handing x o).chargeHanded x o := by
    unfold State.handOver
    rw [hr]
  rw [← charge, ← handed]
  rfl

/-- What the completion leaves of the state, ahead of its requester. -/
theorem State.handing_calm (s : State) (x : Transaction) (o : Handed) : (s.handing x o).resolver = s.resolver
    ∧ (s.handing x o).clock = s.clock := by
  have put : (State.putItem x { s with arbiter := { s.arbiter with inFlight := none } }).resolver = s.resolver
      ∧ (State.putItem x { s with arbiter := { s.arbiter with inFlight := none } }).clock = s.clock := by
    unfold State.putItem
    split <;> exact ⟨rfl, rfl⟩
  have alerted (y : State) : y.Calm (y.damageAlert x o) := by
    unfold State.damageAlert
    dsimp only
    split
    · exact (State.relogged_alert ..).toCalm
    · exact (State.relogged_alert ..).toCalm
    all_goals exact (State.Relogged.refl y).toCalm
  obtain ⟨resolver, clock⟩ := put
  unfold State.handing
  rw [State.tryGrant_frame]
  exact ⟨(alerted _).resolver.trans resolver, (alerted _).clock.trans clock⟩

/-- An outcome that is not damaged raises no alert, and the log reserve stands as it did (R65, R172). -/
theorem State.handing_reserveHolds (h : o ≠ .directory none ∧ ∀ p, o ≠ .record p none) :
    (s.handing x o).reserveHolds = s.reserveHolds := by
  have quiet (y : State) : y.damageAlert x o = y := by
    unfold State.damageAlert
    dsimp only
    split
    · exact absurd rfl h.1
    · exact absurd rfl (h.2 _)
    all_goals rfl
  unfold State.handing
  rw [quiet, State.tryGrant_frame]
  unfold State.putItem
  split <;> rfl

/-! ## A search that ends (R67) -/

theorem Search.next?_damaged {q : Search} {e : SearchEnd} (h : (q.dirDamaged || q.firstDamaged.isSome) = true)
    (he : q.next? = .ended e) : ∃ occ first, e = .damaged occ first := by
  unfold Search.next? at he
  dsimp only at he
  rw [h] at he
  simp only [↓reduceIte] at he
  split at he
  · split at he
    · cases he
    · cases he; exact ⟨_, _, rfl⟩
  · cases he; exact ⟨_, _, rfl⟩

/-- A search that ends other than damaged has just read nothing damaged. -/
theorem Search.step_undamaged {q : Search} {e : SearchEnd} (h : q.step o = .ended e)
    (hd : ∀ occ first, e ≠ .damaged occ first) : o ≠ .directory none ∧ ∀ p, o ≠ .record p none := by
  refine ⟨fun ho => ?_, fun p ho => ?_⟩
  · subst ho
    obtain ⟨occ, first, he⟩ := Search.next?_damaged
      (q := { q with occupancy := some 0, dirDamaged := true, next := 0 }) rfl h
    exact hd occ first he
  · subst ho
    obtain ⟨occ, first, he⟩ := Search.next?_damaged
      (q := { q with next := q.next + 1, firstDamaged := q.firstDamaged.orElse fun _ => some p })
      (by cases q.firstDamaged <;> simp) h
    exact hd occ first he

/-! ## The steps of the charge in progress (R90 to R93) -/

section
variable (hj : s.resolver.job = some j)
include hj

theorem State.setChargePhase_resolver (ph : ChargePhase) :
    (s.setChargePhase ph).resolver = { s.resolver with job := some { j with phase := ph } } := by
  have moved : (s.setChargePhase ph).resolver
      = { s.resolver with job := s.resolver.job.map fun i => { i with phase := ph } } := rfl
  rw [moved, hj]
  rfl

/-- A step that goes on: the new phase, and the request it places. -/
theorem State.chargeGoesOn (ph : ChargePhase) (op : StoreOp) :
    ((s.setChargePhase ph).placeRequest .charge ⟨op, false⟩).resolver
        = { s.resolver with job := some { j with phase := ph } }
      ∧ ((s.setChargePhase ph).placeRequest .charge ⟨op, false⟩).asksFor .charge op :=
  ⟨(State.placeRequest_resolver ..).trans (State.setChargePhase_resolver hj ph), State.asksFor_placeRequest ..⟩

theorem State.chargeHanded_found {b : Bucket} {p : Position} {r : CardRecord}
    (h : (∃ q, j.phase = .readCached b p ∧ o = .record q (some r) ∧ r.card = j.charge.card)
      ∨ (b = bucketOf j.charge.card ∧ ∃ q occ, j.phase = .searching q ∧ q.step o = .ended (.found r p occ))) :
    s.chargeHanded x o
      = (s.setChargePhase .writing).placeRequest .charge ⟨.recWrite b p (.charged r j.charge.count), false⟩ := by
  unfold State.chargeHanded
  rw [hj]
  dsimp only
  obtain ⟨q, ph, rfl, hr⟩ | ⟨rfl, q, occ, ph, step⟩ := h
  · rw [ph]
    exact if_pos hr
  · rw [ph]
    dsimp only
    rw [step]
    rfl

theorem State.chargeHanded_searches
    (h : j.phase = .readFreed
      ∨ ∃ b p, j.phase = .readCached b p ∧ ∀ q r, o = .record q (some r) → r.card ≠ j.charge.card) :
    s.chargeHanded x o = (s.setChargePhase (.searching { card := j.charge.card })).placeRequest .charge
      ⟨.dirRead (bucketOf j.charge.card), false⟩ := by
  unfold State.chargeHanded
  rw [hj]
  dsimp only
  obtain ph | ⟨b, p, ph, hr⟩ := h
  · rw [ph]
    rfl
  · rw [ph]
    cases o with
    | directory occ => rfl
    | record q r =>
      cases r with
      | none => rfl
      | some r => exact if_neg (hr q r rfl)
    | written => rfl

theorem State.chargeHanded_reads {q q' : Search} {p : Position} (ph : j.phase = .searching q) (step : q.step o = .read q' p) :
    s.chargeHanded x o = (s.setChargePhase (.searching q')).placeRequest .charge
      ⟨.recRead (bucketOf j.charge.card) p, false⟩ := by
  unfold State.chargeHanded
  rw [hj]
  dsimp only
  rw [ph]
  dsimp only
  rw [step]
  rfl

theorem State.chargeHanded_drops {q : Search} {e : SearchEnd} (ph : j.phase = .searching q) (step : q.step o = .ended e)
    (hn : ∀ r p occ, e ≠ .found r p occ) : s.chargeHanded x o = s.dropCharge j.charge := by
  unfold State.chargeHanded
  rw [hj]
  dsimp only
  rw [ph]
  dsimp only
  rw [step]
  cases e with
  | found r p occ => exact absurd rfl (hn r p occ)
  | absent occ => rfl
  | damaged occ first => rfl

theorem State.chargeHanded_wrote {w : CardRecord} (ph : j.phase = .writing) (ho : o = .written) (hw : x.written = some w) :
    s.chargeHanded x o = ((s.refreshCached j.charge.card w).endWork .charge).nextCharge := by
  unfold State.chargeHanded
  rw [hj]
  dsimp only
  rw [ph, ho]
  dsimp only
  rw [hw]

end

/-! ## The next head (R90, R92, R93) -/

theorem State.charges_nextCharge (s : State) : s.Charges s.nextCharge :=
  (s.charges_modResolver fun r => { r with job := none }).trans (State.charges_takeCharge _)

theorem State.nextCharge_sets (s : State) : s.nextCharge.resolver.sets = s.resolver.sets := State.takeCharge_sets _

theorem State.nextCharge_taken (h : t.resolver.charges = s.resolver.charges) : s.nextChargeTaken t.nextCharge := by
  unfold State.nextChargeTaken
  cases hc : s.resolver.charges with
  | nil =>
    have empty : t.nextCharge = t.modResolver fun r => { r with job := none } := State.takeCharge_empty (h.trans hc)
    rw [empty]
    exact ⟨rfl, h.trans hc⟩
  | cons c cs =>
    obtain ⟨job, charges, -⟩ := State.takeCharge_head (s := t.modResolver fun r => { r with job := none }) rfl (h.trans hc)
    exact ⟨job, charges⟩

/-! ## A charge that is dropped (R93) -/

theorem State.dropCharge_resolver (s : State) (c : Charge) :
    ((s.endWork .charge).alert (.chargesDropped false [c])).resolver = s.resolver :=
  (State.relogged_alert ..).resolver.trans (State.endWork_resolver ..)

theorem State.dropCharge_log (s : State) (c : Charge) :
    (s.dropCharge c).log = ((s.endWork .charge).alert (.chargesDropped false [c])).log :=
  (congrArg State.log (State.charges_nextCharge ((s.endWork .charge).alert (.chargesDropped false [c]))) :)

theorem State.endWork_reserveHolds (s : State) (r : Requester) : (s.endWork r).reserveHolds = s.reserveHolds := by
  rw [s.endWork_frame]
  rfl

/-- The alert of a dropped charge stands in the log under the reserve rule (R93, R172). -/
theorem State.dropCharge_alerted (c : Charge) (h : s.reserveHolds = true) :
    ∃ r ∈ (s.dropCharge c).log.records, ∃ time, r.body = .alert time (.chargesDropped false [c]) := by
  rw [State.dropCharge_log, State.alert_records ((s.endWork_reserveHolds .charge).trans h)]
  exact ⟨_, List.mem_append_right _ (List.mem_singleton_self _), _, rfl⟩

theorem State.dropCharge_unlogged (c : Charge) (h : s.reserveHolds = false) : (s.dropCharge c).log.incomplete = true := by
  have holds := (s.endWork_reserveHolds .charge).trans h
  rw [State.dropCharge_log]
  unfold State.alert State.logOffer
  rw [if_neg (by rw [holds]; decide)]

/-! ## A charge that is written (R92) -/

theorem State.refreshCached_queue (s : State) (n : CardNo) (w : CardRecord) :
    (s.refreshCached n w).resolver.charges = s.resolver.charges := by
  unfold State.refreshCached
  split
  · rfl
  · exact (s.modCached_queue n _).1

theorem State.cached_refreshCached {n : CardNo} {e : CacheEntry} (w : CardRecord) (h : s.cached n = some e) :
    (s.refreshCached n w).cached n = some (if s.resolver.charges.any fun c => c.card == n then e
      else { e with record := { e.record with usage := w.usage, stamp := w.stamp } }) := by
  unfold State.refreshCached
  split
  · exact h
  · rw [s.cached_modCached (fun x => { x with record := { x.record with usage := w.usage, stamp := w.stamp } })
      fun _ => rfl, h]
    rfl

end

/-- Settles O33: the estimate and the Ranging Unit first, then the intake with its charge, each by its own lemma; the charge in
progress by the step its transaction completes. -/
theorem countedDepositsFillAndCharge : Obligations.CountedDepositsFillAndCharge := by
  unfold Obligations.CountedDepositsFillAndCharge
  refine ⟨fun r hr => ⟨(SlotRecord.increment_bounds hr).1, (SlotRecord.increment_bounds hr).2, r.increment_floor⟩,
    fun s k x e' hc hx ha hd he => ?deposit, fun s x j o hx hr hj ho => ?charge⟩
  case deposit =>
    obtain ⟨away, run⟩ := exec_drumHome_deposit hc hx ha hd
    have raised : e' = (s.slot k).raisedE := he
    rw [raised]
    obtain ⟨fill, drum, jam, cleared, full⟩ := State.depositTurn_slot (x := x) (away := away) hc
    refine ⟨s.depositTurn k x away, run, fill, drum, jam, cleared, full, State.depositTurn_demandFollows hc,
      fun b hb hf => State.depositTurn_asked hb hc hf, fun i hi => s.depositTurn_other x away hi, fun c c' ht hc' => ?_⟩
    have after := s.depositSettled_afterTurn k x ht hc'
    refine ⟨fun hi => ⟨fun hn => State.depositTurn_goes_on hc hi after hn, fun r hn => State.depositTurn_ends hc hi after hn⟩,
      fun r hi => State.depositTurn_closes hc hi after, fun hi hh hadm => ?_⟩
    have resolver := State.depositTurn_resolver (x := x) (away := away) hc hi ht hh hadm
    exact ⟨State.depositTurn_cached resolver, State.depositTurn_offline resolver, State.depositTurn_online resolver⟩
  case charge =>
    obtain ⟨resolver, clock⟩ := s.handing_calm x o
    have job : (s.handing x o).resolver.job = some j := by rw [resolver]; exact hj
    refine ⟨(s.handing x o).chargeHanded x o, exec_transactionComplete_charge hx hr ho, fun b p r h => ?found,
      fun P b p r => ?formed, fun h => ?searches, fun q q' p ph step => ?reads, fun q e ph step hn => ?drops,
      fun w ph hw hwr => ?wrote⟩
    case found =>
      rw [State.chargeHanded_found job h, ← resolver]
      exact State.chargeGoesOn job _ _
    case formed => exact congrArg some (r.plus_eq P j.charge.count)
    case searches =>
      rw [State.chargeHanded_searches job h, ← resolver]
      exact State.chargeGoesOn job _ _
    case reads =>
      rw [State.chargeHanded_reads job ph step, ← resolver]
      exact State.chargeGoesOn job _ _
    case drops =>
      have dropped := (s.handing x o).dropCharge_resolver j.charge
      rw [resolver] at dropped
      rw [State.chargeHanded_drops job ph step hn]
      refine ⟨State.nextCharge_taken (congrArg Resolver.charges dropped),
        (State.nextCharge_sets _).trans (congrArg Resolver.sets dropped), ?_, fun hs hd => ?_⟩
      · cases hs : (s.handing x o).reserveHolds with
        | true => exact .inl (State.dropCharge_alerted j.charge hs)
        | false => exact .inr (State.dropCharge_unlogged j.charge hs)
      · exact State.dropCharge_alerted j.charge
          ((State.handing_reserveHolds (Search.step_undamaged step hd)).trans hs)
    case wrote =>
      rw [State.chargeHanded_wrote job ph hw hwr]
      have charges := (s.handing x o).refreshCached_queue j.charge.card w
      rw [resolver] at charges
      refine ⟨State.nextCharge_taken ((congrArg Resolver.charges (State.endWork_resolver ..)).trans charges),
        fun e he => ?_⟩
      have cached : (s.handing x o).cached j.charge.card = some e :=
        (State.cached_congr (congrArg Resolver.sets resolver) _).trans he
      have refreshed := State.cached_refreshCached w cached
      rw [resolver] at refreshed
      rw [← refreshed]
      exact State.cached_congr ((State.nextCharge_sets _).trans (congrArg Resolver.sets (State.endWork_resolver ..))) _

end Sys2Proof.Machine
end

section
/-! SUPPORT. Echo times, readings and blends (O29, O30; R41 to R45): the floors, the middle of three distances, and the bounds
of a truncated share. -/

namespace Sys2Proof.Machine

/-! ## Speed and distance (R41, R42) -/

/-- 331 + floor(3 × T / 5), and no temperature of the range makes it negative (R41). -/
theorem speedOfSound_eq {temp : Int} (low : -30 ≤ temp) (high : temp ≤ 60) :
    (speedOfSound temp : Int) = 331 + 3 * temp / 5 := by
  unfold speedOfSound
  omega

theorem speedOfSound_floor {temp : Int} (low : -30 ≤ temp) (high : temp ≤ 60) :
    (speedOfSound temp : Int) = 331 + ⌊(3 * temp : ℚ) / 5⌋ := by
  have cast : (3 * temp : ℚ) / 5 = ((3 * temp : Int) : ℚ) / ((5 : Nat) : ℚ) := by push_cast; rfl
  rw [cast, Rat.floor_intCast_div_natCast, speedOfSound_eq low high]
  rfl

theorem speedOfSound_bounds {temp : Int} (low : -30 ≤ temp) (high : temp ≤ 60) :
    313 ≤ speedOfSound temp ∧ speedOfSound temp ≤ 367 := by
  have speed := speedOfSound_eq low high
  omega

theorem echoDistance_floor (c t : Nat) : echoDistance c t = ⌊(t * c : ℚ) / 2000⌋₊ := by
  have cast : (t * c : ℚ) / 2000 = ((t * c : Nat) : ℚ) / ((2000 : Nat) : ℚ) := by push_cast; rfl
  rw [cast, Nat.floor_div_eq_div]
  rfl

/-- The ends of the distances that the accepted echo times reach at the speeds of the range (R36, R41, R42). -/
theorem echoDistance_bounds {c t : Nat} (hc : 313 ≤ c ∧ c ≤ 367) (ht : 900 ≤ t ∧ t ≤ 25000) :
    140 ≤ echoDistance c t ∧ echoDistance c t ≤ 4587 := by
  have low : 900 * 313 ≤ t * c := Nat.mul_le_mul ht.1 hc.1
  have high : t * c ≤ 25000 * 367 := Nat.mul_le_mul ht.2 hc.2
  unfold echoDistance
  omega

/-! ## The reading (R43) -/

/-- The largest of some distances. -/
def largest (l : List Nat) : Nat := l.foldr max 0

/-- The smallest of some distances; their sum bounds every one of them. -/
def smallest (l : List Nat) : Nat := l.foldr min l.sum

theorem largest_perm {l m : List Nat} (h : l.Perm m) : largest l = largest m := h.foldr_eq 0

theorem smallest_perm {l m : List Nat} (h : l.Perm m) : smallest l = smallest m := by
  unfold smallest
  rw [h.sum_nat, h.foldr_eq]

/-- A reading in terms that do not look at the order of the distances (R43). -/
theorem readingOf_eq (l : List Nat) : readingOf l =
    if l.length = 3 then some ⟨l.sum - largest l - smallest l, decide (smallest l + 50 < largest l)⟩
    else if l.length = 2 then some ⟨l.sum / 2, false⟩ else none := by
  match l with
  | [] | [_] => rfl
  | [a, b] => rfl
  | [a, b, c] =>
    have least : smallest [a, b, c] = min a (min b c) := by
      show min a (min b (min c (a + (b + (c + 0))))) = _
      omega
    have most : largest [a, b, c] = max a (max b c) := by
      show max a (max b (max c 0)) = _
      omega
    have total : [a, b, c].sum = a + b + c := by simp [Nat.add_assoc]
    rw [least, most, total]
    rfl
  | a :: b :: c :: d :: l => simp [readingOf]

theorem readingOf_perm {l m : List Nat} (h : l.Perm m) : readingOf l = readingOf m := by
  rw [readingOf_eq, readingOf_eq, h.length_eq, h.sum_nat, largest_perm h, smallest_perm h]

/-- Of three ordered distances the reading is the middle one (R43). -/
theorem readingOf_ordered {a b c : Nat} (hab : a ≤ b) (hbc : b ≤ c) :
    readingOf [a, b, c] = some ⟨b, decide (50 < c - a)⟩ := by
  have high : max a (max b c) = c := by omega
  have low : min a (min b c) = a := by omega
  have middle : a + b + c - c - a = b := by omega
  have apart : (a + 50 < c) = (50 < c - a) := propext (by omega)
  unfold readingOf
  simp only [high, low, middle, apart]

/-! ## The measured volume (R44) -/

section
variable {r : SlotRecord} {d d' : Nat}

theorem SlotRecord.level_le (r : SlotRecord) (d : Nat) : r.level d ≤ r.hU := Nat.min_le_right ..

theorem SlotRecord.level_anti (h : d ≤ d') : r.level d' ≤ r.level d := by
  unfold SlotRecord.level
  omega

theorem SlotRecord.measuredVolume_le (r : SlotRecord) (d : Nat) : r.measuredVolume d ≤ r.vCap :=
  Nat.div_le_of_le_mul (by
    rw [Nat.mul_comm r.hU]
    exact Nat.mul_le_mul_left _ (r.level_le d))

/-- The volume falls as the surface lies further from the sensor (R44). -/
theorem SlotRecord.measuredVolume_anti (h : d ≤ d') : r.measuredVolume d' ≤ r.measuredVolume d :=
  Nat.div_le_div_right (Nat.mul_le_mul_left _ (SlotRecord.level_anti h))

theorem SlotRecord.measuredVolume_empty (h : r.hS ≤ d) : r.measuredVolume d = 0 := by
  have level : r.level d = 0 := by
    unfold SlotRecord.level
    omega
  unfold SlotRecord.measuredVolume
  rw [level, Nat.mul_zero, Nat.zero_div]

/-- A surface at the top of the usable height reads as the whole capacity (R44). -/
theorem SlotRecord.measuredVolume_brimful (hu : 0 < r.hU) (h : d + r.hU ≤ r.hS) : r.measuredVolume d = r.vCap := by
  have level : r.level d = r.hU := by
    unfold SlotRecord.level
    omega
  unfold SlotRecord.measuredVolume
  rw [level, Nat.mul_div_cancel _ hu]

end

/-! ## The blend (R45) -/

theorem share_of_nonneg {x : Int} {w : Nat} (hx : 0 ≤ x) (hw : w ≤ 16) :
    0 ≤ Int.tdiv (x * w) 16 ∧ Int.tdiv (x * w) 16 ≤ x := by
  have low : 0 ≤ x * w := Int.mul_nonneg hx (by omega)
  have high : x * w ≤ x * 16 := Int.mul_le_mul_of_nonneg_left (by omega) hx
  rw [Int.tdiv_eq_ediv_of_nonneg low]
  omega

/-- A share w of 16 of a difference, truncated towards 0, lies between 0 and the difference (R45). -/
theorem share_between (x : Int) {w : Nat} (hw : w ≤ 16) :
    min 0 x ≤ Int.tdiv (x * w) 16 ∧ Int.tdiv (x * w) 16 ≤ max 0 x := by
  obtain hx | hx := Int.le_total 0 x
  · have share := share_of_nonneg hx hw
    omega
  · have share := share_of_nonneg (Int.neg_nonneg_of_nonpos hx) hw
    rw [Int.neg_mul, Int.neg_tdiv] at share
    omega

/-- Between E and M no clamp applies: a blend moves by the truncated share (R45). -/
theorem blendEstimate_eq {vCap e m w : Nat} (he : e ≤ vCap) (hm : m ≤ vCap) (hw : w ≤ 16) :
    (blendEstimate vCap e m w : Int) = e + Int.tdiv (((m : Int) - e) * w) 16 := by
  have between := share_between ((m : Int) - e) hw
  unfold blendEstimate
  dsimp only
  omega

theorem blendEstimate_between {vCap e m w : Nat} (he : e ≤ vCap) (hm : m ≤ vCap) (hw : w ≤ 16) :
    min e m ≤ blendEstimate vCap e m w ∧ blendEstimate vCap e m w ≤ max e m := by
  have moved := blendEstimate_eq he hm hw
  have between := share_between ((m : Int) - e) hw
  omega

/-- The weight 16 takes the measured volume whole (R45). -/
theorem blendEstimate_whole {vCap e m : Nat} (he : e ≤ vCap) (hm : m ≤ vCap) : blendEstimate vCap e m 16 = m := by
  have moved := blendEstimate_eq he hm (le_refl 16)
  rw [Nat.cast_ofNat, Int.mul_tdiv_cancel _ (by decide)] at moved
  omega

/-- Settles O29: each division is the floor of its rule, and the bounds follow at the ends of the ranges. -/
theorem echoTimesBecomeDistances : Obligations.EchoTimesBecomeDistances := by
  unfold Obligations.EchoTimesBecomeDistances
  exact ⟨fun temp low high => ⟨speedOfSound_floor low high, speedOfSound_bounds low high⟩, by decide, echoDistance_floor,
    fun c t tLow tHigh cLow cHigh => echoDistance_bounds ⟨cLow, cHigh⟩ ⟨tLow, tHigh⟩, fun _ => rfl⟩

/-- Settles O30: the reading by the sum, the largest and the smallest of the distances, the blend by its truncated share. -/
theorem readingsAreMiddlesAndBlendsStayBetween : Obligations.ReadingsAreMiddlesAndBlendsStayBetween := by
  unfold Obligations.ReadingsAreMiddlesAndBlendsStayBetween
  refine ⟨fun l m => readingOf_perm, fun a b c => readingOf_ordered, fun _ _ => rfl, fun _ => rfl, rfl,
    fun r d d' hr => ?volume, fun vCap e m w he hm hw => ?blend⟩
  case volume =>
    obtain ⟨-, -, -, ⟨usable, -⟩, -⟩ := hr
    exact ⟨r.measuredVolume_le d, SlotRecord.measuredVolume_anti, SlotRecord.measuredVolume_empty,
      SlotRecord.measuredVolume_brimful (by omega)⟩
  case blend =>
    obtain ⟨low, high⟩ := blendEstimate_between he hm hw
    exact ⟨low, high, blendEstimate_whole he hm, blendEstimate_eq he hm hw⟩

end Sys2Proof.Machine
end

section
/-! SUPPORT. FILL_SET (O27; R40, R51, R53, R55, R57, R130, R134): the value taken over, and the thresholds, the demand and the
hours-to-full that follow it. -/

namespace Sys2Proof.Machine

section
variable {s t u a : State} {j k : Slot} {v : Nat} {tag : Byte} {x : Taken}

/-! ## F and the headroom (R40) -/

theorem SlotRecord.fillOf_floor (r : SlotRecord) (e : Nat) : r.fillOf e = ⌊(1000 * e : ℚ) / (10 * r.vNom)⌋₊ := by
  have cast : (1000 * e : ℚ) / (10 * r.vNom) = ((1000 * e : Nat) : ℚ) / ((10 * r.vNom : Nat) : ℚ) := by push_cast; rfl
  rw [cast, Nat.floor_div_eq_div]
  rfl

theorem SlotRecord.vFull_floor (r : SlotRecord) : r.vFull = ⌊(10 * r.vNom * r.tFull : ℚ) / 1000⌋₊ := by
  have cast : (10 * r.vNom * r.tFull : ℚ) / 1000 = ((10 * r.vNom * r.tFull : Nat) : ℚ) / ((1000 : Nat) : ℚ) := by
    push_cast; rfl
  rw [cast, Nat.floor_div_eq_div]
  rfl

/-- The headroom is what E leaves of V_full (R40). -/
theorem SlotRecord.headroom_spec (r : SlotRecord) (e : Nat) :
    (r.vFull ≤ e → r.headroom e = 0) ∧ (e < r.vFull → r.headroom e + e = r.vFull) := by
  unfold SlotRecord.headroom
  omega

/-! ## What follows a new estimate (R51, R53, R55) -/

/-- FULL, demand and the hours-to-full have followed the estimate. -/
def State.followed (k : Slot) (s : State) : State := (s.evaluateThresholds false k).recomputeHours k

/-- Demand has been evaluated behind FULL. -/
def State.followedDemand (k : Slot) (s : State) : State :=
  (s.evaluateFull false k).evaluateDemand (!(s.slot k).bars.full && ((s.evaluateFull false k).slot k).bars.full) k

theorem State.followed_eq (s : State) (k : Slot) : s.followed k = (s.followedDemand k).recomputeHours k := rfl

theorem State.calm_followed (s : State) (k : Slot) : s.Calm (s.followed k) :=
  (((s.estimated_evaluateFull k).trans (State.estimated_evaluateDemand ..)).trans
    (State.estimated_recomputeHours (s.followedDemand k) k)).calm

theorem State.slot_followedDemand (s : State) (k j : Slot) :
    (s.followedDemand k).slot j = (s.evaluateFull false k).slot j := State.slot_congr (State.evaluateDemand_slots ..) j

/-- What the thresholds leave of the slot of a new estimate: FULL follows F, and HF the headroom (R51, R55). -/
structure SlotUnit.Followed (u v : SlotUnit) : Prop where
  fill : v.fill = { u.fill with hf := u.hours }
  full : v.bars.full = u.fullAt u.fill.f
  has : ∀ b, b ≠ .full → b ≠ .log → b ≠ .lift → v.bars.has b = u.bars.has b
  record : v.record = u.record
  lines : v.lines = u.lines

theorem State.slot_followed (hc : (s.slot k).configured = true) : (s.slot k).Followed ((s.followed k).slot k) := by
  have ended := (s.ended_evaluateFull k).slot k
  rw [State.slot_changeBar_same] at ended
  have fill := ended.fill
  have hours : ((s.evaluateFull false k).slot k).hours = (s.slot k).hours := by
    unfold SlotUnit.hours
    rw [fill, SlotUnit.withBar_fill]
  rw [State.followed_eq, State.slot_recomputeHours, State.slot_followedDemand, hours, fill, SlotUnit.withBar_fill]
  refine ⟨rfl, ?_, fun b hf hl hi => ?_, ?_, ?_⟩
  · have full := ended.has .full (by decide) (by decide)
    rw [SlotUnit.withBar_bars _ _ _ hc, BarSet.has_put_same] at full
    exact full
  · exact (ended.has b hl hi).trans (SlotUnit.withBar_has_other _ _ _ hf)
  · exact ended.record.trans (SlotUnit.withBar_record ..)
  · exact ended.lines.trans (SlotUnit.withBar_lines ..)

theorem State.locksHeld_evaluateFull (s : State) (k : Slot) : s.LocksHeld (s.evaluateFull false k) k := by
  unfold State.evaluateFull State.setFull State.setBar State.barOnSession
  dsimp only
  split
  · rw [if_neg (by decide)]
    split
    · split
      · exact (s.locksHeld_changeBar k .full true).trans (State.locksHeld_homeTests ..)
      · exact s.locksHeld_changeBar k .full true
    · exact .refl s k
  · split
    · exact s.locksHeld_changeBar k .full false
    · exact .refl s k

/-- The slots beside the one whose estimate is new. -/
theorem State.slot_followed_other (s : State) (h : j ≠ k) :
    ((s.followed k).slot j).fill = (s.slot j).fill ∧ ((s.followed k).slot j).record = (s.slot j).record
      ∧ ((s.followed k).slot j).lines = (s.slot j).lines ∧ ((s.followed k).slot j).locks = (s.slot j).locks := by
  have ended := (s.ended_evaluateFull k).slot j
  rw [State.slot_changeBar_other _ _ _ h] at ended
  rw [State.followed_eq, State.slot_recomputeHours_other _ h, State.slot_followedDemand]
  exact ⟨ended.fill, ended.record, ended.lines, (s.locksHeld_evaluateFull k).locks j h⟩

/-- The demand queue follows an estimate that has become new between s and a, whatever comes behind in t (R53, R55). -/
theorem State.evaluated_followed (demand : a.demand = s.demand) (run : a.run = s.run)
    (before : (s.port .office).outbox <+: (a.port .office).outbox) (hf : (a.slot k).fill.hf = (s.slot k).fill.hf)
    (full : (a.slot k).bars.full = (s.slot k).bars.full)
    (after : ((a.followed k).port .office).outbox <+: (t.port .office).outbox) (queue : t.demand = (a.followed k).demand)
    (stamp : t.stamp = a.stamp) (slot : t.slot k = (a.followed k).slot k) :
    s.Evaluated (a.evaluateFull false k) (a.followedDemand k) t k := by
  have estimated := a.estimated_evaluateFull k
  have ended := (a.ended_evaluateFull k).slot k
  rw [State.slot_changeBar_same] at ended
  have filled : ((a.evaluateFull false k).slot k).fill = (a.slot k).fill := ended.fill.trans (SlotUnit.withBar_fill ..)
  have hours := (a.followedDemand k).slot_recomputeHours k
  rw [State.slot_followedDemand, ← State.followed_eq, ← slot] at hours
  exact {
    demand := (a.ended_evaluateFull k).demand.trans ((a.barred_changeBar k .full _).demand.trans demand)
    run := estimated.calm.run.trans run
    before := before.trans (estimated.grown.outbox .office)
    hf := by rw [filled, hf]
    evaluated := by rw [← full]; rfl
    after := after
    queue := queue
    stamp := stamp.trans estimated.calm.stamp.symm
    fill := by rw [hours]
    full := by rw [hours]
    record := by rw [hours] }

/-! ## The value taken over (R57) -/

/-- E is the value, at most V_cap; F and the headroom follow, and UNMEASURED is cleared (R40, R57). -/
def State.overwritten (k : Slot) (v : Nat) (s : State) : State :=
  ((s.modFill k fun x => { x with e := min v (s.slot k).record.vCap }).changeBar k .unmeasured false).recompute k

theorem State.fillSet_eq (s : State) (k : Slot) (v : Nat) : s.fillSet k v = (s.overwritten k v).followed k := rfl

/-- A slot with a value taken over as its estimate, which clears UNMEASURED (R40, R57). -/
def SlotUnit.overwritten (v : Nat) (u : SlotUnit) : SlotUnit :=
  { u.withBar .unmeasured false with fill := { u.fill with
      e := min v u.record.vCap, f := u.record.fillOf (min v u.record.vCap)
      h := u.record.headroom (min v u.record.vCap) } }

theorem State.slot_overwritten (s : State) (k : Slot) (v : Nat) :
    (s.overwritten k v).slot k = (s.slot k).overwritten v := by
  have atK : (s.modFill k fun x => { x with e := min v (s.slot k).record.vCap }).slot k
      = { s.slot k with fill := { (s.slot k).fill with e := min v (s.slot k).record.vCap } } := State.slot_modSlot_same ..
  unfold State.overwritten
  rw [State.slot_recompute, State.slot_changeBar_same, atK, SlotUnit.withBar_record, SlotUnit.withBar_fill]
  unfold SlotUnit.overwritten SlotUnit.withBar
  dsimp only
  split <;> rfl

theorem State.slot_overwritten_other (s : State) (v : Nat) (h : j ≠ k) : (s.overwritten k v).slot j = s.slot j :=
  (State.slot_recompute_other _ h).trans ((State.slot_changeBar_other _ _ _ h).trans (State.slot_modSlot_other _ _ h))

theorem State.estimated_overwritten (s : State) (k : Slot) (v : Nat) : s.Estimated (s.overwritten k v) k :=
  ((s.estimated_modFill k _).trans (State.estimated_changeBar ..)).trans (State.estimated_recompute ..)

theorem State.overwritten_demand (s : State) (k : Slot) (v : Nat) : (s.overwritten k v).demand = s.demand :=
  (State.barred_changeBar (s.modFill k _) k .unmeasured false).demand

theorem SlotUnit.overwritten_bars (hc : (s.slot k).configured = true) :
    ((s.slot k).overwritten v).bars = (s.slot k).bars.put false .unmeasured := SlotUnit.withBar_bars _ _ _ hc

/-- What FILL_SET leaves at its slot (R40, R51, R55, R57). -/
theorem State.slot_fillSet (hc : (s.slot k).configured = true) :
    ((s.fillSet k v).slot k).fill = { (s.slot k).fill with
        e := min v (s.slot k).record.vCap
        f := (s.slot k).record.fillOf (min v (s.slot k).record.vCap)
        h := (s.slot k).record.headroom (min v (s.slot k).record.vCap)
        hf := hoursToFull ((s.slot k).record.headroom (min v (s.slot k).record.vCap)) (s.slot k).fill.fr }
      ∧ ((s.fillSet k v).slot k).bars.unmeasured = false
      ∧ ((s.fillSet k v).slot k).bars.full = (s.slot k).fullAt ((s.fillSet k v).slot k).fill.f
      ∧ ((s.fillSet k v).slot k).record = (s.slot k).record ∧ ((s.fillSet k v).slot k).lines = (s.slot k).lines := by
  have followed := State.slot_followed (s := s.overwritten k v) (k := k)
    (by rw [State.slot_overwritten]; exact (SlotUnit.withBar_configured ..).trans hc)
  have bars := SlotUnit.overwritten_bars (v := v) hc
  have record : ((s.slot k).overwritten v).record = (s.slot k).record := SlotUnit.withBar_record ..
  rw [← State.fillSet_eq, State.slot_overwritten] at followed
  refine ⟨followed.fill, ?_, ?_, followed.record.trans record, followed.lines.trans (SlotUnit.withBar_lines ..)⟩
  · have unmeasured := followed.has .unmeasured (by decide) (by decide) (by decide)
    rw [bars, BarSet.has_put_same] at unmeasured
    exact unmeasured
  · rw [followed.full, followed.fill]
    unfold SlotUnit.fullAt
    rw [record, bars]
    rfl

theorem State.slot_fillSet_other (s : State) (v : Nat) (h : j ≠ k) :
    ((s.fillSet k v).slot j).fill = (s.slot j).fill ∧ ((s.fillSet k v).slot j).record = (s.slot j).record
      ∧ ((s.fillSet k v).slot j).lines = (s.slot j).lines ∧ ((s.fillSet k v).slot j).locks = (s.slot j).locks := by
  have followed := (s.overwritten k v).slot_followed_other h
  rw [State.slot_overwritten_other s v h] at followed
  exact followed

/-- The thresholds of FULL, read off its evaluation (R51). -/
theorem SlotUnit.fullAt_iff (u : SlotUnit) (f : Nat) :
    u.fullAt f = true ↔ u.record.tFull ≤ f ∨ u.bars.full = true ∧ u.record.tReopen ≤ f := by
  simp [SlotUnit.fullAt]

/-! ## The request (R2, R3, R57) -/

theorem exec_fillSet {pl : List Byte} (hl : pl.length = 5) (h : s.offers .office (frameOf 0x0B tag pl)) :
    exec (.fillSet .office) s = .next ((s.popRequest .office (frameOf 0x0B tag pl)).fillSetRequest
      { port := .office, kind := BitVec.ofNat 8 0x0B, tag := tag, payload := pl }) :=
  congrArg _ (State.takeKind_offers _ h (by omega) rfl (by decide) (by decide) rfl (by simp [hl, RequestKind.admits]))

theorem State.fillSetRequest_badField (h : s.configuredSlot x = none) : s.fillSetRequest x = s.refuse x .badField := by
  unfold State.fillSetRequest
  rw [h]

theorem State.fillSetRequest_sets (h : s.configuredSlot x = some k) (hv : u32At x.payload 1 = v) :
    s.fillSetRequest x = (s.fillSet k v).answer x .ok
      (encSlot k ++ u16 ((s.fillSet k v).slot k).fill.e ++ u16 ((s.fillSet k v).slot k).fill.f) := by
  unfold State.fillSetRequest
  rw [h, hv]

/-- The value of a FILL_SET reads back (R187). -/
theorem u32At_encSlot_u32 (k : Slot) (h : v < 4294967296) : u32At (encSlot k ++ u32 v) 1 = v := by
  simp [encSlot, u8, u32, u32At, u16At, byteAt]
  omega

theorem exec_fillSet_sets (h : s.offers .office (frameOf 0x0B tag (encSlot k ++ u32 v))) (hv : v < 4294967296)
    (hc : (s.slot k).configured = true) :
    let u := (s.popRequest .office (frameOf 0x0B tag (encSlot k ++ u32 v))).fillSet k v
    exec (.fillSet .office) s = .next (u.answer
      { port := .office, kind := BitVec.ofNat 8 0x0B, tag := tag, payload := encSlot k ++ u32 v } .ok
      (encSlot k ++ u16 (u.slot k).fill.e ++ u16 (u.slot k).fill.f)) := by
  have named : ({ port := .office, kind := BitVec.ofNat 8 0x0B, tag := tag, payload := encSlot k ++ u32 v } : Taken).slot
      = some k := Taken.slot_encSlot rfl
  exact (exec_fillSet rfl h).trans (congrArg _ (State.fillSetRequest_sets
    (State.configuredSlot_of_slot named (by simpa using hc)) (u32At_encSlot_u32 k hv)))

/-- The demand queue follows the value (R53, R55, R57). -/
theorem State.fillSet_demandFollows {f q : List Byte} {st : Status} (hc : (s.slot k).configured = true)
    (hu : (s.popRequest .office f).fillSet k v = u) : s.demandFollows (u.answer x st q) k := by
  have estimated := (s.popRequest .office f).estimated_overwritten k v
  have demand := (s.popRequest .office f).overwritten_demand k v
  have slot := (s.popRequest .office f).slot_overwritten k v
  have before := estimated.grown.outbox .office
  have run := estimated.calm.run
  have popped := congrArg State.run (s.popRequest_of_ne_crew (p := .office) (by decide) f)
  rw [State.slot_popRequest] at slot
  rw [State.popRequest_outbox] at before
  rw [State.popRequest_demand] at demand
  rw [State.fillSet_eq] at hu
  generalize (s.popRequest .office f).overwritten k v = a at hu slot before demand run
  subst hu
  refine State.Evaluated.demandFollows (State.evaluated_followed (a := a) demand (run.trans popped) before ?_ ?_
    (State.answer_outbox _ x .office st q) (State.answer_demand ..) ?_ (State.slot_congr (State.answer_slots ..) k))
  · rw [slot]
    rfl
  · rw [slot, SlotUnit.overwritten_bars hc]
    rfl
  · unfold State.stamp
    rw [State.answer_clock, (a.calm_followed k).clock]

end

/-- Settles O27: the value is taken over, then the thresholds, demand and hours follow, and the answer stands behind them. -/
theorem fillSetSetsTheEstimate : Obligations.FillSetSetsTheEstimate := by
  unfold Obligations.FillSetSetsTheEstimate
  refine ⟨fun r e => ⟨rfl, r.fillOf_floor e, fun full h => ?headroom⟩,
    fun s tag => ⟨fun k v hv ho hc => ?sets, fun pl hl hn ho => ?refused⟩⟩
  case headroom =>
    rw [h, ← r.vFull_floor]
    exact r.headroom_spec e
  case sets =>
    have slots := s.slot_popRequest .office (frameOf 0x0B tag (encSlot k ++ u32 v))
    have noticed : (s.popRequest .office (frameOf 0x0B tag (encSlot k ++ u32 v))).Noticed
      ((s.popRequest .office (frameOf 0x0B tag (encSlot k ++ u32 v))).fillSet k v) :=
      Kept.fillSet k v (State.Noticed.refl _).holds
    have atK := State.slot_fillSet (s := s.popRequest .office (frameOf 0x0B tag (encSlot k ++ u32 v))) (k := k) (v := v)
      (by rw [slots]; exact hc)
    rw [slots] at atK
    have other (j : Slot) (hj : j ≠ k) :=
      (s.popRequest .office (frameOf 0x0B tag (encSlot k ++ u32 v))).slot_fillSet_other v hj
    simp only [slots] at other
    have run := exec_fillSet_sets ho hv hc
    generalize hu : (s.popRequest .office (frameOf 0x0B tag (encSlot k ++ u32 v))).fillSet k v = u
      at run noticed atK other
    obtain ⟨fill, unmeasured, full, record, lines⟩ := atK
    refine ⟨_, run, State.answeredLast_of_noticed _ _ noticed, fill, unmeasured, fun high => ?_, fun low below => ?_, full,
      State.fillSet_demandFollows hc hu, record, lines, other⟩
    · exact full.trans ((SlotUnit.fullAt_iff ..).mpr (.inl high))
    · refine full.trans (Bool.eq_false_iff.mpr fun stands => ?_)
      have reached := (SlotUnit.fullAt_iff ..).mp stands
      have low : (u.slot k).fill.f < (s.slot k).record.tReopen := low
      have below : (u.slot k).fill.f < (s.slot k).record.tFull := below
      omega
  case refused =>
    rw [exec_fillSet hl ho, State.fillSetRequest_badField (State.configuredSlot_none fun k hk => by simpa using hn k hk)]
    exact congrArg _ (State.refuse_popRequest ..)

end Sys2Proof.Machine
end

section
/-! SUPPORT. The running time up to its next boundary (O26; R118, R124): the clock as it reaches a multiple of a period or
wraps, and how many boundaries that reaches. -/

namespace Sys2Proof.Machine

/-! ## The next boundary -/

/-- The time at which the running time t next reaches a multiple of a period, or wraps (R118, R124). -/
def nextBoundary (period t : Nat) : Nat := min ((t / period + 1) * period) 4294967296

section
variable {p t b : Nat} {c : Clock}

theorem nextBoundary_bounds (hp : 0 < p) (ht : t < 4294967296) :
    t < nextBoundary p t ∧ nextBoundary p t ≤ t + p ∧ nextBoundary p t ≤ 4294967296 := by
  have below : t < (t / p + 1) * p := by
    rw [Nat.mul_comm]
    exact Nat.lt_mul_div_succ t hp
  have above : (t / p + 1) * p ≤ t + p := by
    rw [Nat.add_mul, Nat.one_mul]
    exact Nat.add_le_add_right (Nat.div_mul_le_self t p) p
  unfold nextBoundary
  omega

/-- A wrap reaches 0, which is a multiple of every period (R124). -/
theorem nextBoundary_mod (p t : Nat) : nextBoundary p t % 4294967296 % p = 0 := by
  unfold nextBoundary
  obtain h | h := Nat.lt_or_ge ((t / p + 1) * p) 4294967296
  · rw [Nat.min_eq_left h.le, Nat.mod_eq_of_lt h, Nat.mul_mod_left]
  · rw [Nat.min_eq_right h, Nat.mod_self, Nat.zero_mod]

/-- On the way to the next boundary just that one is reached (R124). -/
theorem boundaries_nextBoundary (hp : 0 < p) (ht : t < 4294967296) :
    boundaries p (nextBoundary p t) = boundaries p t + 1 := by
  have before : boundaries p t = t / p + 1 := by
    unfold boundaries
    rw [Nat.div_eq_of_lt ht, Nat.mod_eq_of_lt ht, Nat.zero_mul, Nat.zero_add]
  rw [before]
  unfold nextBoundary boundaries
  obtain h | h := Nat.lt_or_ge ((t / p + 1) * p) 4294967296
  · rw [Nat.min_eq_left h.le, Nat.div_eq_of_lt h, Nat.mod_eq_of_lt h, Nat.mul_div_cancel _ hp, Nat.zero_mul, Nat.zero_add]
  · have last : 4294967295 / p = t / p :=
      Nat.div_eq_of_lt_le ((Nat.div_mul_le_self t p).trans (by omega)) (by omega)
    rw [Nat.min_eq_right h, last]
    simp

/-! ## The clock as it gets there -/

/-- The clock advances to the full second b, a wrap clearing the valid flag (R118, R124). -/
theorem Clock.advance_to (hc : c.phaseMs < 1000) (hb : c.time.toNat < b) :
    c.advance (1000 * (b - c.time.toNat) - c.phaseMs) = { c with
      time := BitVec.ofNat 32 b
      valid := c.valid && decide (b < 4294967296)
      phaseMs := 0
      hoursOwed := c.hoursOwed + (boundaries 3600 b - boundaries 3600 c.time.toNat)
      daysOwed := c.daysOwed + (boundaries 86400 b - boundaries 86400 c.time.toNat) } := by
  have total : c.phaseMs + (1000 * (b - c.time.toNat) - c.phaseMs) = 1000 * (b - c.time.toNat) := by omega
  have reached : c.time.toNat + 1000 * (b - c.time.toNat) / 1000 = b := by omega
  unfold Clock.advance
  dsimp only
  rw [total, reached, Nat.mul_mod_right]

theorem Clock.msToBoundary_eq (p : Nat) (c : Clock) :
    c.msToBoundary p = 1000 * (nextBoundary p c.time.toNat - c.time.toNat) - c.phaseMs := rfl

/-- The way to the next boundary takes some time, and at most a period (R124). -/
theorem Clock.msToBoundary_bounds (hp : 0 < p) (hc : c.phaseMs < 1000) :
    0 < c.msToBoundary p ∧ c.msToBoundary p ≤ 1000 * p := by
  have bounds := nextBoundary_bounds hp c.time.isLt
  rw [Clock.msToBoundary_eq]
  omega

/-- At the next boundary the time is a multiple of the period at the beginning of its second (R118, R124). -/
theorem Clock.advance_msToBoundary (hp : 0 < p) (hc : c.phaseMs < 1000) :
    (c.advance (c.msToBoundary p)).time.toNat % p = 0 ∧ (c.advance (c.msToBoundary p)).phaseMs = 0 := by
  rw [Clock.msToBoundary_eq, Clock.advance_to hc (nextBoundary_bounds hp c.time.isLt).1, BitVec.toNat_ofNat]
  exact ⟨nextBoundary_mod p _, rfl⟩

theorem Clock.hoursOwed_advance (hc : c.phaseMs < 1000) :
    (c.advance (c.msToBoundary 3600)).hoursOwed = c.hoursOwed + 1 := by
  rw [Clock.msToBoundary_eq, Clock.advance_to hc (nextBoundary_bounds (by decide) c.time.isLt).1,
    boundaries_nextBoundary (by decide) c.time.isLt]
  simp

theorem Clock.daysOwed_advance (hc : c.phaseMs < 1000) :
    (c.advance (c.msToBoundary 86400)).daysOwed = c.daysOwed + 1 := by
  rw [Clock.msToBoundary_eq, Clock.advance_to hc (nextBoundary_bounds (by decide) c.time.isLt).1,
    boundaries_nextBoundary (by decide) c.time.isLt]
  simp

end

/-! ## The events that reach a boundary (R54, R118, R122, R124) -/

section
variable {s : State}

/-- The event of an hour boundary has been taken (R124). -/
def State.hourTaken (s : State) : State := { s with clock := { s.clock with hoursOwed := s.clock.hoursOwed - 1 } }

/-- The event of a day boundary has been taken (R124). -/
def State.dayTaken (s : State) : State := { s with clock := { s.clock with daysOwed := s.clock.daysOwed - 1 } }

@[simp] theorem State.hourTaken_now (s : State) : s.hourTaken.now = s.now := rfl
@[simp] theorem State.hourTaken_time (s : State) : s.hourTaken.clock.time = s.clock.time := rfl
@[simp] theorem State.hourTaken_phaseMs (s : State) : s.hourTaken.clock.phaseMs = s.clock.phaseMs := rfl
@[simp] theorem State.hourTaken_hoursOwed (s : State) : s.hourTaken.clock.hoursOwed = s.clock.hoursOwed - 1 := rfl
@[simp] theorem State.dayTaken_time (s : State) : s.dayTaken.clock.time = s.clock.time := rfl
@[simp] theorem State.dayTaken_valid (s : State) : s.dayTaken.clock.valid = s.clock.valid := rfl
@[simp] theorem State.dayTaken_phaseMs (s : State) : s.dayTaken.clock.phaseMs = s.clock.phaseMs := rfl
@[simp] theorem State.dayTaken_daysOwed (s : State) : s.dayTaken.clock.daysOwed = s.clock.daysOwed - 1 := rfl

theorem State.reachHour_eq (s : State) : s.reachHour
    = (if s.clock.hoursOwed = 0 then s.elapse (s.clock.msToBoundary 3600) else s).hourTaken := rfl

theorem State.reachDay_eq (s : State) : s.reachDay
    = (if s.clock.daysOwed = 0 then s.elapse (s.clock.msToBoundary 86400) else s).dayTaken := rfl

theorem State.reachHour_owed (h : s.clock.hoursOwed ≠ 0) : s.reachHour = s.hourTaken := by
  rw [State.reachHour_eq, if_neg h]

theorem State.reachDay_owed (h : s.clock.daysOwed ≠ 0) : s.reachDay = s.dayTaken := by
  rw [State.reachDay_eq, if_neg h]

/-- Where no hour is owed its event, the running time reaches the next one, whose event is taken (R124). -/
theorem State.reachHour_next (h : s.clock.hoursOwed = 0) (hc : s.clock.phaseMs < 1000) :
    s.reachHour.clock.time.toNat % 3600 = 0 ∧ s.reachHour.clock.phaseMs = 0 ∧ s.reachHour.clock.hoursOwed = 0
      ∧ s.now < s.reachHour.now ∧ s.reachHour.now ≤ s.now + 3600000 := by
  obtain ⟨time, phase⟩ := Clock.advance_msToBoundary (p := 3600) (by decide) hc
  have bounds := Clock.msToBoundary_bounds (p := 3600) (by decide) hc
  have owed := Clock.hoursOwed_advance hc
  rw [State.reachHour_eq, if_pos h, State.hourTaken_time, State.hourTaken_phaseMs, State.hourTaken_hoursOwed,
    State.hourTaken_now, State.elapse_clock, State.elapse_now, owed, h]
  exact ⟨time, phase, rfl, by omega, by omega⟩

/-- Where no day is owed its event, the running time reaches the next one, whose event is taken (R124). -/
theorem State.reachDay_next (h : s.clock.daysOwed = 0) (hc : s.clock.phaseMs < 1000) :
    s.reachDay.clock.time.toNat % 86400 = 0 ∧ s.reachDay.clock.phaseMs = 0 ∧ s.reachDay.clock.daysOwed = 0 := by
  obtain ⟨time, phase⟩ := Clock.advance_msToBoundary (p := 86400) (by decide) hc
  have owed := Clock.daysOwed_advance hc
  rw [State.reachDay_eq, if_pos h, State.dayTaken_time, State.dayTaken_phaseMs, State.dayTaken_daysOwed, State.elapse_clock,
    owed, h]
  exact ⟨time, phase, rfl⟩

/-- With main supply a day event recomputes the period behind its boundary (R118, R122). -/
theorem exec_dayEvent (h : s.run ≠ .off) : exec .dayEvent s = .next (s.reachDay.recomputePeriod .day) :=
  congrArg Host.Outcome.next (if_neg h)

/-- A day event leaves the clock as the running time has set it, but for the period number (R122). -/
theorem State.dayEvent_clock (s : State) : ∃ n, s.dayEvent.clock = { s.reachDay.clock with period := n } := by
  unfold State.dayEvent
  split
  · exact ⟨_, rfl⟩
  · exact ⟨_, (congrArg State.clock (State.recomputePeriod_frame (s := s.reachDay) rfl rfl .day) :)⟩

/-- A day event of an owed boundary recomputes the period (R122). -/
theorem exec_dayEvent_owed (hr : s.run ≠ .off) (hd : s.clock.daysOwed ≠ 0) : exec .dayEvent s
    = .next (s.dayTaken.recomputePeriod .day) := by
  rw [exec_dayEvent hr, State.reachDay_owed hd]

/-- The wrap takes the running time to 0 and clears the valid flag (R118). -/
theorem State.clockWrap_clock (hc : s.clock.phaseMs < 1000) : s.clockWrap.clock.time = 0 ∧ s.clockWrap.clock.valid = false
    ∧ s.clockWrap.clock.phaseMs = 0 ∧ s.clockWrap.clock.period = s.clock.period := by
  have wrapped := Clock.advance_to hc s.clock.time.isLt
  have clock : s.clockWrap.clock = s.clock.advance (1000 * (4294967296 - s.clock.time.toNat) - s.clock.phaseMs) := rfl
  rw [clock, wrapped]
  exact ⟨rfl, Bool.and_false _, rfl, rfl⟩

end

end Sys2Proof.Machine
end

section
/-! SUPPORT. The rates of the hour event (O26; R54, R55): what it leaves of each slot and hands to its demand entry. -/

namespace Sys2Proof.Machine

/-! ## The rate and the hours-to-full (R54, R55) -/

/-- A quarter of the way from FR to the deposits of the hour stays above 0 (R54). -/
theorem nextRate_eq (fr a : Nat) : (nextRate fr a : Int) = fr + Int.tdiv ((a : Int) - fr) 4 := by
  have split := Int.mul_tdiv_add_tmod ((a : Int) - fr) 4
  have rest := Int.tmod_lt_of_pos ((a : Int) - fr) (b := 4) (by omega)
  unfold nextRate
  omega

theorem hoursToFull_floor (h fr : Nat) :
    hoursToFull h fr = if fr = 0 then 255 else min ⌊(h : ℚ) / fr⌋₊ 255 := by
  rw [Nat.floor_div_eq_div]
  rfl

section
variable {s t u : State} {j k : Slot}

/-! ## One slot (R54, R55) -/

/-- A slot after an hour event; an UNCONFIGURED one stays (R54, R55). -/
def SlotUnit.rated (u : SlotUnit) : SlotUnit :=
  if u.configured = true then { u with fill := { u.fill with
    fr := nextRate u.fill.fr u.fill.a, a := 0, hf := hoursToFull u.fill.h (nextRate u.fill.fr u.fill.a) } }
  else u

/-- The demand entry of a slot after an hour event: a changed HF has been handed over (R55, R129). -/
def SlotUnit.handed (u : SlotUnit) (e : DemandEntry) : DemandEntry :=
  { e with hf := if u.rated.fill.hf = u.fill.hf then e.hf else u.rated.fill.hf }

/-- What the state holds for a slot: its unit and its demand entry. -/
def State.held (s : State) (k : Slot) : SlotUnit × Option DemandEntry := (s.slot k, s.demandOf k)

theorem SlotUnit.rated_of_unconfigured {u : SlotUnit} (h : u.configured = false) : u.rated = u := by
  unfold SlotUnit.rated
  rw [h]
  rfl

theorem State.slot_rateUpdate (s : State) (k j : Slot) :
    (s.rateUpdate k).slot j = if j = k then (s.slot j).rated else s.slot j := by
  unfold State.rateUpdate SlotUnit.rated
  split
  · next hc =>
    split
    · next hj =>
      subst hj
      rw [State.slot_recomputeHours, State.modFill, State.slot_modSlot_same, if_pos hc]
      rfl
    · next hj => rw [State.slot_recomputeHours_other _ hj, State.modFill, State.slot_modSlot_other _ _ hj]
  · next hc =>
    split
    · next hj => subst hj; rw [if_neg hc]
    · rfl

theorem State.demandOf_rateUpdate (s : State) (k j : Slot) :
    (s.rateUpdate k).demandOf j = if j = k then (s.demandOf j).map (s.slot j).handed else s.demandOf j := by
  unfold State.rateUpdate
  split
  · next hc =>
    rw [State.recomputeHours_demandOf, State.modFill, State.slot_modSlot_same]
    split
    · next hj =>
      subst hj
      unfold SlotUnit.handed SlotUnit.rated
      rw [if_pos hc]
      rfl
    · rfl
  · next hc =>
    split
    · next hj =>
      subst hj
      unfold SlotUnit.handed
      simp [SlotUnit.rated_of_unconfigured (Bool.eq_false_iff.mpr hc)]
    · rfl

/-- A change of the slots and of the demand queue that brings no slot into the queue. -/
structure State.Rerated (s t : State) : Prop where
  frame : t = { s with slots := t.slots, demand := t.demand }
  queue : t.demand.map DemandEntry.slot ⊆ s.demand.map DemandEntry.slot

theorem State.Rerated.refl (s : State) : s.Rerated s := ⟨rfl, fun _ h => h⟩

theorem State.Rerated.trans (h : s.Rerated t) (h' : t.Rerated u) : s.Rerated u :=
  ⟨by rw [h'.frame, h.frame], fun _ hj => h.queue (h'.queue hj)⟩

theorem State.demandHf_queue (s : State) (k : Slot) (n : Nat) :
    (s.demandHf k n).demand.map DemandEntry.slot ⊆ s.demand.map DemandEntry.slot := by
  unfold State.demandHf
  split
  · exact fun _ h => h
  · next e he =>
    have stood : e ∈ s.demand := List.mem_of_find?_eq_some he
    intro j hj
    obtain ⟨x, hx, rfl⟩ := List.mem_map.mp hj
    rw [demandInsert_eq, (List.perm_orderedInsert _ _ _).mem_iff, List.mem_cons] at hx
    obtain rfl | hx := hx
    · exact List.mem_map.mpr ⟨e, stood, rfl⟩
    · exact List.mem_map_of_mem (List.mem_of_mem_filter hx)

theorem State.rerated_recomputeHours (s : State) (k : Slot) : s.Rerated (s.recomputeHours k) := by
  refine ⟨by rw [s.recomputeHours_frame k]; rfl, ?_⟩
  unfold State.recomputeHours
  dsimp only
  split
  · exact fun _ h => h
  · exact State.demandHf_queue ..

theorem State.rerated_rateUpdate (s : State) (k : Slot) : s.Rerated (s.rateUpdate k) := by
  unfold State.rateUpdate
  split
  · exact State.Rerated.trans (t := s.modFill k _) ⟨rfl, fun _ h => h⟩ (State.rerated_recomputeHours ..)
  · exact .refl s

/-! ## All slots in turn (R54) -/

theorem State.held_rateUpdate_other (s : State) (h : j ≠ k) : (s.rateUpdate k).held j = s.held j := by
  unfold State.held
  rw [State.slot_rateUpdate, State.demandOf_rateUpdate, if_neg h, if_neg h]

theorem State.held_rates_other {l : List Slot} (h : j ∉ l) (s : State) :
    (l.foldl (fun t k => t.rateUpdate k) s).held j = s.held j := by
  induction l generalizing s with
  | nil => rfl
  | cons k l ih =>
    rw [List.mem_cons, not_or] at h
    rw [List.foldl_cons, ih h.2, State.held_rateUpdate_other s h.1]

theorem State.rerated_rates (l : List Slot) (s : State) : s.Rerated (l.foldl (fun t k => t.rateUpdate k) s) := by
  induction l generalizing s with
  | nil => exact .refl s
  | cons k l ih => exact (s.rerated_rateUpdate k).trans (ih _)

/-- What the rates of all slots leave (R54, R55, R129). -/
structure State.HourRated (s t : State) : Prop extends s.Rerated t where
  held : ∀ k, t.held k = ((s.slot k).rated, (s.demandOf k).map (s.slot k).handed)
  ordered : s.demandOrdered → t.demandOrdered

/-- Each slot has its turn once, and no other turn reaches it. -/
theorem State.held_eachSlot (s : State) (k : Slot) :
    (s.eachSlot State.rateUpdate).held k = ((s.slot k).rated, (s.demandOf k).map (s.slot k).handed) := by
  obtain ⟨l, l', order⟩ := List.append_of_mem (show k ∈ allSlots by fin_cases k <;> decide)
  have nodup : (l ++ k :: l').Nodup := order ▸ (by decide : allSlots.Nodup)
  obtain ⟨-, rest, apart⟩ := List.nodup_append.mp nodup
  have before : k ∉ l := fun h => apart k h k List.mem_cons_self rfl
  have turn := State.held_rates_other before s
  unfold State.eachSlot
  rw [order, List.foldl_append, List.foldl_cons, State.held_rates_other (List.nodup_cons.mp rest).1]
  unfold State.held at turn ⊢
  obtain ⟨slot, entry⟩ := Prod.mk.inj turn
  rw [State.slot_rateUpdate, State.demandOf_rateUpdate, if_pos rfl, if_pos rfl, slot, entry]

theorem State.hourRated_eachSlot (s : State) : s.HourRated (s.eachSlot State.rateUpdate) where
  toRerated := s.rerated_rates allSlots
  held := s.held_eachSlot
  ordered h :=
    have kept : (Kept.ordered s).holds (s.eachSlot State.rateUpdate) :=
      Kept.eachSlot (fun k _ ht => Kept.rateUpdate k ht) ⟨id, id, id, id, id⟩
    kept.demand h

theorem State.HourRated.slot (h : s.HourRated t) (k : Slot) : t.slot k = (s.slot k).rated := (Prod.mk.inj (h.held k)).1

theorem State.HourRated.demandOf (h : s.HourRated t) (k : Slot) :
    t.demandOf k = (s.demandOf k).map (s.slot k).handed := (Prod.mk.inj (h.held k)).2

theorem State.Rerated.run (h : s.Rerated t) : t.run = s.run := (congrArg State.run h.frame :)
theorem State.Rerated.ports (h : s.Rerated t) : t.ports = s.ports := (congrArg State.ports h.frame :)

end

end Sys2Proof.Machine
end

section
/-! SUPPORT. The REPEAT notices of the hour event (O26; R129, R134, R180): what each leaves, the port OFFICE that takes them in
queue order, and the flags they set. -/

namespace Sys2Proof.Machine

section
variable {s t u w : State} {j k : Slot} {e x : DemandEntry} {n : RaiseKind}

/-! ## What announcements leave (R134) -/

/-- An entry but for its announced flag. -/
def DemandEntry.muted (e : DemandEntry) : DemandEntry := { e with announced := false }

/-- What announcements leave: the queue but for its flags, and every port but OFFICE. -/
structure State.Announced (s t : State) : Prop where
  frame : t = { s with ports := t.ports, demand := t.demand }
  queue : t.demand.map DemandEntry.muted = s.demand.map DemandEntry.muted
  others : ∀ p, p ≠ .office → t.port p = s.port p

theorem State.Announced.refl (s : State) : s.Announced s := ⟨rfl, rfl, fun _ _ => rfl⟩

theorem State.Announced.trans (h : s.Announced t) (h' : t.Announced u) : s.Announced u :=
  ⟨by rw [h'.frame, h.frame], h'.queue.trans h.queue, fun p hp => (h'.others p hp).trans (h.others p hp)⟩

theorem State.announced_announceDemand (s : State) (k : Slot) (n : RaiseKind) : s.Announced (s.announceDemand k n) := by
  cases he : s.demandOf k with
  | none =>
    have same : s.announceDemand k n = s := by unfold State.announceDemand; rw [he]
    rw [same]
    exact .refl s
  | some e =>
    refine ⟨s.announceDemand_frame k n, ?_, fun p hp => ?_⟩
    all_goals rw [State.announceDemand_eq he]
    · dsimp only
      split
      · rw [List.map_map]
        refine List.map_congr_left fun x _ => ?_
        dsimp only [Function.comp]
        split <;> rfl
      · rfl
    · exact s.post_port_other _ _ hp

/-- The position and the other entries are read off the slots of the queue (R129). -/
theorem State.Announced.slots (h : s.Announced t) : t.demand.map DemandEntry.slot = s.demand.map DemandEntry.slot := by
  have slots := congrArg (List.map DemandEntry.slot) h.queue
  rw [List.map_map, List.map_map] at slots
  exact slots

theorem State.Announced.demandOf (h : s.Announced t) (j : Slot) :
    (t.demandOf j).map DemandEntry.muted = (s.demandOf j).map DemandEntry.muted := by
  have found := congrArg (List.find? fun x : DemandEntry => x.slot == j) h.queue
  rw [List.find?_map, List.find?_map] at found
  exact found

/-- The payload of DEMAND_RAISED does not look at the flags (R134). -/
theorem State.Announced.raisedPayload_eq (h : s.Announced t) (he : e.muted = x.muted) (n : RaiseKind) :
    raisedPayload t e n = raisedPayload s x n := by
  have slots : t.slots = s.slots := (congrArg State.slots h.frame :)
  have length : t.demand.length = s.demand.length := by simpa using congrArg List.length h.slots
  have position : t.demandPosition x.slot = s.demandPosition x.slot := by
    have place := congrArg (List.findIdx fun j => j == x.slot) h.slots
    rw [List.findIdx_map, List.findIdx_map] at place
    exact congrArg (· + 1) place
  have slot : e.slot = x.slot := (congrArg DemandEntry.slot he :)
  have cause : e.cause = x.cause := (congrArg DemandEntry.cause he :)
  have raised : e.raised = x.raised := (congrArg DemandEntry.raised he :)
  have hf : e.hf = x.hf := (congrArg DemandEntry.hf he :)
  unfold raisedPayload
  rw [slot, cause, raised, hf, State.slot_congr slots, length, position]

/-- The payloads of the entries of some slots, in queue order (R134). -/
theorem State.Announced.payloads (h : s.Announced t) (P : Slot → Bool) (n : RaiseKind) :
    (t.demand.filter fun e => P e.slot).map (raisedPayload t · n)
      = (s.demand.filter fun e => P e.slot).map (raisedPayload s · n) := by
  have muted (q : List DemandEntry) : (q.filter fun e => P e.slot).map DemandEntry.muted
      = (q.map DemandEntry.muted).filter fun e => P e.slot := by
    rw [List.filter_map]
    rfl
  calc (t.demand.filter fun e => P e.slot).map (raisedPayload t · n)
      = ((t.demand.filter fun e => P e.slot).map DemandEntry.muted).map (raisedPayload s · n) := by
        rw [List.map_map]
        exact List.map_congr_left fun e _ => h.raisedPayload_eq rfl n
    _ = ((s.demand.filter fun e => P e.slot).map DemandEntry.muted).map (raisedPayload s · n) := by
        rw [muted, muted, h.queue]
    _ = _ := by
        rw [List.map_map]
        exact List.map_congr_left fun e _ => (State.Announced.refl s).raisedPayload_eq rfl n

/-! ## The notices, one for each entry (R134) -/

/-- Each of these entries has been announced again, in turn. -/
def State.repeats (l : List DemandEntry) (s : State) : State := l.foldl (fun t e => t.announceDemand e.slot .again) s

theorem State.repeatDemand_eq (s : State) : s.repeatDemand = s.repeats (s.demand.filter fun e => !e.announced) := rfl

theorem State.repeats_cons (e : DemandEntry) (l : List DemandEntry) (s : State) :
    s.repeats (e :: l) = (s.announceDemand e.slot .again).repeats l := rfl

theorem State.announced_repeats (l : List DemandEntry) (s : State) : s.Announced (s.repeats l) := by
  induction l generalizing s with
  | nil => exact .refl s
  | cons e l ih => exact (s.announced_announceDemand e.slot .again).trans (ih _)

theorem State.announced_repeatDemand (s : State) : s.Announced s.repeatDemand := State.announced_repeats ..

theorem State.grown_repeats (l : List DemandEntry) (s : State) : s.Grown (s.repeats l) :=
  Kept.foldl (fun _ e ht => Kept.announceDemand e.slot .again ht) l (State.Grown.refl s).holds

theorem State.demandOf_of_mem (hn : (s.demand.map DemandEntry.slot).Nodup) (hx : x ∈ s.demand) :
    s.demandOf x.slot = some x := by
  cases he : s.demandOf x.slot with
  | none => simpa using List.find?_eq_none.mp he x hx
  | some e => exact congrArg some (List.inj_on_of_nodup_map hn (List.mem_of_find?_eq_some he) hx (State.demandOf_slot he))

/-- OFFICE takes one notice for each of these entries, with the payload that the queue ahead of them gives it (R134, R180). -/
theorem State.repeats_port {l : List DemandEntry} (ha : s.Announced t) (hl : ∀ x ∈ l, s.demandOf x.slot = some x)
    (run : t.run = w.run) (port : t.port .office = w.port .office) : (t.repeats l).port .office
      = ((l.map (raisedPayload s · .again)).foldl (fun v p => v.notify .office 0xC6 p) w).port .office := by
  induction l generalizing t w with
  | nil => exact port
  | cons x l ih =>
    obtain ⟨found, rest⟩ := List.forall_mem_cons.mp hl
    have entry := ha.demandOf x.slot
    rw [found, Option.map_some, Option.map_eq_some_iff] at entry
    obtain ⟨y, stands, same⟩ := entry
    have payload := ha.raisedPayload_eq same .again
    rw [State.repeats_cons, List.map_cons, List.foldl_cons]
    refine ih (ha.trans (t.announced_announceDemand ..)) rest ?_ ?_
    · rw [t.announceDemand_frame, State.notify_run]
      exact run
    · rw [State.announceDemand_eq stands, payload]
      exact State.notify_port_congr run port 0xC6 _

/-! ## The flags (R134) -/

/-- An announcement sets the flag of its slot's entry where the notice is placed (R134, R180). -/
theorem State.announceDemand_flags (s : State) (k j : Slot) (n : RaiseKind) : (s.announceDemand k n).demandOf j
    = (s.demandOf j).map fun e => { e with announced := e.announced || (decide (j = k) && s.noticePlaced .office) } := by
  cases he : s.demandOf k with
  | none =>
    have same : s.announceDemand k n = s := by unfold State.announceDemand; rw [he]
    rw [same]
    by_cases hj : j = k
    · rw [hj, he]; rfl
    · simp [hj]
  | some e =>
    have queue : (s.announceDemand k n).demand = if s.noticePlaced .office then
        s.demand.map fun x => if x.slot == k then { x with announced := true } else x else s.demand := by
      rw [State.announceDemand_eq he]
    unfold State.demandOf
    rw [queue]
    cases s.noticePlaced .office with
    | true =>
      rw [if_pos rfl, find?_modDemand (fun x => { x with announced := true }) fun _ => rfl]
      by_cases hj : j = k <;> simp [hj]
    | false => simp

/-- Whatever has been announced stays so, and each of these entries is while the notices find room (R134, R180). -/
theorem State.repeats_flags (l : List DemandEntry) (he : s.demandOf j = some e) :
    ∃ b, (s.repeats l).demandOf j = some { e with announced := b } ∧ (e.announced = true → b = true)
      ∧ (s.run = .running → ((s.repeats l).port .office).notices.length < Config.noticeRoom →
        (∃ x ∈ l, x.slot = j) → b = true) := by
  induction l generalizing s e with
  | nil => exact ⟨e.announced, he, id, fun _ _ ⟨x, hx, _⟩ => absurd hx List.not_mem_nil⟩
  | cons x l ih =>
    have flagged := s.announceDemand_flags x.slot j .again
    rw [he, Option.map_some] at flagged
    obtain ⟨b, stands, kept, placed⟩ := ih flagged
    have run : (s.announceDemand x.slot .again).run = s.run := (congrArg State.run (s.announceDemand_frame ..) :)
    rw [State.repeats_cons]
    refine ⟨b, stands, fun h => kept (by rw [h]; rfl), fun running room ⟨y, hy, slot⟩ => ?_⟩
    obtain rfl | hy := List.mem_cons.mp hy
    · have grew := (s.grown_repeats (y :: l)).outbox .office
      have fits : (s.port .office).noticeRoom = true :=
        decide_eq_true (lt_of_le_of_lt ((grew.filter OutFrame.isNotice).length_le) room)
      refine kept ?_
      unfold State.noticePlaced
      rw [running, fits, slot]
      simp
    · exact placed (run.trans running) room ⟨y, hy, slot⟩

end

end Sys2Proof.Machine
end

section
/-! SUPPORT. The events of the running time (O26; R54, R55, R118, R122, R124, R134), from the clock, the rates and the
repeats. -/

namespace Sys2Proof.Machine

section
variable {s r w : State} {k : Slot} {e : DemandEntry}

/-! ## The repeats behind the rates (R54, R55, R134) -/

section
variable (h : s.HourRated r)
include h

theorem State.HourRated.slot_repeatDemand (k : Slot) : r.repeatDemand.slot k = (s.slot k).rated := by
  have slots : r.repeatDemand.slots = r.slots := (congrArg State.slots r.announced_repeatDemand.frame :)
  rw [State.slot_congr slots, h.slot]

theorem State.HourRated.frame_repeatDemand : r.repeatDemand
    = { s with slots := r.repeatDemand.slots, demand := r.repeatDemand.demand, ports := r.repeatDemand.ports } := by
  rw [r.announced_repeatDemand.frame, h.frame]

/-- No slot is brought into the queue (R128). -/
theorem State.HourRated.queue_repeatDemand :
    r.repeatDemand.demand.map DemandEntry.slot ⊆ s.demand.map DemandEntry.slot := by
  rw [r.announced_repeatDemand.slots]
  exact h.queue

/-- Each entry has its HF handed over and is announced, unless the notice queue is full by now (R55, R134, R180). -/
theorem State.HourRated.demandOf_repeatDemand (he : s.demandOf k = some e) :
    ∃ b, r.repeatDemand.demandOf k = some { (s.slot k).handed e with announced := b } ∧ (e.announced = true → b = true)
      ∧ (s.run = .running → (r.repeatDemand.port .office).notices.length < Config.noticeRoom → b = true) := by
  have handed := h.demandOf k
  rw [he, Option.map_some] at handed
  obtain ⟨b, stands, kept, placed⟩ := State.repeats_flags (r.demand.filter fun e => !e.announced) handed
  refine ⟨b, stands, kept, fun running room => ?_⟩
  cases flag : e.announced with
  | true => exact kept flag
  | false =>
    have waits : (s.slot k).handed e ∈ r.demand.filter fun e => !e.announced :=
      List.mem_filter.mpr ⟨List.mem_of_find?_eq_some handed, congrArg not flag⟩
    exact placed (h.run.trans running) room ⟨_, waits, State.demandOf_slot handed⟩

/-- OFFICE takes one REPEAT for each entry that was not announced before the event, in the order of the queue behind it, each
with the HF that has been handed over; a state w with the port as before takes the same (R134). -/
theorem State.HourRated.office_repeatDemand (ho : s.demandOrdered) (run : w.run = s.run)
    (port : w.port .office = s.port .office) : r.repeatDemand.port .office
    = ((r.repeatDemand.demand.filter fun e => (s.demandOf e.slot).any fun x => !x.announced).foldl
        (fun u e => u.notify .office 0xC6 (raisedPayload r.repeatDemand e .again)) w).port .office := by
  have entries (x : DemandEntry) (hx : x ∈ r.demand) : r.demandOf x.slot = some x :=
    State.demandOf_of_mem (h.ordered ho).1 hx
  have unannounced : (r.demand.filter fun e => !e.announced)
      = r.demand.filter fun e => (s.demandOf e.slot).any fun x => !x.announced := by
    refine List.filter_congr fun x hx => ?_
    have entry := h.demandOf x.slot
    rw [entries x hx] at entry
    obtain ⟨y, stood, same⟩ := Option.map_eq_some_iff.mp entry.symm
    rw [stood, ← same]
    rfl
  have told := State.repeats_port (State.Announced.refl r)
    (fun x hx => entries x (List.mem_of_mem_filter (p := fun e => !e.announced) hx)) (h.run.trans run.symm)
    ((State.port_congr h.ports .office).trans port.symm)
  have payloads := r.announced_repeatDemand.payloads (fun j => (s.demandOf j).any fun x => !x.announced) .again
  rw [← State.repeatDemand_eq, unannounced, ← payloads, List.foldl_map] at told
  exact told

theorem State.HourRated.others_repeatDemand {p : Port} (hp : p ≠ .office) : r.repeatDemand.port p = s.port p := by
  rw [r.announced_repeatDemand.others p hp, State.port_congr h.ports]

end

/-! ## The events as they are taken (R54, R118, R122, R124) -/

theorem exec_hourEvent_owed (hr : s.run ≠ .off) (hh : s.clock.hoursOwed ≠ 0) :
    ∃ r, s.hourTaken.HourRated r ∧ exec .hourEvent s = .next r.repeatDemand := by
  have run : s.hourEvent = s.reachHour.hourlyUpdate := if_neg hr
  rw [State.reachHour_owed hh] at run
  exact ⟨_, s.hourTaken.hourRated_eachSlot, congrArg Host.Outcome.next run⟩

theorem exec_hourEvent_unsupplied (hr : s.run = .off) (hh : s.clock.hoursOwed ≠ 0) :
    exec .hourEvent s = .next s.hourTaken := by
  rw [← State.reachHour_owed hh]
  exact congrArg Host.Outcome.next (if_pos hr)

/-- What an hour event does beside the clock takes no time and leaves the clock (R124). -/
theorem State.hourEvent_clock (s : State) : s.hourEvent.clock = s.reachHour.clock ∧ s.hourEvent.now = s.reachHour.now := by
  unfold State.hourEvent
  split
  · exact ⟨rfl, rfl⟩
  · have frame := s.reachHour.hourRated_eachSlot.frame_repeatDemand
    exact ⟨(congrArg State.clock frame :), (congrArg State.now frame :)⟩

end

/-- Settles O26: the rates of all slots, the repeats behind them, and the boundaries that the running time reaches. -/
theorem eventsOfTheRunningTime : Obligations.EventsOfTheRunningTime := by
  unfold Obligations.EventsOfTheRunningTime
  refine ⟨nextRate_eq, hoursToFull_floor, fun s => ⟨fun hr hh => ?owedHour, fun hh hc => ?nextHour, exec_hourEvent_unsupplied,
    fun hr hd => ⟨fun same => ?samePeriod, fun valid new => ?newPeriod⟩, fun hd hc => ?nextDay,
    fun hc => ?wrap⟩⟩
  case owedHour =>
    obtain ⟨r, rated, run⟩ := exec_hourEvent_owed hr hh
    refine ⟨r.repeatDemand, run, rated.slot_repeatDemand, rated.queue_repeatDemand, fun k e he => ?_,
      fun ho => rated.office_repeatDemand ho rfl rfl, rated.others_repeatDemand (by decide),
      rated.others_repeatDemand (by decide), rated.frame_repeatDemand⟩
    obtain ⟨b, stands, kept, placed⟩ := rated.demandOf_repeatDemand he
    rw [rated.slot_repeatDemand]
    exact ⟨b, stands, kept, placed⟩
  case nextHour =>
    obtain ⟨clock, now⟩ := s.hourEvent_clock
    refine ⟨_, rfl, ?_⟩
    rw [clock, now]
    exact State.reachHour_next hh hc
  case samePeriod =>
    rw [exec_dayEvent_owed hr hd]
    obtain ⟨-, stays⟩ | ⟨valid, new, -⟩ := State.recomputePeriod_cases (s := s.dayTaken) rfl rfl .day
    · exact congrArg Host.Outcome.next stays
    · exact absurd same (not_or.mpr ⟨by rw [← State.dayTaken_valid, valid]; decide, new⟩)
  case newPeriod =>
    rw [exec_dayEvent_owed hr hd]
    obtain ⟨same, -⟩ | ⟨-, -, told⟩ := State.recomputePeriod_cases (s := s.dayTaken) rfl rfl .day
    · exact absurd (same valid) new
    · exact congrArg Host.Outcome.next told
  case nextDay =>
    obtain ⟨n, clock⟩ := s.dayEvent_clock
    refine ⟨_, rfl, ?_⟩
    rw [clock]
    exact State.reachDay_next hd hc
  case wrap =>
    obtain ⟨time, valid, phase, period⟩ := State.clockWrap_clock hc
    exact ⟨_, rfl, time, valid, phase, period, rfl⟩

end Sys2Proof.Machine
end
